-- ==== Sys2Proof/Word.lean ====
section
/-! DEFINITION. The word types of the CC-480: bytes, 32-bit and 64-bit figures, port masks. -/

namespace Sys2Proof

/-- One byte of host memory, of a serial frame or of a licence record. -/
abbrev Byte := BitVec 8

/-- A 32-bit field: a register, a parameter, a detail word, a generation, a seconds count. -/
abbrev Word := BitVec 32

/-- A 64-bit host memory address. -/
abbrev Addr := BitVec 64

/-- One mark for each of the 256 ports (an access row, R123). -/
abbrev PortMask := BitVec 256

/-- Port p of 0–255 (chapter 1). -/
abbrev Port := Fin 256

/-- Blade slot 0–7. -/
abbrev Slot := Fin 8

end Sys2Proof
end

