-- ==== Sys2Proof/Syntax.lean ====
section
/-! DEFINITION. The commands of the CC-480: one constructor for each row of spec/opcode_table.json, with the names
(blocks, kinds, devices, lines) that their operands need. -/

namespace Sys2Proof

/-- The seven serving blocks, each with one intake queue (chapter "Functional blocks", R167). -/
inductive Server where
  | ptu | lcu | pbu | sls | clc | znu | atu
  deriving DecidableEq, Repr

/-- Who asked the HLI for a host memory access (R173): the AE for an anchor, or the SPW. -/
inductive Requester where
  | anchor (a : Fin 16)
  | spw
  deriving DecidableEq, Repr

/-- The read-only registers of R161. -/
inductive ReadOnlyRegister where
  | partStatus | actionResult | pending
  deriving DecidableEq, Repr

/-- Speed tiers T1, T2, T3. -/
inductive Tier where
  | t1 | t2 | t3
  deriving DecidableEq, Repr

/-- The alarm kinds of R137. -/
inductive AlarmKind where
  | fanStalled | fanSlow | fanTrayAbsent | sensorFailed | tempHigh | tempCritical
  | moduleInputLost | moduleFault | moduleUnknown | redundancyLost | overBudget
  | slotShed | slotPowerFault | slotThermalOff | slotPowerDenied
  | licenceLapsed | portsUnseated | licenceStoreDamaged | fabricLinkLost | alarmTableFull
  deriving DecidableEq, Repr

/-- The 365 records of the Chassis Status Page (R145). -/
inductive PageRecord where
  | header
  | port (p : Port)
  | slot (i : Slot)
  | moduleBay (b : Fin 4)
  | rotor (r : Fin 12)
  | tray (t : Fin 6)
  | sensor (n : Fin 8)
  | zone (z : Fin 3)
  | licenceSummary
  | zoningSummary
  | alarmSummary
  | alarmPlace (k : Fin 64)
  deriving DecidableEq, Repr

/-- The two undebounced lines of a bay (R43). -/
inductive ModuleLine where
  | inputOk | outputOk
  deriving DecidableEq, Repr

/-- The blocks that ask the MLC for transactions (R155). -/
inductive MlcUser where
  | clc | pbu | sls
  deriving DecidableEq, Repr

/-- The eighteen PRESENT lines (R156). -/
inductive PresenceLine where
  | slot (i : Slot)
  | bay (b : Fin 4)
  | tray (t : Fin 6)
  deriving DecidableEq, Repr

/-- The two reports that end start-up (R160). -/
inductive StartUpSource where
  | lcu | tb
  deriving DecidableEq, Repr

/-- One constructor for each row of spec/opcode_table.json. A command that takes a message from another block
carries no operand but what tells the waiting messages apart; the message itself stands in State's bus. A command
from outside the part carries what the outside gives. -/
inductive Instr where
  -- resets and registers
  | powerOnReset
  | managementReset
  | linkReset
  | areaBaseLowWrite (v : Word)
  | areaBaseHighWrite (v : Word)
  | interruptMaskWrite (v : Word)
  | readOnlyRegisterWrite (r : ReadOnlyRegister) (v : Word)
  -- writes to ACTION: the whole 32-bit word written
  | start (w : Word)
  | resume (w : Word)
  | halt (w : Word)
  | accept (w : Word)
  | pageSeen (w : Word)
  -- host memory completions and task outcomes
  | anchorReadDone (a : Fin 16) (bytes : Vector Byte 16)
  | wordFetchDone (a : Fin 16) (bytes : Vector Byte 16)
  | taskOutcome (b : Server)
  | recordWriteDone (a : Fin 16)
  | pieceFetchDone (a : Fin 16) (bytes : Vector Byte 16)
  | dataReadDone (a : Fin 16) (bytes : List Byte)
  | dataWriteDone (a : Fin 16)
  | hostAccessFailed (r : Requester)
  | hostAccessTimeout (r : Requester)
  -- Port Table Unit
  | portEnable
  | portDisable
  | claimAnswer
  | slotOnlineReport
  | slotLeftOnlineReport
  | identificationSweep
  | zoneCount
  | grantReport
  | withdrawal
  -- Licence Unit and Licence Store
  | licenceCellReadDone
  | licenceInstall
  | licenceRemove
  | licenceFreeze
  | licenceReport
  | storeWriteDone (good : Bool)
  | hourTick
  | withdrawalAnswer
  -- Power Budget Unit
  | bayPresenceGained
  | bayPresenceLost
  | moduleInventoryAnswer
  | moduleRetryTimer (b : Fin 4)
  | moduleLineChange (b : Fin 4) (line : ModuleLine) (level : Bool)
  | telemetryAnswer
  | powerPolicy
  | portClaim
  | tierClaim
  | wakeClaimJudged
  | slotClaim
  | portRelease
  | tierReturn
  | standbyStepDown
  | slotRelease
  | dutyReport
  | priorityUpdate
  | startupHoldRelease
  | graceTimerExpiry
  | intervalTimerExpiry
  | shedAnswer
  -- Slot Sequencer
  | slotPresenceGained
  | slotPresenceLost
  | slotInventoryAnswer
  | slotRetryTimer (i : Slot)
  | sweepDone
  | slotClaimAnswer
  | railGoodRise (i : Slot) (rail : Fin 3)
  | railTimerExpiry (i : Slot)
  | settleTimerExpiry (i : Slot)
  | railGoodFall (i : Slot) (rail : Fin 3)
  | useNoticeTaken
  | idleTimeUpdate
  | idleTimerExpiry (i : Slot)
  | wakeRequest
  | slotPowerOn
  | slotPowerOff
  | slotConfig
  | shedOrder
  | thermalOffOrder
  | hotFlagReport
  -- Time Base tick and Cooling Controller
  | cycleTick
  | sensorAnswer
  | thermalProfile
  | tachEdge (r : Fin 12)
  | stallTimerExpiry (r : Fin 12)
  | spinupTimerExpiry (t : Fin 6)
  | holdTimerExpiry (z : Fin 3)
  | trayPresenceLost
  | trayPresenceGained
  | trayInventoryAnswer
  | trayRetryTimer (t : Fin 6)
  -- Zoning Unit
  | zoneStage
  | zoneStageRecord
  | zoneDrop
  | zoneCommitVerify
  | zoneCommitApply
  | switchSent
  | committed
  | failed
  | abandoned
  | stagedCopy
  | zoneRead
  | zoneFindLoad
  | zoneFind
  -- Matrix Writer
  | acknowledgement (frame : List Byte)
  | ackTimerExpiry
  | probeTimerExpiry
  | recomputeAddition
  | buildRequest
  | activeSetReplaced
  -- Alarm Table Unit
  | raise (kind : AlarmKind) (object : Nat)
  | clear (kind : AlarmKind) (object : Nat)
  | alarmAcknowledge
  -- Status Page Writer
  | dirtyMark (r : PageRecord)
  | batchBegin
  | batchTimerExpiry
  | pageWriteDone
  | pageWriteFailed
  -- Module Line Controller
  | mlcRequest (who : MlcUser)
  | transactionBegin
  | requestSent
  | answerFrame (bytes : List Byte)
  | answerTimerExpiry
  | lineActivity
  | recoveryIdle (bitTimes : Nat)
  -- Time Base and start-up
  | presenceLineChange (line : PresenceLine) (present : Bool)
  | pendingTimerExpiry (line : PresenceLine)
  | startUpReport (src : StartUpSource)
  | powerLoss
  deriving DecidableEq, Repr

end Sys2Proof
end

