-- ==== Sys2Proof/Decode.lean ====
section
/-! DEFINITION. The command that a word spells by the bits of the command table: the table gives no row any bits, so no
word spells one (log entry 3). The formats that the part reads and writes stand in Machine/Operands.lean and
Machine/Formats.lean. -/

namespace Sys2Proof

/-- No row of the table has bits. -/
def decodeTableWord (_nbits _w : Nat) : Option Instr := none

end Sys2Proof
end

