-- ==== Sys2Proof/Config.lean ====
section
/-! DEFINITION. The free values: what the book leaves open, as constants with no body, so that no proof can lean on a value. -/

namespace Sys2Proof

/-- A 32-bit field to which the book gives no value (log entry 7): the n-th such field of a run. -/
opaque Config.freeWord : Nat → Word

/-- The mixture of old and new content that a FAILED store cell may hold (R20, log entry 8): byte k of the mask
of the n-th failed write; a set bit takes the new content, a clear bit the old. -/
opaque Config.storeMix : Nat → Nat → Byte

/-- The fields of an erased store cell, which have no meaning (R20, log entry 8): byte k of the n-th erase. -/
opaque Config.storeErased : Nat → Nat → Byte

/-- How far a ZONE FIND had searched when the delivery of its output stopped (R119, log entry 9); used within the
bounds that the book sets. -/
opaque Config.findProgress : Nat → Nat

end Sys2Proof
end

