-- ==== Sys2Proof/Machine/Types.lean ====
section
/-! DEFINITION. The state each block holds, as plain data, and the messages that pass between blocks. Field docstrings
cite the rule that names the item; items marked MODEL are the model's own (INVENTORY.md says why). -/

namespace Sys2Proof.Machine

open Sys2Proof

/-- A timer as its owner sees it. The passing of time is the environment's: an expiry is a command. `ms` is the time
the timer was last loaded with. `runOut` is the state of a stall timer that has expired and waits for an edge (R97). -/
inductive Timer where
  | stopped
  | running (ms : Nat)
  | runOut
  deriving DecidableEq, Repr

/-- One figure for each tier: the counts H1–H3 and G1–G3. -/
structure Counts where
  t1 : Nat
  t2 : Nat
  t3 : Nat
  deriving DecidableEq, Repr

/-! ### Tasks, outcomes, host accesses -/

/-- A 16-byte task word, field by field (chapter 11, "Anchor, task word and data piece"). -/
structure TaskWord where
  code : Byte
  flags : Byte
  count : BitVec 16
  param : Word
  addr : Addr
  deriving DecidableEq, Repr

/-- The fields of a 16-byte data piece that the part reads. -/
structure DataPiece where
  flags : Byte
  count : BitVec 16
  addr : Addr
  deriving DecidableEq, Repr

/-- Refusal and format reasons (11.3). -/
inductive Reason where
  | badParameter | noSlot | tierUnsupported | noSeat | noPower | frozen | lockedOut | invalidLicence | wrongChassis
  | duplicate | tableFull | storeFailed | notFound | protectedCell | badPolicy | tooHot | slotChanged | identifyFailed
  | badProfile | malformedZone | zoneSetFull | stagedChanged | portOverzoned | fabricDown | fabricFailed
  | unknownTask | countInvalid | misaligned | areaCrosses | suspendNotAllowed | skipOnInput | pieceOverrun | pieceShort
  | pieceInvalid | jumpToJump
  deriving DecidableEq, Repr

/-- The four detail words of a task. -/
structure Details where
  w0 : Word
  w1 : Word
  w2 : Word
  w3 : Word
  deriving DecidableEq, Repr

/-- How a block ends a task. `stopped`: the delivery of its data stopped, and class and reason are the AE's (R167). -/
inductive OutcomeClass where
  | normal
  | refused (r : Reason)
  | abandoned
  | stopped
  deriving DecidableEq, Repr

/-- A block's outcome on its way to the AE; `anchor` is none once the task has been detached (R176). `taken`: the input
bytes that the block had taken, when it ended the task before its data was used up (R173). -/
structure OutcomeMsg where
  server : Server
  anchor : Option (Fin 16)
  cls : OutcomeClass
  details : Details
  taken : Option Nat := none
  deriving DecidableEq, Repr

/-- A task in service at a block: whose it is, its word, the input bytes the AE has handed over and the output bytes
not yet moved. -/
structure Service where
  anchor : Option (Fin 16)
  word : TaskWord
  input : List Byte
  output : List Byte
  deriving DecidableEq, Repr

/-- One serving block's intake queue, oldest first, and its task in service (R167). -/
structure Station where
  queue : List (Fin 16 × TaskWord)
  service : Option Service
  deriving DecidableEq, Repr

/-- What a host memory access is for (R173). -/
inductive AccessKind where
  | anchorRead
  | wordFetch
  | pieceFetch
  | dataRead
  | dataWrite
  | record
  | page
  deriving DecidableEq, Repr

/-- One host memory access in flight: address, length, and for a write the bytes written. -/
structure Access where
  req : Requester
  kind : AccessKind
  addr : Addr
  len : Nat
  data : List Byte
  deriving DecidableEq, Repr

/-! ### Port Table Unit -/

/-- Port states (R1). -/
inductive PortState where
  | disabled | inService | parked | unseated
  deriving DecidableEq, Repr

/-- Last-change reasons (R1). -/
inductive PortReason where
  | hostEnable | hostDisable | seatGranted | reseated | lapsed | slotDown | slotShed | slotThermal | slotRemoved
  | slotUp | tierUnsupported
  deriving DecidableEq, Repr

/-- Slot states (R62). -/
inductive SlotState where
  | empty | identifying | off | powering | online | standby | shed | thermalOff | fault
  deriving DecidableEq, Repr

/-- The causes an SLS report carries (R62). -/
inductive ReportCause where
  | removed | inserted | identified | hostOff | admitted | wake | rampDone | idle | shed | thermal | identifyFailed
  | railFault
  deriving DecidableEq, Repr

/-- A port record (R1). -/
structure PortRec where
  state : PortState
  reqTier : Tier
  seat : Option Tier
  reason : PortReason
  zoneCount : Nat
  deriving DecidableEq, Repr

/-- An entry of the PTU's slot view (R3). -/
structure SlotView where
  state : SlotState
  maxTier : Option Tier
  deriving DecidableEq, Repr

/-- The claim the PTU has outstanding (R5): a port claim with the seat noted at step 3 of R6, a tier claim with the
new tier and the WAIT option (R8), or a wake claim (R16). -/
inductive PtuClaim where
  | port (p : Port) (t : Tier) (seat : Option Tier)
  | tier (p : Port) (new : Tier) (wait : Bool)
  | wake (i : Slot)
  deriving DecidableEq, Repr

/-- PTU to PBU: claims and releases (R5). -/
inductive PtuToPbu where
  | portClaim (p : Port) (t : Tier)
  | tierClaim (p : Port) (old new : Tier)
  | wakeClaim (i : Slot)
  | portRelease (p : Port)
  | tierReturn (p : Port) (t : Tier)
  deriving DecidableEq, Repr

/-- The PBU's three answers (R5, R52). -/
inductive Grant where
  | refused | granted | grantedWithWake
  deriving DecidableEq, Repr

/-- PBU to PTU: the answer and the amount by which the claim changed D (R52). -/
structure ClaimAnswer where
  grant : Grant
  amount : Int
  deriving DecidableEq, Repr

/-- SLS to PTU: transition reports and identification sweep requests (R3). The tag of a sweep request is MODEL: it
lets the SLS know an answer to an abandoned identification (R80). -/
inductive SlsToPtu where
  | report (i : Slot) (state : SlotState) (cause : ReportCause)
  | sweep (i : Slot) (maxTier : Tier) (tag : Nat)
  deriving DecidableEq, Repr

/-- PTU to SLS: slot use notices, wake requests and sweep answers (R7, R13, R17). -/
inductive PtuToSls where
  | useNotice (i : Slot) (inUse : Bool)
  | wake (i : Slot)
  | sweepDone (i : Slot) (tag : Nat)
  deriving DecidableEq, Repr

/-- LCU to PTU: grant reports and withdrawals, each with the three sent counts (R25). -/
inductive LcuToPtu where
  | grant (sent : Counts)
  | withdrawal (sent : Counts)
  deriving DecidableEq, Repr

/-- An input the PTU holds while a claim is outstanding, in arrival order (R4). `task`: the next task word. -/
inductive PtuHeld where
  | sls (m : SlsToPtu)
  | lcu (m : LcuToPtu)
  | task
  deriving DecidableEq, Repr

/-- The Port Table Unit (R1, R3, R4, R34, R36). -/
structure Ptu where
  /-- the 256 port records (R1) -/
  ports : Vector PortRec 256
  /-- the wait list, oldest first (R36) -/
  waitList : List Port
  /-- the held-seat counts H1–H3 (R34) -/
  held : Counts
  /-- the copies of G1–G3 (R34) -/
  granted : Counts
  /-- the slot view (R3) -/
  view : Vector SlotView 8
  /-- the claim outstanding (R4) -/
  claim : Option PtuClaim
  /-- inputs held while a claim is outstanding (R4) -/
  heldInputs : List PtuHeld
  deriving DecidableEq, Repr

/-! ### Licence Unit and Licence Store -/

/-- A 64-byte licence record (R19). -/
abbrev LicenceRecord := Vector Byte 64

/-- Licence cell states (R22). -/
inductive CellState where
  | empty | valid | lapsed | damaged
  deriving DecidableEq, Repr

/-- A cell record of the LCU (R22). -/
structure LicenceCell where
  state : CellState
  hours : Nat
  record : LicenceRecord
  withdrawing : Bool
  deriving DecidableEq, Repr

/-- The content of a store queue entry (R24). -/
inductive StoreContent where
  | write (hours : Nat) (record : LicenceRecord)
  | erase
  deriving DecidableEq, Repr

/-- Who is told of a store write's outcome (R24). -/
inductive StoreRequester where
  | task | hourBookkeeping
  deriving DecidableEq, Repr

/-- An entry of the store write queue (R24). -/
structure StoreEntry where
  cell : Fin 32
  content : StoreContent
  who : StoreRequester
  deriving DecidableEq, Repr

/-- A nonvolatile cell of the Licence Store (R20). -/
structure StoreCell where
  occupied : Bool
  hours : Nat
  record : LicenceRecord
  deriving DecidableEq, Repr

/-- The Licence Store: chassis serial, 32 cells, and the write or erase in progress (R20). -/
structure Lst where
  serial : BitVec 64
  cells : Vector StoreCell 32
  busy : Option StoreEntry
  deriving DecidableEq, Repr

/-- The withdrawal state (R22): for held lapses (R31) or for a removal (R28). -/
inductive Withdrawal where
  | idle
  | lapse
  | removal (c : Fin 32)
  deriving DecidableEq, Repr

/-- What the LCU's task in service waits for (R26 to R30). -/
inductive LcuTask where
  | idle
  /-- an install whose bytes are arriving -/
  | collecting
  /-- an install whose write waits or runs -/
  | installing (c : Fin 32) (record : LicenceRecord)
  /-- a remove that waits until no withdrawal is outstanding -/
  | removeWaiting (id : Word)
  /-- a remove whose withdrawal is at the PTU -/
  | removeWithdrawing (c : Fin 32)
  /-- a remove whose erase waits or runs: cell, its state before removal, the seats withdrawn -/
  | erasing (c : Fin 32) (was : CellState) (seats : Nat)
  /-- a report: the number of non-EMPTY cells of the copy -/
  | reporting (cells : Nat)
  deriving DecidableEq, Repr

/-- The Licence Unit with its store (R20, R22). -/
structure Lcu where
  /-- the 32 cell records (R22) -/
  cells : Vector LicenceCell 32
  /-- G1–G3 (R25) -/
  granted : Counts
  /-- 0–5 (R22) -/
  failedInstalls : Nat
  /-- the freeze flag (R22, R29) -/
  freeze : Bool
  /-- the store write queue, oldest first (R24) -/
  storeQueue : List StoreEntry
  /-- none or one withdrawal outstanding (R22, R25) -/
  withdrawal : Withdrawal
  /-- the phase of the task in service (R26 to R30) -/
  task : LcuTask
  /-- how many cells the start-up read has judged (R23) -/
  startRead : Nat
  /-- the LCU's copy of the chassis serial (R20) -/
  serialCopy : BitVec 64
  /-- the Licence Store (R20) -/
  lst : Lst
  deriving DecidableEq, Repr

/-! ### Power Budget Unit -/

/-- Module states (R40). -/
inductive ModuleState where
  | absent | identifying | ok | inputLost | outputFault | unknownModule
  deriving DecidableEq, Repr

/-- Telemetry states (R40). -/
inductive Telemetry where
  | fresh | held1 | held2 | held3
  deriving DecidableEq, Repr

/-- A module record (R40). `polls` holds the tags of the polls not yet answered ("poll outstanding" is `polls ≠ []`);
`epoch` is MODEL: the number of abandonments so far, by which answers of abandoned requests are known. -/
structure ModuleRec where
  state : ModuleState
  wr : Nat
  tin : Int
  telemetry : Telemetry
  outputWatts : Nat
  available : Nat
  tryNo : Option Nat
  retryTimer : Timer
  polls : List Nat
  epoch : Nat
  deriving DecidableEq, Repr

/-- Redundancy modes (R45). -/
inductive RedundancyMode where
  | combined | nPlus1 | grid
  deriving DecidableEq, Repr

/-- The power policy (R45). -/
structure PowerPolicy where
  mode : RedundancyMode
  wb : Nat
  port : Counts
  grace : Nat
  idle : Nat
  deriving DecidableEq, Repr

/-- The standing of a slot entry (R50). -/
inductive Standing where
  | unpowered | standby | powered
  deriving DecidableEq, Repr

/-- A slot entry of the reservation table (R50). -/
structure SlotEntry where
  standing : Standing
  ws : Nat
  wsb : Nat
  priority : Nat
  shedPending : Bool
  ports : List (Port × Tier)
  deriving DecidableEq, Repr

/-- A tray entry of the reservation table (R49). -/
structure TrayEntry where
  present : Bool
  fmax : Nat
  duty : Nat
  deriving DecidableEq, Repr

/-- The over-budget machine (R57). -/
inductive BudgetState where
  | within | grace | shedding | exhausted
  deriving DecidableEq, Repr

/-- SLS to PBU: slot claims, releases, step-downs, priorities and shed answers (R54, R55, R60, R76). -/
inductive SlsToPbu where
  | slotClaim (i : Slot) (ws wsb : Nat)
  | slotRelease (i : Slot)
  | stepDown (i : Slot)
  | priority (i : Slot) (v : Nat)
  | shedAnswer (i : Slot) (shed : Bool)
  deriving DecidableEq, Repr

/-- PBU to SLS: claim answers, shed orders and the slot idle time (R46, R54, R60). -/
inductive PbuToSls where
  | claimAnswer (i : Slot) (granted : Bool) (amount : Int)
  | shedOrder (i : Slot)
  | idleTime (minutes : Nat)
  deriving DecidableEq, Repr

/-- A claim held during the start-up hold (R56). -/
inductive HeldClaim where
  | ptu (m : PtuToPbu)
  | sls (i : Slot) (ws wsb : Nat)
  deriving DecidableEq, Repr

/-- CLC to PBU: a duty report (R98). -/
structure DutyReport where
  tray : Fin 6
  present : Bool
  fmax : Nat
  duty : Nat
  deriving DecidableEq, Repr

/-- The Power Budget Unit (chapter 3). -/
structure Pbu where
  /-- the four module records (R40) -/
  modules : Vector ModuleRec 4
  /-- the power policy (R45) -/
  policy : PowerPolicy
  /-- the slot entries of the reservation table (R50) -/
  slots : Vector SlotEntry 8
  /-- the tray entries of the reservation table (R49) -/
  trays : Vector TrayEntry 6
  /-- U (R48) -/
  usable : Nat
  /-- D (R51); H is `usable − demand` -/
  demand : Nat
  /-- whether the REDUNDANCY_LOST condition held at the last computation of U (R48) -/
  redundancyLost : Bool
  /-- the over-budget machine (R57) -/
  budget : BudgetState
  graceTimer : Timer
  intervalTimer : Timer
  /-- the start-up hold (R56) -/
  hold : Bool
  /-- bays that the start-up scan found present (R56, R157) -/
  awaited : Vector Bool 4
  /-- bays that have finished (R56) -/
  finished : Vector Bool 4
  /-- claims held, in arrival order (R56) -/
  heldClaims : List HeldClaim
  deriving DecidableEq, Repr

/-! ### Slot Sequencer -/

/-- Fault causes (R61). -/
inductive FaultCause where
  | none
  | inventory
  | rail (n : Fin 3)
  deriving DecidableEq, Repr

/-- A blade's inventory (R61). -/
structure Inventory where
  ws : Nat
  wsb : Nat
  maxTier : Tier
  blade : Byte
  deriving DecidableEq, Repr

/-- Ramp phases (R68). -/
inductive RampPhase where
  | railWait (n : Fin 3)
  | settle
  deriving DecidableEq, Repr

/-- The ramp context (R61, R68). -/
structure Ramp where
  phase : RampPhase
  waking : Bool
  deriving DecidableEq, Repr

/-- The identification context (R61); `byTask`: started by a SLOT POWER task (R74). -/
structure Identification where
  tryNo : Nat
  sweepPending : Bool
  byTask : Bool
  deriving DecidableEq, Repr

/-- The origin of an admission (R66). -/
inductive Origin where
  | autoOn | task
  deriving DecidableEq, Repr

/-- A slot claim in flight (R61, R66). -/
structure ClaimInFlight where
  origin : Origin
  fromState : SlotState
  withdrawn : Bool
  deriving DecidableEq, Repr

/-- A slot record (R61). `rampTimer` is the rail timer in RAIL_WAIT and the settle timer in SETTLE. `orphanTask`: a
SLOT POWER task whose deferred admission was dropped by a removal waits for the withdrawn claim's answer (R80).
`epoch` is MODEL: the number of identifications abandoned or ended, by which late answers are known. -/
structure SlotRec where
  state : SlotState
  inventory : Option Inventory
  priority : Nat
  autoOn : Bool
  inUse : Bool
  idleTimer : Timer
  ramp : Option Ramp
  rampTimer : Timer
  ident : Option Identification
  retryTimer : Timer
  claim : Option ClaimInFlight
  deferred : Option Origin
  orphanTask : Bool
  cause : FaultCause
  railEn : Vector Bool 3
  epoch : Nat
  deriving DecidableEq, Repr

/-- The Slot Sequencer (R61). `taskSlot` is the slot the SLOT POWER in service waits on (R66, R74). -/
structure Sls where
  slots : Vector SlotRec 8
  idleMinutes : Nat
  hot : Vector Bool 2
  taskSlot : Option Slot
  deriving DecidableEq, Repr

/-! ### Cooling Controller -/

/-- Sensor states (R81). -/
inductive SensorState where
  | absent | ok | held1 | held2 | failed
  deriving DecidableEq, Repr

/-- A sensor record (R81). -/
structure SensorRec where
  state : SensorState
  value : Int
  readOutstanding : Bool
  staleReads : Nat
  deriving DecidableEq, Repr

/-- Thermal states of a zone (R100). -/
inductive ThermalState where
  | clear | critical | holding | tripped
  deriving DecidableEq, Repr

/-- A zone record (R81); `tz = none` is UNKNOWN. -/
structure ZoneRec where
  tz : Option Int
  duty : Nat
  boosted : Bool
  high : Bool
  thermal : ThermalState
  holdTimer : Timer
  deriving DecidableEq, Repr

/-- Tray states (R81). -/
inductive TrayState where
  | absent | identifying | spinup | running
  deriving DecidableEq, Repr

/-- Inventory sources (R81). -/
inductive InventorySource where
  | none | identified | default
  deriving DecidableEq, Repr

/-- A tray record (R81) with its PWM width latch (R91). `retryTimer` is the 100 ms wait of R93; `epoch` is MODEL. -/
structure TrayRec where
  state : TrayState
  source : InventorySource
  fmax : Nat
  rmax : Nat
  tryNo : Option Nat
  duty : Nat
  spinTimer : Timer
  retryTimer : Timer
  pwmLatch : Nat
  epoch : Nat
  deriving DecidableEq, Repr

/-- Rotor states (R81). -/
inductive RotorState where
  | absent | spinup | ok | slow | stalled
  deriving DecidableEq, Repr

/-- A rotor record (R81). -/
structure RotorRec where
  state : RotorState
  pulses : Nat
  lastPulses : Nat
  lastRpm : Nat
  windowDuty : Option Nat
  slowRun : Nat
  goodRun : Nat
  stallTimer : Timer
  armed : Bool
  deriving DecidableEq, Repr

/-- The thermal profile of one zone (R82). -/
structure ZoneProfile where
  tlow : Int
  thigh : Int
  dmin : Nat
  dmax : Nat
  twarn : Int
  tcrit : Int
  deriving DecidableEq, Repr

/-- CLC to SLS: thermal-off orders and hot flags (R79, R100). -/
inductive ClcToSls where
  | thermalOff (i : Slot)
  | hotFlag (z : Fin 2) (hot : Bool)
  deriving DecidableEq, Repr

/-- The Cooling Controller (R81, R82). -/
structure Clc where
  profile : Vector ZoneProfile 3
  /-- the sensor presence mask, sensor n in bit n (R82) -/
  mask : Byte
  sensors : Vector SensorRec 8
  zones : Vector ZoneRec 3
  trays : Vector TrayRec 6
  rotors : Vector RotorRec 12
  deriving DecidableEq, Repr

/-! ### Zoning Unit -/

/-- Default access of a zone set (R102). -/
inductive DefaultAccess where
  | all | none
  deriving DecidableEq, Repr

/-- A zone (R102). -/
structure Zone where
  id : Nat
  label : Vector Byte 16
  members : List Port
  deriving DecidableEq, Repr

/-- A zone set (R102, R103). -/
structure ZoneSet where
  access : DefaultAccess
  gen : Word
  zones : List Zone
  deriving DecidableEq, Repr

/-- Commit phases (chapter 6.5). -/
inductive CommitPhase where
  | idle | building | switching
  deriving DecidableEq, Repr

/-- Which of the two sets. -/
inductive SetName where
  | active | staged
  deriving DecidableEq, Repr

/-- What the ZNU's task in service holds. -/
inductive ZnuTask where
  | idle
  /-- a ZONE STAGE: the staged set when the task was taken, records applied, bytes of the data used -/
  | staging (before : ZoneSet) (applied : Nat) (used : Nat)
  /-- a ZONE FIND LOAD -/
  | loading
  /-- a ZONE COMMIT in APPLY mode -/
  | applying
  /-- a ZONE READ -/
  | reading (set : SetName)
  /-- a ZONE FIND: start index, zones of the set, zones examined by the whole search, indices of the hits -/
  | finding (start zones examined : Nat) (hits : List Nat)
  deriving DecidableEq, Repr

/-- ZNU to MXW: build requests and the answer that the active set has been replaced (R111, R112). -/
inductive ZnuToMxw where
  | build
  | replaced
  deriving DecidableEq, Repr

/-- MXW to ZNU: the answers of R111; FAILED and ABANDONED carry the build cursor. -/
inductive MxwToZnu where
  | switchSent
  | committed
  | failed (cursor : Nat)
  | abandoned (cursor : Nat)
  deriving DecidableEq, Repr

/-- The Zoning Unit (chapter 6). `copyDue`: a management reset's copy waits for the task in service (R105).
`abandonSent`: an abandon request has been sent for the commit in service (R114). -/
structure Znu where
  active : ZoneSet
  staged : ZoneSet
  findBuffer : List Port
  phase : CommitPhase
  task : ZnuTask
  copyDue : Bool
  abandonSent : Bool
  deriving DecidableEq, Repr

/-! ### Matrix Writer -/

/-- The messages the part sends on the Fabric Table Link (R123). -/
inductive FabricMsg where
  | rowWrite (bank : Fin 2) (row : Port) (mask : PortMask)
  | bankSwitch (bank : Fin 2)
  | probe
  deriving DecidableEq, Repr

/-- The outstanding message: its body, number and try (R122, R124). -/
structure Outstanding where
  msg : FabricMsg
  number : Byte
  retry : Bool
  deriving DecidableEq, Repr

/-- The refresh or recompute item in hand (R128): the next row of a refresh, or the rows an item has yet to bring up
to date, each with `true` for the active bank and `false` for the inactive one (R130). -/
inductive Foreground where
  | none
  | refresh (next : Nat)
  | item (rows : List (Bool × Port))
  deriving DecidableEq, Repr

/-- The commit work in hand beneath it (R128). -/
inductive Background where
  | none
  | build
  | switching
  | handover
  deriving DecidableEq, Repr

/-- The Matrix Writer (R122). `probeDue`: the probe timer expired while a probe was outstanding (R126). -/
structure Mxw where
  linkUp : Bool
  lost : Bool
  activeBank : Option (Fin 2)
  shadows : Vector (Vector (Option PortMask) 256) 2
  outstanding : Option Outstanding
  ackTimer : Timer
  number : Byte
  fullRefresh : Bool
  recompute : List Port
  fore : Foreground
  back : Background
  cursor : Nat
  abandon : Bool
  probeTimer : Timer
  probeDue : Bool
  deriving DecidableEq, Repr

/-! ### Alarm Table Unit -/

/-- Alarm record states (R136). -/
inductive AlarmState where
  | activeUnacked | activeAcked | clearedUnacked
  deriving DecidableEq, Repr

/-- Severities (R136). -/
inductive Severity where
  | warning | major | critical
  deriving DecidableEq, Repr

/-- An alarm record (R136). -/
structure AlarmRec where
  kind : AlarmKind
  object : Nat
  severity : Severity
  state : AlarmState
  raiseCount : Nat
  firstRaised : Word
  lastChange : Word
  deriving DecidableEq, Repr

/-- A raise or clear request on its way to the ATU (R137). -/
structure AlarmRequest where
  raised : Bool
  kind : AlarmKind
  object : Nat
  deriving DecidableEq, Repr

/-- The Alarm Table Unit (R136). -/
structure Atu where
  table : Vector (Option AlarmRec) 64
  dropped : Nat
  relay : Bool
  ledCrit : Bool
  ledMaj : Bool
  deriving DecidableEq, Repr

/-! ### Status Page Writer -/

/-- Area states (R146). -/
inductive AreaState where
  | unset | active | fault
  deriving DecidableEq, Repr

/-- The batch in progress (R146): step 1 with the batch's records, step 2 with the records still to write after the
one being written, step 3. -/
inductive Batch where
  | oddGeneration (records : List PageRecord)
  | records (rest : List PageRecord)
  | evenGeneration
  deriving DecidableEq, Repr

/-- The Status Page Writer (R145, R146); `dirty` is kept in ascending page order without duplicates. -/
structure Spw where
  dirty : List PageRecord
  gen : Word
  batchTimer : Timer
  area : AreaState
  batch : Option Batch
  deriving DecidableEq, Repr

/-! ### Module Line Controller -/

/-- The 26 devices of the line (R152). -/
inductive Device where
  | moduleBay (b : Fin 4)
  | tray (t : Fin 6)
  | slotMemory (i : Slot)
  | sensor (n : Fin 8)
  deriving DecidableEq, Repr

/-- The commands of the line (R152). -/
inductive LineCommand where
  | inventory | telemetry | read
  deriving DecidableEq, Repr

/-- A request to the MLC; the tag is MODEL: it comes back with the answer. -/
structure MlcRequest where
  who : MlcUser
  dev : Device
  cmd : LineCommand
  tag : Nat
  deriving DecidableEq, Repr

/-- A queue entry: device, command and the requests it serves, in the order made (R151). -/
structure MlcEntry where
  dev : Device
  cmd : LineCommand
  requests : List MlcRequest
  deriving DecidableEq, Repr

/-- The outcome of a transaction (R153). -/
inductive LineOutcome where
  | ok (data : List Byte)
  | noAnswer
  | badCheck
  deriving DecidableEq, Repr

/-- An outcome delivered to a requester (R155). -/
structure MlcAnswer where
  req : MlcRequest
  outcome : LineOutcome
  deriving DecidableEq, Repr

/-- Line states (R151). -/
inductive LineState where
  | idle | sending | awaiting | recovery
  deriving DecidableEq, Repr

/-- The Module Line Controller (R151). `sent` is the last request frame (R152), `received` the answer bytes so far
(R153), `idleBits` the idle bit times counted in RECOVERY (R154). -/
structure Mlc where
  line : LineState
  current : Option MlcEntry
  queue : List MlcEntry
  sent : List Byte
  received : List Byte
  answerTimer : Timer
  idleBits : Nat
  deriving DecidableEq, Repr

/-! ### Time Base and pins -/

/-- A presence debouncer (R156). -/
structure Debouncer where
  reported : Option Bool
  timer : Timer
  deriving DecidableEq, Repr

/-- The Time Base (R156, R158). -/
structure Tb where
  seconds : Word
  tickPhase : Timer
  hourCount : Nat
  slots : Vector Debouncer 8
  bays : Vector Debouncer 4
  trays : Vector Debouncer 6
  /-- whether the HLI has been told that the scan is taken (R157) -/
  scanTold : Bool
  deriving DecidableEq, Repr

/-- The levels of the chassis input lines that the part senses (9.6). -/
structure Pins where
  railGood : Vector (Vector Bool 3) 8
  inputOk : Vector Bool 4
  outputOk : Vector Bool 4
  slotPresent : Vector Bool 8
  bayPresent : Vector Bool 4
  trayPresent : Vector Bool 6
  deriving DecidableEq, Repr

/-! ### Host Link Interface and Anchor Engine -/

/-- Result codes of ACTION RESULT (R163, 11.1). -/
inductive ActionOutcome where
  | none | done | busy | noArea | notSuspended | noStatus | noEffect | recordLost | notReady | badAction | badAnchor
  deriving DecidableEq, Repr

/-- The ACTION RESULT register (R161). -/
structure ActionResult where
  code : Byte
  anchor : Byte
  result : ActionOutcome
  deriving DecidableEq, Repr

/-- The Host Link Interface (R160, R161, R162). The anchor bits of PENDING are the contexts' notices (R175). -/
structure Hli where
  ready : Bool
  /-- the LCU's start-up report has been taken (R160) -/
  lcuReported : Bool
  /-- the TB's scan report has been taken (R160) -/
  tbReported : Bool
  areaLow : Word
  areaHigh : Word
  /-- the Control Area base, changed by writes of AREA BASE HIGH alone (R162) -/
  base : Addr
  result : ActionResult
  /-- INTERRUPT MASK: bits 15–0 the anchors, bit 16 page-changed -/
  mask : BitVec 17
  /-- the page-changed bit of PENDING (R150) -/
  pageChanged : Bool
  /-- the interrupt (R175) -/
  interrupt : Bool
  deriving DecidableEq, Repr

/-- Anchor states (R164). -/
inductive AnchorState where
  | idle | active | suspended | halting | statusPending
  deriving DecidableEq, Repr

/-- What an anchor has in flight (R164). -/
inductive InFlight where
  | none | fetch | queued | inService | record
  deriving DecidableEq, Repr

/-- An anchor's notice (R164). -/
inductive Notice where
  | none | closing | suspension
  deriving DecidableEq, Repr

/-- Anchor options (R164, 11.2). -/
structure Options where
  interruptOnClose : Bool
  suspendAllowed : Bool
  quietSuspend : Bool
  deriving DecidableEq, Repr

/-- The current word: its address, and its content once fetched (R164). -/
structure CurrentWord where
  addr : Addr
  content : Option TaskWord
  deriving DecidableEq, Repr

/-- The movement of a word's data (R172, R173): the piece cursor (next piece, running sum, bytes moved) and what the
piece in control is. -/
structure Movement where
  input : Bool
  list : Bool
  /-- address of the next piece, or of the one area without LIST -/
  next : Addr
  /-- address of the piece in control -/
  piece : Addr
  sum : Nat
  moved : Nat
  /-- the piece in control carries LAST -/
  last : Bool
  /-- the piece being fetched is the target of a JUMP piece -/
  jumped : Bool
  /-- TRUNCATED (R173) -/
  truncated : Bool
  deriving DecidableEq, Repr

/-- The AE's own class for a task whose data movement failed (R167, R173): FORMAT with a reason, or MEMORY_FAULT
(no reason), and the fault address. -/
structure MoveFailure where
  reason : Option Reason
  address : Addr
  deriving DecidableEq, Repr

/-- What follows the suspension record being written (R169, R170). -/
inductive AfterRecord where
  | notice
  | refetch
  | closing (bytes : List Byte)
  deriving DecidableEq, Repr

/-- An anchor context (R164). `afterJump`: the word being fetched is the target of a JUMP word (R166).
`afterRecord`: what the end of the record write brings. -/
structure AnchorCtx where
  state : AnchorState
  options : Options
  word : Option CurrentWord
  outstanding : InFlight
  move : Option Movement
  completed : Word
  resumePending : Bool
  haltRequest : Bool
  notice : Notice
  recordLost : Bool
  afterJump : Bool
  failure : Option MoveFailure
  afterRecord : AfterRecord
  deriving DecidableEq, Repr

/-- The host side: HLI and AE. -/
structure HostSide where
  hli : Hli
  anchors : Vector AnchorCtx 16
  deriving DecidableEq, Repr

/-! ### The messages in flight -/

/-- Every message that one block has sent and another has not yet taken, oldest first, one queue for each pair of
blocks (chapter "Functional blocks"), the stations of the serving blocks, the host memory accesses in flight, and the
count of free values used so far (MODEL, log entry 7). -/
structure Bus where
  ptuPbu : List PtuToPbu
  pbuPtu : List ClaimAnswer
  slsPtu : List SlsToPtu
  ptuSls : List PtuToSls
  lcuPtu : List LcuToPtu
  /-- withdrawal answers of the PTU that the LCU has not taken -/
  ptuLcu : Nat
  znuPtu : List (Port × Nat)
  ptuMxw : List Port
  slsPbu : List SlsToPbu
  pbuSls : List PbuToSls
  clcPbu : List DutyReport
  clcSls : List ClcToSls
  znuMxw : List ZnuToMxw
  mxwZnu : List MxwToZnu
  toAtu : List AlarmRequest
  toSpw : List PageRecord
  toMlc : List MlcRequest
  mlcPbu : List MlcAnswer
  mlcSls : List MlcAnswer
  mlcClc : List MlcAnswer
  tbSls : List (Slot × Bool)
  tbPbu : List (Fin 4 × Bool)
  tbClc : List (Fin 6 × Bool)
  /-- hour ticks that the LCU has not taken -/
  hourTicks : Nat
  toHli : List StartUpSource
  outcomes : List OutcomeMsg
  stations : Vector Station 7
  accesses : List Access
  freeUsed : Nat
  deriving DecidableEq, Repr

/-- A block at work: its own state and the bus. Every step of a block is a function on this, so that what a block
leaves alone is plain from the types. -/
structure At (β : Type) where
  own : β
  bus : Bus

end Sys2Proof.Machine
end

