-- ==== Sys2Proof/Machine/PowerOn.lean ====
section
/-! DEFINITION. The value each block's state takes at power-on reset, block by block, as the owning chapter states it. -/

namespace Sys2Proof.Machine

open Sys2Proof

def Counts.zero : Counts := { t1 := 0, t2 := 0, t3 := 0 }

/-- R2: DISABLED, requested tier 1, no held seat, HOST_DISABLE, zone count 0. -/
def portRecPowerOn : PortRec :=
  { state := .disabled, reqTier := .t1, seat := none, reason := .hostDisable, zoneCount := 0 }

/-- R2, R34, R36. -/
def ptuPowerOn : Ptu :=
  { ports := Vector.replicate 256 portRecPowerOn
    waitList := []
    held := .zero
    granted := .zero
    view := Vector.replicate 8 { state := .empty, maxTier := none }
    claim := none
    heldInputs := [] }

def blankRecord : LicenceRecord := Vector.replicate 64 0

/-- An EMPTY cell, at power-on, after an ERASED cell has been read and after a removal: R22 and R23 give its record and its
hours no value (log entry 57). -/
def licenceCellPowerOn : LicenceCell :=
  { state := .empty, hours := 0, record := blankRecord, withdrawing := false }

/-- R22, R23: the table is EMPTY until the start-up read; the serial has been read, cell 0 is read next. A write in
progress is cut short and leaves its cell as it was (R20). -/
def lcuPowerOn (lst : Lst) : Lcu :=
  { cells := Vector.replicate 32 licenceCellPowerOn
    granted := .zero
    failedInstalls := 0
    freeze := false
    storeQueue := []
    withdrawal := .idle
    task := .idle
    startRead := 0
    serialCopy := lst.serial
    lst := { lst with busy := none } }

/-- R40. -/
def moduleRecPowerOn : ModuleRec :=
  { state := .absent, wr := 0, tin := 0, telemetry := .fresh, outputWatts := 0, available := 0, tryNo := none
    retryTimer := .stopped, polls := [], epoch := 0 }

/-- R45: the defaults. -/
def policyPowerOn : PowerPolicy :=
  { mode := .nPlus1, wb := 150, port := { t1 := 4, t2 := 5, t3 := 7 }, grace := 5, idle := 0 }

/-- R50. -/
def slotEntryPowerOn : SlotEntry :=
  { standing := .unpowered, ws := 0, wsb := 0, priority := 4, shedPending := false, ports := [] }

/-- R49: every tray entry is absent; its Fmax and duty are not used while it is (log entry 5). -/
def trayEntryPowerOn : TrayEntry := { present := false, fmax := 200, duty := 100 }

/-- R40, R45, R48 to R51, R56, R57: no module is identified, U is 0, D is the default Wb, REDUNDANCY_LOST holds. -/
def pbuPowerOn : Pbu :=
  { modules := Vector.replicate 4 moduleRecPowerOn
    policy := policyPowerOn
    slots := Vector.replicate 8 slotEntryPowerOn
    trays := Vector.replicate 6 trayEntryPowerOn
    usable := 0
    demand := 150
    redundancyLost := true
    budget := .within
    graceTimer := .stopped
    intervalTimer := .stopped
    hold := true
    awaited := Vector.replicate 4 false
    finished := Vector.replicate 4 false
    heldClaims := [] }

/-- R61. -/
def slotRecPowerOn : SlotRec :=
  { state := .empty, inventory := none, priority := 4, autoOn := true, inUse := false, idleTimer := .stopped
    ramp := none, rampTimer := .stopped, ident := none, retryTimer := .stopped, claim := none, deferred := none
    orphanTask := false, cause := .none, railEn := Vector.replicate 3 false, epoch := 0 }

/-- R61. -/
def slsPowerOn : Sls :=
  { slots := Vector.replicate 8 slotRecPowerOn, idleMinutes := 0, hot := Vector.replicate 2 false, taskSlot := none }

/-- R82: the defaults. -/
def zoneProfilePowerOn : ZoneProfile :=
  { tlow := 30, thigh := 50, dmin := 30, dmax := 90, twarn := 55, tcrit := 65 }

/-- R81, R82, R91. The last window of a rotor, which R81 gives no power-on value, is 0 pulses and 0 rpm (log entry 65). -/
def clcPowerOn : Clc :=
  { profile := Vector.replicate 3 zoneProfilePowerOn
    mask := 0xFF
    sensors := Vector.replicate 8 { state := .ok, value := 25, readOutstanding := false, staleReads := 0 }
    zones := Vector.replicate 3
      { tz := none, duty := 100, boosted := true, high := false, thermal := .clear, holdTimer := .stopped }
    trays := Vector.replicate 6
      { state := .absent, source := .none, fmax := 200, rmax := 30000, tryNo := none, duty := 100
        spinTimer := .stopped, retryTimer := .stopped, pwmLatch := 1000, epoch := 0 }
    rotors := Vector.replicate 12
      { state := .absent, pulses := 0, lastPulses := 0, lastRpm := 0, windowDuty := none, slowRun := 0, goodRun := 0
        stallTimer := .stopped, armed := false } }

/-- R102: empty, default access NONE, generation 0. -/
def zoneSetPowerOn : ZoneSet := { access := .none, gen := 0, zones := [] }

/-- R102, R110. -/
def znuPowerOn : Znu :=
  { active := zoneSetPowerOn, staged := zoneSetPowerOn, findBuffer := [], phase := .idle, task := .idle
    copyDue := false, abandonSent := false }

/-- R122, R126: link DOWN, and the first probe, number 0, has been sent at once. -/
def mxwPowerOn : Mxw :=
  { linkUp := false
    lost := false
    activeBank := none
    shadows := Vector.replicate 2 (Vector.replicate 256 none)
    outstanding := some { msg := .probe, number := 0, retry := false }
    ackTimer := .running 1
    number := 1
    fullRefresh := true
    recompute := []
    fore := .none
    back := .none
    cursor := 0
    abandon := false
    probeTimer := .running 1000
    probeDue := false }

/-- R136. -/
def atuPowerOn : Atu :=
  { table := Vector.replicate 64 none, dropped := 0, relay := false, ledCrit := false, ledMaj := false }

/-- R145, R146. -/
def spwPowerOn : Spw := { dirty := [], gen := 0, batchTimer := .stopped, area := .unset, batch := none }

/-- R151. -/
def mlcPowerOn : Mlc :=
  { line := .idle, current := none, queue := [], sent := [], received := [], answerTimer := .stopped, idleBits := 0 }

/-- R156, R158: every reported level is none and every pending timer has been started. -/
def tbPowerOn : Tb :=
  { seconds := 0
    tickPhase := .running 1000
    hourCount := 0
    slots := Vector.replicate 8 { reported := none, timer := .running 50 }
    bays := Vector.replicate 4 { reported := none, timer := .running 50 }
    trays := Vector.replicate 6 { reported := none, timer := .running 50 }
    scanTold := false }

/-- The registers after each of the three resets (R161). -/
def hliRegistersReset (h : Hli) : Hli :=
  { h with
    areaLow := 0, areaHigh := 0, base := 0
    result := { code := 0, anchor := 0, result := .none }
    mask := 0, pageChanged := false, interrupt := false }

/-- R160, R161. -/
def hliPowerOn : Hli :=
  { ready := false, lcuReported := false, tbReported := false, areaLow := 0, areaHigh := 0, base := 0
    result := { code := 0, anchor := 0, result := .none }, mask := 0, pageChanged := false, interrupt := false }

/-- R164: an anchor context after each of the three resets. -/
def anchorPowerOn : AnchorCtx :=
  { state := .idle
    options := { interruptOnClose := false, suspendAllowed := false, quietSuspend := false }
    word := none
    outstanding := .none
    move := none
    completed := 0
    resumePending := false
    haltRequest := false
    notice := .none
    recordLost := false
    afterJump := false
    failure := none
    afterRecord := .notice }

def hostPowerOn : HostSide := { hli := hliPowerOn, anchors := Vector.replicate 16 anchorPowerOn }

/-- The messages that the blocks send at power-on: the eight slot priorities to the PBU (R61), in ascending order (log entry
62), and the raise of REDUNDANCY_LOST (R48). Nothing else is in flight. -/
def busPowerOn (freeUsed : Nat) : Bus :=
  { ptuPbu := [], pbuPtu := [], slsPtu := [], ptuSls := [], lcuPtu := [], ptuLcu := 0, znuPtu := [], ptuMxw := []
    slsPbu := (List.finRange 8).map (fun i => .priority i 4)
    pbuSls := [], clcPbu := [], clcSls := [], znuMxw := [], mxwZnu := []
    toAtu := [{ raised := true, kind := .redundancyLost, object := 0 }]
    toSpw := [], toMlc := [], mlcPbu := [], mlcSls := [], mlcClc := [], tbSls := [], tbPbu := [], tbClc := []
    hourTicks := 0, toHli := [], outcomes := []
    stations := Vector.replicate 7 { queue := [], service := none }
    accesses := []
    freeUsed := freeUsed }

/-- The Licence Store of a chassis of which the book gives no content (log entry 4): serial 0, every cell ERASED. -/
def lstBlank : Lst :=
  { serial := 0
    cells := Vector.replicate 32 { occupied := false, hours := 0, record := blankRecord }
    busy := none }

/-- The lines of an empty chassis (log entry 4): nothing present, every level low. -/
def pinsLow : Pins :=
  { railGood := Vector.replicate 8 (Vector.replicate 3 false)
    inputOk := Vector.replicate 4 false
    outputOk := Vector.replicate 4 false
    slotPresent := Vector.replicate 8 false
    bayPresent := Vector.replicate 4 false
    trayPresent := Vector.replicate 6 false }

end Sys2Proof.Machine
end

