-- ==== Sys2Proof/Machine/State.lean ====
section
/-! DEFINITION. The state of the CC-480: the fourteen blocks, the messages between them, the input lines, and the queue
of commands that wait. State.reset is the part right after power-on reset. -/

namespace Sys2Proof.Machine

open Sys2Proof

/-- Why a command could stop the machine. No rule of the book stops the part, so there is no reason: every command
answers with a next state. -/
inductive Fault where
  deriving DecidableEq, Repr

/-- Why a command could be refused. -/
inductive Refusal where
  /-- Raised by exec alone, for a command that has no meaning yet (safe: nothing can be proved about what it does).
  No arm of exec raises it. -/
  | notModelled (mnemonic : String)
  deriving DecidableEq, Repr

/-- The whole state of the part. -/
structure State where
  /-- Host Link Interface and Anchor Engine (chapter 10) -/
  host : HostSide
  /-- Port Table Unit (chapters 1 and 2) -/
  ptu : Ptu
  /-- Licence Unit and Licence Store (chapter 2) -/
  lcu : Lcu
  /-- Power Budget Unit (chapter 3) -/
  pbu : Pbu
  /-- Slot Sequencer (chapter 4) -/
  sls : Sls
  /-- Cooling Controller (chapter 5) -/
  clc : Clc
  /-- Zoning Unit (chapter 6) -/
  znu : Znu
  /-- Matrix Writer (chapter 7) -/
  mxw : Mxw
  /-- Alarm Table Unit (chapter 8) -/
  atu : Atu
  /-- Status Page Writer (chapter 8) -/
  spw : Spw
  /-- Module Line Controller (chapter 9) -/
  mlc : Mlc
  /-- Time Base (chapter 9) -/
  tb : Tb
  /-- the levels of the input lines (9.6) -/
  pins : Pins
  /-- the messages in flight between blocks, intake queues and host memory accesses -/
  bus : Bus
  /-- the commands that wait, oldest first (MODEL: the machine's command queue) -/
  pending : List Instr
  deriving DecidableEq, Repr

/-- The part after power-on reset, for a given Licence Store, lines and command queue (R176 and the owners' rules). -/
def State.powerOn (lst : Lst) (pins : Pins) (freeUsed : Nat) (pending : List Instr) : State :=
  { host := hostPowerOn
    ptu := ptuPowerOn
    lcu := lcuPowerOn lst
    pbu := pbuPowerOn
    sls := slsPowerOn
    clc := clcPowerOn
    znu := znuPowerOn
    mxw := mxwPowerOn
    atu := atuPowerOn
    spw := spwPowerOn
    mlc := mlcPowerOn
    tb := tbPowerOn
    pins := pins
    bus := busPowerOn freeUsed
    pending := pending }

/-- Right after power-on reset, with an erased Licence Store, every line low and no command waiting. -/
def State.reset : State := State.powerOn lstBlank pinsLow 0 []

end Sys2Proof.Machine
end

