-- ==== Sys2Proof/Machine/Ops.lean ====
section
/-! DEFINITION. Operations that every block shares: indexed tables, the geometry of the chassis, messages to other
blocks, the intake stations, and free values. -/

namespace Sys2Proof.Machine

open Sys2Proof

/-! ### Indexed tables -/

/-- Entry i of a table replaced. -/
def setAt {α : Type} {n : Nat} (v : Vector α n) (i : Fin n) (x : α) : Vector α n := v.set i.val x i.isLt

/-- Entry i of a table changed by f. -/
def updAt {α : Type} {n : Nat} (v : Vector α n) (i : Fin n) (f : α → α) : Vector α n := setAt v i (f v[i])

/-- The numbers below n in ascending order, the order in which the book takes items of a group. -/
def indices (n : Nat) : List (Fin n) := List.finRange n

/-- x limited to the range lo–hi ("Conventions"). -/
def clampNat (x lo hi : Nat) : Nat := if x < lo then lo else if hi < x then hi else x

def clampInt (x lo hi : Int) : Int := if x < lo then lo else if hi < x then hi else x

/-- Quotient rounded up, for a positive divisor. -/
def ceilDiv (a b : Nat) : Nat := (a + b - 1) / b

/-! ### Tiers, ports and slots -/

def tierNum : Tier → Nat
  | .t1 => 1
  | .t2 => 2
  | .t3 => 3

def tierOfNat : Nat → Option Tier
  | 1 => some .t1
  | 2 => some .t2
  | 3 => some .t3
  | _ => none

def tiers : List Tier := [.t1, .t2, .t3]

def Counts.get (c : Counts) : Tier → Nat
  | .t1 => c.t1
  | .t2 => c.t2
  | .t3 => c.t3

def Counts.set (c : Counts) (t : Tier) (n : Nat) : Counts :=
  match t with
  | .t1 => { c with t1 := n }
  | .t2 => { c with t2 := n }
  | .t3 => { c with t3 := n }

/-- Port p sits on slot floor(p / 32) (chapter 1). -/
def slotOf (p : Port) : Slot := ⟨p.val / 32, by omega⟩

/-- Port index k of a slot. -/
def portOf (i : Slot) (k : Fin 32) : Port := ⟨i.val * 32 + k.val, by omega⟩

/-- The ports of a slot in ascending order. -/
def portsOf (i : Slot) : List Port := (indices 32).map (portOf i)

/-- The cooling zone of a slot: 0–3 in Z0, 4–7 in Z1 (chapter 5). -/
def zoneOfSlot (i : Slot) : Fin 2 := if i.val < 4 then 0 else 1

/-- The cooling zone of a tray: two trays to a zone. -/
def zoneOfTray (t : Fin 6) : Fin 3 := ⟨t.val / 2, by omega⟩

/-- The tray of a rotor: two rotors to a tray. -/
def trayOfRotor (r : Fin 12) : Fin 6 := ⟨r.val / 2, by omega⟩

/-- The cooling zone of a sensor: 0–2, 3–5, 6–7. -/
def zoneOfSensor (n : Fin 8) : Fin 3 := if n.val < 3 then 0 else if n.val < 6 then 1 else 2

def traysOf (z : Fin 3) : List (Fin 6) := (indices 6).filter (fun t => zoneOfTray t = z)

def rotorsOf (t : Fin 6) : List (Fin 12) := (indices 12).filter (fun r => trayOfRotor r = t)

def sensorsOf (z : Fin 3) : List (Fin 8) := (indices 8).filter (fun n => zoneOfSensor n = z)

/-- A port is admin-enabled in IN_SERVICE, PARKED and UNSEATED (R1). -/
def PortRec.enabled (r : PortRec) : Bool := r.state != .disabled

/-- InService as a mask (R121): the ports in state IN_SERVICE. -/
def inServiceMask (ports : Vector PortRec 256) : PortMask :=
  (indices 256).foldl
    (fun m p => if ports[p].state = .inService then m ||| ((1 : PortMask) <<< p.val) else m) 0

/-! ### Alarm kinds: severities and owners (R137) -/

def alarmSeverity : AlarmKind → Severity
  | .fanStalled => .major
  | .fanSlow => .warning
  | .fanTrayAbsent => .major
  | .sensorFailed => .major
  | .tempHigh => .warning
  | .tempCritical => .critical
  | .moduleInputLost => .major
  | .moduleFault => .critical
  | .moduleUnknown => .major
  | .redundancyLost => .major
  | .overBudget => .critical
  | .slotShed => .major
  | .slotPowerFault => .critical
  | .slotThermalOff => .critical
  | .slotPowerDenied => .warning
  | .licenceLapsed => .warning
  | .licenceStoreDamaged => .major
  | .portsUnseated => .warning
  | .fabricLinkLost => .critical
  | .alarmTableFull => .warning

/-- The block that raises and clears a kind, as a number: CLC 0, PBU 1, SLS 2, LCU 3, PTU 4, MXW 5, ATU 6. -/
def alarmOwner : AlarmKind → Fin 7
  | .fanStalled | .fanSlow | .fanTrayAbsent | .sensorFailed | .tempHigh | .tempCritical => 0
  | .moduleInputLost | .moduleFault | .moduleUnknown | .redundancyLost | .overBudget => 1
  | .slotShed | .slotPowerFault | .slotThermalOff | .slotPowerDenied => 2
  | .licenceLapsed | .licenceStoreDamaged => 3
  | .portsUnseated => 4
  | .fabricLinkLost => 5
  | .alarmTableFull => 6

/-! ### Messages -/

/-- The first entry of a queue for which q holds, and the queue without it. -/
def takeFirst {α : Type} (q : α → Bool) : List α → Option (α × List α)
  | [] => none
  | x :: xs =>
    if q x then some (x, xs)
    else match takeFirst q xs with
      | none => none
      | some (y, ys) => some (y, x :: ys)

def Bus.sendPtuPbu (b : Bus) (m : PtuToPbu) : Bus := { b with ptuPbu := b.ptuPbu ++ [m] }
def Bus.sendPbuPtu (b : Bus) (m : ClaimAnswer) : Bus := { b with pbuPtu := b.pbuPtu ++ [m] }
def Bus.sendSlsPtu (b : Bus) (m : SlsToPtu) : Bus := { b with slsPtu := b.slsPtu ++ [m] }
def Bus.sendPtuSls (b : Bus) (m : PtuToSls) : Bus := { b with ptuSls := b.ptuSls ++ [m] }
def Bus.sendLcuPtu (b : Bus) (m : LcuToPtu) : Bus := { b with lcuPtu := b.lcuPtu ++ [m] }
def Bus.sendZnuPtu (b : Bus) (p : Port) (n : Nat) : Bus := { b with znuPtu := b.znuPtu ++ [(p, n)] }
def Bus.sendPtuMxw (b : Bus) (p : Port) : Bus := { b with ptuMxw := b.ptuMxw ++ [p] }
def Bus.sendSlsPbu (b : Bus) (m : SlsToPbu) : Bus := { b with slsPbu := b.slsPbu ++ [m] }
def Bus.sendPbuSls (b : Bus) (m : PbuToSls) : Bus := { b with pbuSls := b.pbuSls ++ [m] }
def Bus.sendClcPbu (b : Bus) (m : DutyReport) : Bus := { b with clcPbu := b.clcPbu ++ [m] }
def Bus.sendClcSls (b : Bus) (m : ClcToSls) : Bus := { b with clcSls := b.clcSls ++ [m] }
def Bus.sendZnuMxw (b : Bus) (m : ZnuToMxw) : Bus := { b with znuMxw := b.znuMxw ++ [m] }
def Bus.sendMxwZnu (b : Bus) (m : MxwToZnu) : Bus := { b with mxwZnu := b.mxwZnu ++ [m] }
def Bus.raise (b : Bus) (k : AlarmKind) (o : Nat) : Bus :=
  { b with toAtu := b.toAtu ++ [{ raised := true, kind := k, object := o }] }
def Bus.clearAlarm (b : Bus) (k : AlarmKind) (o : Nat) : Bus :=
  { b with toAtu := b.toAtu ++ [{ raised := false, kind := k, object := o }] }
/-- A dirty mark for the SPW (R145). -/
def Bus.mark (b : Bus) (r : PageRecord) : Bus := { b with toSpw := b.toSpw ++ [r] }
def Bus.request (b : Bus) (who : MlcUser) (dev : Device) (cmd : LineCommand) (tag : Nat) : Bus :=
  { b with toMlc := b.toMlc ++ [{ who := who, dev := dev, cmd := cmd, tag := tag }] }

/-- A mark made only when something changed ("A task or report that changes nothing marks nothing", R18). -/
def Bus.markIf (b : Bus) (changed : Bool) (r : PageRecord) : Bus := if changed then b.mark r else b

/-! ### Free values -/

/-- The next free 32-bit value (log entry 7). -/
def Bus.freeWord (b : Bus) : Word × Bus := (Config.freeWord b.freeUsed, { b with freeUsed := b.freeUsed + 1 })

/-- Four free detail words. -/
def Bus.freeDetails (b : Bus) : Details × Bus :=
  ({ w0 := Config.freeWord b.freeUsed, w1 := Config.freeWord (b.freeUsed + 1)
     w2 := Config.freeWord (b.freeUsed + 2), w3 := Config.freeWord (b.freeUsed + 3) },
   { b with freeUsed := b.freeUsed + 4 })

/-! ### Detail words -/

def Details.zero : Details := { w0 := 0, w1 := 0, w2 := 0, w3 := 0 }

/-- Four detail words from unsigned figures. -/
def details (a b c d : Nat) : Details :=
  { w0 := BitVec.ofNat 32 a, w1 := BitVec.ofNat 32 b, w2 := BitVec.ofNat 32 c, w3 := BitVec.ofNat 32 d }

/-! ### Stations: intake queue and task in service (R167) -/

def serverIndex : Server → Fin 7
  | .ptu => 0
  | .lcu => 1
  | .pbu => 2
  | .sls => 3
  | .clc => 4
  | .znu => 5
  | .atu => 6

def Bus.station (b : Bus) (v : Server) : Station := b.stations[(serverIndex v)]

def Bus.setStation (b : Bus) (v : Server) (x : Station) : Bus :=
  { b with stations := setAt b.stations (serverIndex v) x }

def Bus.service (b : Bus) (v : Server) : Option Service := (b.station v).service

/-- No task is in service at the block. -/
def Bus.serviceFree (b : Bus) (v : Server) : Bool := (b.station v).service.isNone

/-- The accesses that are in flight for a requester are acted on no more (R173, R176; log entry 12). -/
def Bus.dropAccesses (b : Bus) (r : Requester) : Bus :=
  { b with accesses := b.accesses.filter (fun x => x.req != r) }

/-- A block ends its task in service: the outcome goes to the AE, and a data access still in flight for the task is not
acted on (R173). `taken`: the input bytes that the block had taken, when it ends the task before its data is used up.
With no task in service nothing happens. -/
def Bus.endTaskAfter (b : Bus) (v : Server) (taken : Option Nat) (cls : OutcomeClass) (d : Details) : Bus :=
  match b.service v with
  | none => b
  | some sv =>
    let b := b.setStation v { (b.station v) with service := none }
    let b := match sv.anchor with
      | none => b
      | some a => b.dropAccesses (.anchor a)
    { b with outcomes := b.outcomes ++ [{ server := v, anchor := sv.anchor, cls := cls, details := d, taken := taken }] }

/-- A block ends its task in service with every byte that the AE moved for it taken. -/
def Bus.endTask (b : Bus) (v : Server) (cls : OutcomeClass) (d : Details) : Bus := b.endTaskAfter v none cls d

def Bus.refuse (b : Bus) (v : Server) (r : Reason) (d : Details) : Bus := b.endTask v (.refused r) d

def Bus.closeNormal (b : Bus) (v : Server) (d : Details) : Bus := b.endTask v .normal d

/-- The task in service has all its input bytes. -/
def Service.complete (sv : Service) : Bool := sv.input.length == sv.word.count.toNat

/-! ### Running a block -/

def State.onHost (s : State) (f : At HostSide → At HostSide) : State :=
  let c := f { own := s.host, bus := s.bus }
  { s with host := c.own, bus := c.bus }

def State.onPtu (s : State) (f : At Ptu → At Ptu) : State :=
  let c := f { own := s.ptu, bus := s.bus }
  { s with ptu := c.own, bus := c.bus }

def State.onLcu (s : State) (f : At Lcu → At Lcu) : State :=
  let c := f { own := s.lcu, bus := s.bus }
  { s with lcu := c.own, bus := c.bus }

def State.onPbu (s : State) (f : At Pbu → At Pbu) : State :=
  let c := f { own := s.pbu, bus := s.bus }
  { s with pbu := c.own, bus := c.bus }

def State.onSls (s : State) (f : At Sls → At Sls) : State :=
  let c := f { own := s.sls, bus := s.bus }
  { s with sls := c.own, bus := c.bus }

def State.onClc (s : State) (f : At Clc → At Clc) : State :=
  let c := f { own := s.clc, bus := s.bus }
  { s with clc := c.own, bus := c.bus }

def State.onZnu (s : State) (f : At Znu → At Znu) : State :=
  let c := f { own := s.znu, bus := s.bus }
  { s with znu := c.own, bus := c.bus }

def State.onMxw (s : State) (f : At Mxw → At Mxw) : State :=
  let c := f { own := s.mxw, bus := s.bus }
  { s with mxw := c.own, bus := c.bus }

def State.onAtu (s : State) (f : At Atu → At Atu) : State :=
  let c := f { own := s.atu, bus := s.bus }
  { s with atu := c.own, bus := c.bus }

def State.onSpw (s : State) (f : At Spw → At Spw) : State :=
  let c := f { own := s.spw, bus := s.bus }
  { s with spw := c.own, bus := c.bus }

def State.onMlc (s : State) (f : At Mlc → At Mlc) : State :=
  let c := f { own := s.mlc, bus := s.bus }
  { s with mlc := c.own, bus := c.bus }

def State.onTb (s : State) (f : At Tb → At Tb) : State :=
  let c := f { own := s.tb, bus := s.bus }
  { s with tb := c.own, bus := c.bus }

/-- The oldest word of a block's intake queue, if no task is in service at the block (R4, R104, R167). -/
def State.oldestWord (s : State) (v : Server) : Option TaskWord :=
  match (s.bus.station v).service, (s.bus.station v).queue with
  | none, (_, w) :: _ => some w
  | _, _ => none

/-- The block takes the oldest word of its intake queue: the word is in service, and the anchor's outstanding becomes
IN_SERVICE (R167). -/
def State.takeWord (s : State) (v : Server) : State :=
  match (s.bus.station v).queue with
  | [] => s
  | (a, w) :: rest =>
    { s with
      bus := s.bus.setStation v
        { queue := rest, service := some { anchor := some a, word := w, input := [], output := [] } }
      host := { s.host with anchors := updAt s.host.anchors a (fun x => { x with outstanding := .inService }) } }

/-- The queue of one channel replaced, when a message has been taken from it. -/
def State.withBus (s : State) (b : Bus) : State := { s with bus := b }

end Sys2Proof.Machine
end

