-- ==== Sys2Proof/Machine/Operands.lean ====
section
/-! DEFINITION. What the part reads: byte order, task words, data pieces, parameters, licence records and their check
value, task data records, and the frames of the two serial links (chapter 11). -/

namespace Sys2Proof.Machine

open Sys2Proof

/-! ### Byte order ("Conventions": little-endian) -/

/-- The number that bytes spell, the first byte the least significant. -/
def leNat : List Byte → Nat
  | [] => 0
  | b :: bs => b.toNat + 256 * leNat bs

/-- n as `len` bytes, the least significant first. -/
def toLe : Nat → Nat → List Byte
  | 0, _ => []
  | len + 1, n => BitVec.ofNat 8 n :: toLe len (n / 256)

/-- The field of `len` bytes at an offset. -/
def field (bytes : List Byte) (off len : Nat) : Nat := leNat ((bytes.drop off).take len)

/-- A 16-bit field read as two's complement. -/
def signed16 (n : Nat) : Int := if n < 32768 then (n : Int) else (n : Int) - 65536

/-- A signed 16-bit field as bytes. -/
def toLeSigned16 (x : Int) : List Byte := toLe 2 (x % 65536).toNat

/-- A signed 32-bit detail word. -/
def signedWord (x : Int) : Word := BitVec.ofInt 32 x

def zerosLe (n : Nat) : List Byte := List.replicate n 0

/-! ### Task words and data pieces (11.2; R177: reserved bytes are not read) -/

def taskWordOf (bytes : List Byte) : TaskWord :=
  { code := BitVec.ofNat 8 (field bytes 0 1)
    flags := BitVec.ofNat 8 (field bytes 1 1)
    count := BitVec.ofNat 16 (field bytes 2 2)
    param := BitVec.ofNat 32 (field bytes 4 4)
    addr := BitVec.ofNat 64 (field bytes 8 8) }

def dataPieceOf (bytes : List Byte) : DataPiece :=
  { flags := BitVec.ofNat 8 (field bytes 0 1)
    count := BitVec.ofNat 16 (field bytes 2 2)
    addr := BitVec.ofNat 64 (field bytes 8 8) }

def TaskWord.chain (w : TaskWord) : Bool := w.flags.getLsbD 0
def TaskWord.suspend (w : TaskWord) : Bool := w.flags.getLsbD 1
def TaskWord.list (w : TaskWord) : Bool := w.flags.getLsbD 2

def DataPiece.last (d : DataPiece) : Bool := d.flags.getLsbD 0
def DataPiece.skip (d : DataPiece) : Bool := d.flags.getLsbD 1
def DataPiece.jump (d : DataPiece) : Bool := d.flags.getLsbD 2

/-- Options byte of the anchor request (11.2). -/
def optionsOf (b : Byte) : Options :=
  { interruptOnClose := b.getLsbD 0, suspendAllowed := b.getLsbD 1, quietSuspend := b.getLsbD 2 }

/-- Bits lo+len−1 : lo of a parameter. -/
def TaskWord.bits (w : TaskWord) (lo len : Nat) : Nat := (w.param.toNat >>> lo) % 2 ^ len

/-- The commit mode: byte 08h of a ZONE COMMIT word. -/
def TaskWord.commitMode (w : TaskWord) : Nat := w.addr.toNat % 256

def aligned16 (a : Addr) : Bool := a.toNat % 16 == 0

/-- The area of n bytes at a lies within one 4 KiB page. -/
def withinPage (a : Addr) (n : Nat) : Bool := decide (a.toNat % 4096 + n ≤ 4096)

/-- The nineteen task codes (R166, 11.2). -/
inductive TaskKind where
  | jump | note | portEnable | portDisable | licenceInstall | licenceRemove | licenceFreeze | licenceReport
  | powerPolicy | slotPower | slotConfig | thermalProfile | zoneStage | zoneDrop | zoneCommit | zoneRead | zoneFindLoad
  | zoneFind | alarmAcknowledge
  deriving DecidableEq, Repr

def taskKindOf (code : Byte) : Option TaskKind :=
  match code.toNat with
  | 0x01 => some .jump
  | 0x02 => some .note
  | 0x10 => some .portEnable
  | 0x11 => some .portDisable
  | 0x20 => some .licenceInstall
  | 0x21 => some .licenceRemove
  | 0x22 => some .licenceFreeze
  | 0x23 => some .licenceReport
  | 0x30 => some .powerPolicy
  | 0x40 => some .slotPower
  | 0x41 => some .slotConfig
  | 0x50 => some .thermalProfile
  | 0x60 => some .zoneStage
  | 0x61 => some .zoneDrop
  | 0x62 => some .zoneCommit
  | 0x63 => some .zoneRead
  | 0x64 => some .zoneFindLoad
  | 0x65 => some .zoneFind
  | 0x70 => some .alarmAcknowledge
  | _ => none

def TaskWord.is (w : TaskWord) (k : TaskKind) : Bool := taskKindOf w.code == some k

/-- The block that serves a task; none for JUMP and NOTE, which the AE serves (R166). -/
def serverOf : TaskKind → Option Server
  | .jump | .note => none
  | .portEnable | .portDisable => some .ptu
  | .licenceInstall | .licenceRemove | .licenceFreeze | .licenceReport => some .lcu
  | .powerPolicy => some .pbu
  | .slotPower | .slotConfig => some .sls
  | .thermalProfile => some .clc
  | .zoneStage | .zoneDrop | .zoneCommit | .zoneRead | .zoneFindLoad | .zoneFind => some .znu
  | .alarmAcknowledge => some .atu

/-- The count rule of the table of R166. -/
def countValid (k : TaskKind) (n : Nat) : Bool :=
  match k with
  | .licenceInstall => n == 64
  | .powerPolicy => n == 32
  | .thermalProfile => n == 48
  | .zoneStage => n % 4 == 0
  | .zoneFindLoad => n % 2 == 0 && decide (2 ≤ n) && decide (n ≤ 512)
  | .licenceReport | .zoneRead | .zoneFind => true
  | _ => n == 0

/-- Whether the task reads its data from host memory (R166). -/
def readsInput (k : TaskKind) : Bool :=
  match k with
  | .licenceInstall | .powerPolicy | .thermalProfile | .zoneStage | .zoneFindLoad => true
  | _ => false

/-! ### Licence records (R19, R21, 11.4) -/

/-- One bit of the reflected CRC of R21: the generator in its bit-reversed form. -/
def crcBit (c : Word) : Word := if c.getLsbD 0 then (c >>> 1) ^^^ 0xEDB88320#32 else c >>> 1

def crcByte (c : Word) (b : Byte) : Word :=
  crcBit (crcBit (crcBit (crcBit (crcBit (crcBit (crcBit (crcBit (c ^^^ b.setWidth 32))))))))

/-- R21: the register starts at all ones and the result is inverted. -/
def crc32 (bytes : List Byte) : Word := ~~~ (bytes.foldl crcByte 0xFFFFFFFF#32)

inductive LicenceKind where
  | base | permanent | trial
  deriving DecidableEq, Repr

def licenceBytes (r : LicenceRecord) : List Byte := r.toList

def licenceId (r : LicenceRecord) : Word := BitVec.ofNat 32 (field r.toList 0 4)

def licenceKind (r : LicenceRecord) : Option LicenceKind :=
  match field r.toList 4 1 with
  | 1 => some .base
  | 2 => some .permanent
  | 3 => some .trial
  | _ => none

def licenceTier (r : LicenceRecord) : Option Tier := tierOfNat (field r.toList 5 1)

def licenceSeats (r : LicenceRecord) : Nat := field r.toList 6 2

def licenceHours (r : LicenceRecord) : Nat := field r.toList 8 2

def licenceBinding (r : LicenceRecord) : BitVec 64 := BitVec.ofNat 64 (field r.toList 0x0C 8)

/-- R21: the CRC of bytes 0–59 equals bytes 60–63. -/
def licenceCheckRight (r : LicenceRecord) : Bool := crc32 (r.toList.take 60) == BitVec.ofNat 32 (field r.toList 0x3C 4)

/-- R19: every field within its range. -/
def licenceWellFormed (r : LicenceRecord) : Bool :=
  (licenceTier r).isSome && decide (1 ≤ licenceSeats r) && decide (licenceSeats r ≤ 256) &&
    (match licenceKind r with
      | none => false
      | some .trial => decide (1 ≤ licenceHours r) && decide (licenceHours r ≤ 8760)
      | some _ => licenceHours r == 0)

/-- 64 delivered bytes as a record. -/
def licenceOf (bytes : List Byte) : LicenceRecord := Vector.ofFn (fun i : Fin 64 => bytes.getD i.val 0)

/-! ### Power policy and thermal profile (11.4) -/

def redundancyModeOf : Nat → Option RedundancyMode
  | 1 => some .combined
  | 2 => some .nPlus1
  | 3 => some .grid
  | _ => none

/-- The fields of the 32 bytes as they stand, before clamping. -/
structure RawPolicy where
  mode : Nat
  wb : Nat
  t1 : Nat
  t2 : Nat
  t3 : Nat
  grace : Nat
  idle : Nat
  deriving DecidableEq, Repr

def rawPolicyOf (b : List Byte) : RawPolicy :=
  { mode := field b 0 1, wb := field b 2 2, t1 := field b 4 1, t2 := field b 5 1, t3 := field b 6 1
    grace := field b 7 1, idle := field b 8 2 }

/-- The fields of one zone of the 48 bytes, before clamping. -/
structure RawZoneProfile where
  tlow : Int
  thigh : Int
  twarn : Int
  tcrit : Int
  dmin : Nat
  dmax : Nat
  deriving DecidableEq, Repr

def rawZoneProfileOf (b : List Byte) (z : Fin 3) : RawZoneProfile :=
  let o := 12 * z.val
  { tlow := signed16 (field b o 2), thigh := signed16 (field b (o + 2) 2)
    twarn := signed16 (field b (o + 4) 2), tcrit := signed16 (field b (o + 6) 2)
    dmin := field b (o + 8) 1, dmax := field b (o + 9) 1 }

def sensorMaskOf (b : List Byte) : Byte := BitVec.ofNat 8 (field b 0x24 1)

/-! ### Zone records and probes (11.4) -/

/-- The length of a zone record of n members, padding included. -/
def zoneRecordLength (n : Nat) : Nat := 20 + 2 * n + (if n % 2 == 0 then 0 else 2)

/-- The 16-bit figures of a list of bytes, in order. -/
def pairsLe : List Byte → List Nat
  | a :: b :: rest => (a.toNat + 256 * b.toNat) :: pairsLe rest
  | _ => []

/-- Port numbers 0–255 strictly ascending after `prev`; none at the first breach. -/
def ascendingPorts (prev : Option Nat) : List Nat → Option (List Port)
  | [] => some []
  | n :: ns =>
    if h : n < 256 then
      if (match prev with | none => false | some q => decide (n ≤ q)) then none
      else (ascendingPorts (some n) ns).map (fun ps => ⟨n, h⟩ :: ps)
    else none

/-! ### Frames: check bytes (R152, 11.6) -/

def byteSum (bytes : List Byte) : Byte := bytes.foldl (· + ·) 0

/-- The two's complement of the 8-bit sum of the bytes before it. -/
def checkByte (bytes : List Byte) : Byte := -(byteSum bytes)

def withCheck (bytes : List Byte) : List Byte := bytes ++ [checkByte bytes]

/-! ### The Module Management Line (R152) -/

def deviceAddress : Device → Nat
  | .moduleBay b => 16 + b.val
  | .tray t => 32 + t.val
  | .slotMemory i => 48 + i.val
  | .sensor n => 64 + n.val

def commandCode : LineCommand → Nat
  | .inventory => 1
  | .telemetry => 2
  | .read => 3

/-- Answer data bytes asked for (R152). -/
def answerLength : Device → LineCommand → Nat
  | .moduleBay _, .inventory => 2
  | .moduleBay _, .telemetry => 4
  | .tray _, .inventory => 4
  | .slotMemory _, .inventory => 5
  | .sensor _, .read => 2
  | _, _ => 0

/-- The four-byte request frame (R152). -/
def requestFrame (dev : Device) (cmd : LineCommand) : List Byte :=
  withCheck [BitVec.ofNat 8 (deviceAddress dev), BitVec.ofNat 8 (commandCode cmd), BitVec.ofNat 8 (answerLength dev cmd)]

/-- R153: a complete frame judged by address, length byte and check. -/
def judgeAnswer (dev : Device) (cmd : LineCommand) (frame : List Byte) : LineOutcome :=
  if field frame 0 1 = deviceAddress dev ∧ field frame 1 1 = answerLength dev cmd ∧ byteSum frame = 0 then
    .ok ((frame.drop 2).take (answerLength dev cmd))
  else .badCheck

/-! ### The Fabric Table Link (R123, R179, 11.6) -/

/-- The bytes of a message with its number. -/
def fabricFrame (m : FabricMsg) (number : Byte) : List Byte :=
  match m with
  | .rowWrite bank row mask =>
    withCheck ([0x01, number, BitVec.ofNat 8 bank.val, BitVec.ofNat 8 row.val] ++ toLe 32 mask.toNat)
  | .bankSwitch bank => withCheck [0x02, number, BitVec.ofNat 8 bank.val]
  | .probe => withCheck [0x03, number]

/-- An acknowledgement's number and bank byte; none for a frame that the part discards (R179). -/
def acknowledgementOf (frame : List Byte) : Option (Byte × Byte) :=
  match frame with
  | [ty, number, bank, check] =>
    if ty = 0x81 ∧ byteSum [ty, number, bank, check] = 0 then some (number, bank) else none
  | _ => none

def bankOfByte (b : Byte) : Option (Fin 2) := if b = 0 then some 0 else if b = 1 then some 1 else none

end Sys2Proof.Machine
end

