-- ==== Sys2Proof/Machine/Formats.lean ====
section
/-! DEFINITION. What the part writes into host memory: the code points of chapter 11, closing records, licence report
entries, zone data and the records of the Chassis Status Page. -/

namespace Sys2Proof.Machine

open Sys2Proof

/-! ### Code points (11.1 to 11.5) -/

def actionOutcomeCode : ActionOutcome → Nat
  | .none => 0x00
  | .done => 0x01
  | .busy => 0x02
  | .noArea => 0x03
  | .notSuspended => 0x04
  | .noStatus => 0x05
  | .noEffect => 0x06
  | .recordLost => 0x07
  | .notReady => 0x08
  | .badAction => 0x09
  | .badAnchor => 0x0A

def reasonCode : Reason → Nat
  | .badParameter => 0x01
  | .noSlot => 0x02
  | .tierUnsupported => 0x03
  | .noSeat => 0x04
  | .noPower => 0x05
  | .frozen => 0x06
  | .lockedOut => 0x07
  | .invalidLicence => 0x08
  | .wrongChassis => 0x09
  | .duplicate => 0x0A
  | .tableFull => 0x0B
  | .storeFailed => 0x0C
  | .notFound => 0x0D
  | .protectedCell => 0x0E
  | .badPolicy => 0x0F
  | .tooHot => 0x10
  | .slotChanged => 0x11
  | .identifyFailed => 0x12
  | .badProfile => 0x13
  | .malformedZone => 0x14
  | .zoneSetFull => 0x15
  | .stagedChanged => 0x16
  | .portOverzoned => 0x17
  | .fabricDown => 0x18
  | .fabricFailed => 0x19
  | .unknownTask => 0x40
  | .countInvalid => 0x41
  | .misaligned => 0x42
  | .areaCrosses => 0x43
  | .suspendNotAllowed => 0x44
  | .skipOnInput => 0x45
  | .pieceOverrun => 0x46
  | .pieceShort => 0x47
  | .pieceInvalid => 0x48
  | .jumpToJump => 0x49

def portStateCode : PortState → Nat
  | .disabled => 1
  | .inService => 2
  | .parked => 3
  | .unseated => 4

def portReasonCode : PortReason → Nat
  | .hostEnable => 0x01
  | .hostDisable => 0x02
  | .seatGranted => 0x03
  | .reseated => 0x04
  | .lapsed => 0x05
  | .slotDown => 0x06
  | .slotShed => 0x07
  | .slotThermal => 0x08
  | .slotRemoved => 0x09
  | .slotUp => 0x0A
  | .tierUnsupported => 0x0B

def tierCode : Option Tier → Nat
  | none => 0
  | some t => tierNum t

def slotStateCode : SlotState → Nat
  | .empty => 1
  | .identifying => 2
  | .off => 3
  | .powering => 4
  | .online => 5
  | .standby => 6
  | .shed => 7
  | .thermalOff => 8
  | .fault => 9

def faultCauseCode : FaultCause → Nat
  | .none => 0
  | .inventory => 1
  | .rail n => 2 + n.val

def moduleStateCode : ModuleState → Nat
  | .absent => 1
  | .identifying => 2
  | .ok => 3
  | .inputLost => 4
  | .outputFault => 5
  | .unknownModule => 6

def telemetryCode : Telemetry → Nat
  | .fresh => 0
  | .held1 => 1
  | .held2 => 2
  | .held3 => 3

def budgetCode : BudgetState → Nat
  | .within => 1
  | .grace => 2
  | .shedding => 3
  | .exhausted => 4

def rotorStateCode : RotorState → Nat
  | .absent => 1
  | .spinup => 2
  | .ok => 3
  | .slow => 4
  | .stalled => 5

def trayStateCode : TrayState → Nat
  | .absent => 1
  | .identifying => 2
  | .spinup => 3
  | .running => 4

def sourceCode : InventorySource → Nat
  | .none => 0
  | .identified => 1
  | .default => 2

def sensorStateCode : SensorState → Nat
  | .absent => 1
  | .ok => 2
  | .held1 => 3
  | .held2 => 4
  | .failed => 5

def thermalCode : ThermalState → Nat
  | .clear => 1
  | .critical => 2
  | .holding => 3
  | .tripped => 4

def alarmStateCode : AlarmState → Nat
  | .activeUnacked => 1
  | .activeAcked => 2
  | .clearedUnacked => 3

def severityCode : Severity → Nat
  | .warning => 1
  | .major => 2
  | .critical => 3

def alarmKindCode : AlarmKind → Nat
  | .fanStalled => 0x01
  | .fanSlow => 0x02
  | .fanTrayAbsent => 0x03
  | .sensorFailed => 0x04
  | .tempHigh => 0x05
  | .tempCritical => 0x06
  | .moduleInputLost => 0x07
  | .moduleFault => 0x08
  | .moduleUnknown => 0x09
  | .redundancyLost => 0x0A
  | .overBudget => 0x0B
  | .slotShed => 0x0C
  | .slotPowerFault => 0x0D
  | .slotThermalOff => 0x0E
  | .slotPowerDenied => 0x0F
  | .licenceLapsed => 0x10
  | .portsUnseated => 0x11
  | .licenceStoreDamaged => 0x12
  | .fabricLinkLost => 0x13
  | .alarmTableFull => 0x14

def cellStateCode : CellState → Nat
  | .empty => 0
  | .valid => 1
  | .lapsed => 2
  | .damaged => 3

def phaseCode : CommitPhase → Nat
  | .idle => 0
  | .building => 1
  | .switching => 2

def accessCode : DefaultAccess → Nat
  | .all => 1
  | .none => 2

def flag (b : Bool) : Byte := if b then 1 else 0

def byte (n : Nat) : Byte := BitVec.ofNat 8 n

/-- Bytes filled with zeros to a record's size (R178). -/
def padTo (n : Nat) (bytes : List Byte) : List Byte := bytes ++ zerosLe (n - bytes.length)

/-! ### Closing records (R174, R178, 11.2) -/

/-- The class codes of a closing record and of detail word 0 of a HALTED record. -/
inductive RecordClass where
  | normal | refused | format | memoryFault | halted | suspended
  deriving DecidableEq, Repr

def recordClassCode : RecordClass → Nat
  | .normal => 0
  | .refused => 1
  | .format => 2
  | .memoryFault => 3
  | .halted => 4
  | .suspended => 5

/-- Detail word 0 of a HALTED record for an abandoned apply and for a word not started (11.2). -/
def abandonedCode : Nat := 6
def notStartedCode : Nat := 7

/-- The fields of a closing record (R174). -/
structure ClosingRecord where
  cls : RecordClass
  reason : Nat
  truncated : Bool
  code : Byte
  completed : Word
  address : Addr
  residual : Nat
  seconds : Word
  details : Details
  fault : Addr
  deriving DecidableEq, Repr

/-- The 48 bytes of a closing record. -/
def closingBytes (r : ClosingRecord) : List Byte :=
  [byte (recordClassCode r.cls), byte r.reason, flag r.truncated, r.code] ++ toLe 4 r.completed.toNat
    ++ toLe 8 r.address.toNat ++ toLe 4 r.residual ++ toLe 4 r.seconds.toNat
    ++ toLe 4 r.details.w0.toNat ++ toLe 4 r.details.w1.toNat ++ toLe 4 r.details.w2.toNat
    ++ toLe 4 r.details.w3.toNat ++ toLe 8 r.fault.toNat

/-! ### Output data of tasks -/

/-- A licence report entry of 72 bytes (11.4). -/
def licenceEntryBytes (i : Fin 32) (c : LicenceCell) : List Byte :=
  [byte i.val, byte (cellStateCode c.state)] ++ toLe 2 c.hours ++ zerosLe 4 ++ c.record.toList

/-- A zone record in the form ZONE STAGE takes (R116, 11.4). -/
def zoneRecordBytes (z : Zone) : List Byte :=
  toLe 2 z.id ++ toLe 2 z.members.length ++ z.label.toList ++ (z.members.map (fun p => toLe 2 p.val)).flatten
    ++ (if z.members.length % 2 == 0 then [] else zerosLe 2)

/-- The membership total of a set (R102). -/
def membershipTotal (zones : List Zone) : Nat := (zones.map (fun z => z.members.length)).sum

/-- The 16-byte header of a ZONE READ (11.4). -/
def zoneReadHeader (x : ZoneSet) : List Byte :=
  [byte (accessCode x.access)] ++ zerosLe 3 ++ toLe 4 x.gen.toNat ++ toLe 2 x.zones.length
    ++ toLe 2 (membershipTotal x.zones) ++ zerosLe 4

def zoneReadBytes (x : ZoneSet) : List Byte := zoneReadHeader x ++ (x.zones.map zoneRecordBytes).flatten

/-! ### The Chassis Status Page (R145, R178, 11.5) -/

/-- The place of a record in ascending page order, 0–364. -/
def pageIndex : PageRecord → Nat
  | .header => 0
  | .port p => 1 + p.val
  | .slot i => 257 + i.val
  | .moduleBay b => 265 + b.val
  | .rotor r => 269 + r.val
  | .tray t => 281 + t.val
  | .sensor n => 287 + n.val
  | .zone z => 295 + z.val
  | .licenceSummary => 298
  | .zoningSummary => 299
  | .alarmSummary => 300
  | .alarmPlace k => 301 + k.val

/-- Offset of a record from the Control Area base. -/
def pageOffset : PageRecord → Nat
  | .header => 0x400
  | .port p => 0x440 + 16 * p.val
  | .slot i => 0x1440 + 32 * i.val
  | .moduleBay b => 0x1540 + 32 * b.val
  | .rotor r => 0x15C0 + 16 * r.val
  | .tray t => 0x1680 + 16 * t.val
  | .sensor n => 0x16E0 + 8 * n.val
  | .zone z => 0x1720 + 16 * z.val
  | .licenceSummary => 0x1750
  | .zoningSummary => 0x1790
  | .alarmSummary => 0x17B0
  | .alarmPlace k => 0x17C0 + 16 * k.val

/-- Size of a record. -/
def pageSize : PageRecord → Nat
  | .header => 64
  | .port _ => 16
  | .slot _ => 32
  | .moduleBay _ => 32
  | .rotor _ => 16
  | .tray _ => 16
  | .sensor _ => 8
  | .zone _ => 16
  | .licenceSummary => 64
  | .zoningSummary => 32
  | .alarmSummary => 16
  | .alarmPlace _ => 16

/-- All 365 records in ascending page order. -/
def allPageRecords : List PageRecord :=
  [.header] ++ (indices 256).map .port ++ (indices 8).map .slot ++ (indices 4).map .moduleBay
    ++ (indices 12).map .rotor ++ (indices 6).map .tray ++ (indices 8).map .sensor ++ (indices 3).map .zone
    ++ [.licenceSummary, .zoningSummary, .alarmSummary] ++ (indices 64).map .alarmPlace

/-- H = U − D (R51). -/
def Pbu.headroom (b : Pbu) : Int := (b.usable : Int) - (b.demand : Int)

def headerBytes (s : State) (gen : Word) : List Byte :=
  toLe 4 gen.toNat ++ [flag s.host.hli.ready, byte (budgetCode s.pbu.budget)] ++ zerosLe 2
    ++ toLe 4 s.tb.seconds.toNat ++ toLe 4 s.pbu.usable ++ toLe 4 s.pbu.demand
    ++ toLe 4 (signedWord s.pbu.headroom).toNat

def portBytes (r : PortRec) : List Byte :=
  [byte (portStateCode r.state), byte (tierNum r.reqTier), byte (tierCode r.seat), byte (portReasonCode r.reason)
    , byte r.zoneCount]

def rampPhaseCode : Option Ramp → Nat
  | none => 0
  | some r => match r.phase with
    | .railWait _ => 1
    | .settle => 2

/-- Rail index of a ramp: the rail waited for; 0 when no rail is waited for (log entry 11). -/
def rampRail : Option Ramp → Nat
  | none => 0
  | some r => match r.phase with
    | .railWait n => n.val
    | .settle => 0

def slotBytes (r : SlotRec) : List Byte :=
  [byte (slotStateCode r.state), byte (faultCauseCode r.cause), byte r.priority, flag r.autoOn, flag r.inUse
    , byte (rampPhaseCode r.ramp), byte (rampRail r.ramp), flag ((r.ramp.map (·.waking)).getD false)]
    ++ (match r.inventory with
      | none => zerosLe 6
      | some v => [1, byte (tierNum v.maxTier), v.blade, byte v.wsb] ++ toLe 2 v.ws)

def moduleBytes (b : Fin 4) (r : ModuleRec) : List Byte :=
  [byte (moduleStateCode r.state), byte (telemetryCode r.telemetry), byte (if b.val < 2 then 1 else 2), 0]
    ++ toLe 2 r.wr ++ toLeSigned16 r.tin ++ toLe 2 r.outputWatts ++ toLe 2 r.available

def rotorBytes (r : RotorRec) : List Byte :=
  [byte (rotorStateCode r.state), 0] ++ toLe 2 r.lastPulses ++ toLe 4 r.lastRpm

def trayBytes (r : TrayRec) : List Byte :=
  [byte (trayStateCode r.state), byte (sourceCode r.source), byte r.duty, 0] ++ toLe 2 r.fmax ++ toLe 2 r.rmax

def sensorBytes (r : SensorRec) : List Byte := [byte (sensorStateCode r.state), 0] ++ toLeSigned16 r.value

def zoneBytes (r : ZoneRec) : List Byte :=
  (match r.tz with
    | none => toLe 2 0x8000
    | some t => toLeSigned16 t)
    ++ [byte r.duty, flag r.boosted, flag r.high, byte (thermalCode r.thermal)]

/-- Wait-list positions beyond the list's length are FFFFh (R178). -/
def licenceSummaryBytes (p : Ptu) : List Byte :=
  toLe 2 p.granted.t1 ++ toLe 2 p.granted.t2 ++ toLe 2 p.granted.t3
    ++ toLe 2 p.held.t1 ++ toLe 2 p.held.t2 ++ toLe 2 p.held.t3
    ++ toLe 2 p.waitList.length ++ zerosLe 2
    ++ ((indices 16).map (fun k => toLe 2 ((p.waitList[k.val]?.map (·.val)).getD 0xFFFF))).flatten

def zoningSummaryBytes (z : Znu) (m : Mxw) : List Byte :=
  toLe 4 z.active.gen.toNat ++ toLe 4 z.staged.gen.toNat
    ++ [byte z.active.zones.length, byte z.staged.zones.length, flag m.linkUp, byte (phaseCode z.phase)]
    ++ toLe 2 m.recompute.length ++ toLe 2 m.cursor

def alarmCount (t : Vector (Option AlarmRec) 64) : Nat := t.toList.countP Option.isSome

def alarmSummaryBytes (a : Atu) : List Byte :=
  [byte (alarmCount a.table)
    , byte ((if a.relay then 1 else 0) + (if a.ledCrit then 2 else 0) + (if a.ledMaj then 4 else 0))]
    ++ toLe 2 a.dropped

def alarmPlaceBytes : Option AlarmRec → List Byte
  | none => []
  | some r =>
    [byte (alarmStateCode r.state), byte (alarmKindCode r.kind), byte r.object, byte (severityCode r.severity)
      , byte r.raiseCount] ++ zerosLe 3 ++ toLe 4 r.firstRaised.toNat ++ toLe 4 r.lastChange.toNat

/-- The content of a page record, read from its owner at the moment of the write (R145, R178). -/
def pageBytes (s : State) (gen : Word) (r : PageRecord) : List Byte :=
  padTo (pageSize r) (match r with
    | .header => headerBytes s gen
    | .port p => portBytes s.ptu.ports[p]
    | .slot i => slotBytes s.sls.slots[i]
    | .moduleBay b => moduleBytes b s.pbu.modules[b]
    | .rotor r => rotorBytes s.clc.rotors[r]
    | .tray t => trayBytes s.clc.trays[t]
    | .sensor n => sensorBytes s.clc.sensors[n]
    | .zone z => zoneBytes s.clc.zones[z]
    | .licenceSummary => licenceSummaryBytes s.ptu
    | .zoningSummary => zoningSummaryBytes s.znu s.mxw
    | .alarmSummary => alarmSummaryBytes s.atu
    | .alarmPlace k => alarmPlaceBytes s.atu.table[k])

end Sys2Proof.Machine
end

