-- ==== Sys2Proof/Machine/Flags.lean ====
section
/-! DEFINITION. Status that is computed from other state: the registers as they read, the PENDING bits, the interrupt,
and the three alarm outputs. -/

namespace Sys2Proof.Machine

open Sys2Proof

/-! ### Registers as they read (R161, 11.1) -/

def areaStateCode : AreaState → Nat
  | .unset => 0
  | .active => 1
  | .fault => 2

/-- PART STATUS: bit 0 the part state, bits 9:8 the area state; the bits that 11.1 does not name read 0 (log entry 64). -/
def partStatus (s : State) : Word :=
  BitVec.ofNat 32 ((if s.host.hli.ready then 1 else 0) + 256 * areaStateCode s.spw.area)

/-- ACTION RESULT: code, anchor, result; bits 31:24 read 0 (log entry 64). -/
def actionResultRegister (h : Hli) : Word :=
  BitVec.ofNat 32 (h.result.code.toNat + 256 * h.result.anchor.toNat + 65536 * actionOutcomeCode h.result.result)

/-- The PENDING bit of an anchor: set while its notice is CLOSING or SUSPENSION (R175). -/
def AnchorCtx.pendingBit (a : AnchorCtx) : Bool := a.notice != .none

/-- PENDING: one bit per anchor, and the page-changed bit in bit 16; bits 31:17 read 0 (log entry 64). -/
def pendingRegister (h : HostSide) : Word :=
  (indices 16).foldl (fun w i => if h.anchors[i].pendingBit then w ||| ((1 : Word) <<< i.val) else w)
    (if h.hli.pageChanged then 0x10000 else 0)

/-- INTERRUPT MASK as it reads: bits 31:17 read 0, whatever was written to them (log entry 64). -/
def interruptMaskRegister (h : Hli) : Word := h.mask.setWidth 32

/-! ### The interrupt (R175) -/

/-- Some set PENDING bit has its mask bit set, and for an anchor its interrupt-on-close option too. -/
def interruptDue (h : HostSide) : Bool :=
  (h.hli.pageChanged && h.hli.mask.getLsbD 16) ||
    (indices 16).any (fun i =>
      h.anchors[i].pendingBit && h.hli.mask.getLsbD i.val && h.anchors[i].options.interruptOnClose)

/-- The HLI judges the interrupt again. -/
def judgeInterrupt (h : HostSide) : HostSide := { h with hli := { h.hli with interrupt := interruptDue h } }

/-! ### Alarm outputs (R143) -/

def AlarmRec.isActive (r : AlarmRec) : Bool := r.state != .clearedUnacked

def relayDue (t : Vector (Option AlarmRec) 64) : Bool :=
  t.toList.any (fun x => match x with
    | none => false
    | some r => r.state == .activeUnacked && (r.severity == .major || r.severity == .critical))

def ledDue (v : Severity) (t : Vector (Option AlarmRec) 64) : Bool :=
  t.toList.any (fun x => match x with
    | none => false
    | some r => r.isActive && r.severity == v)

end Sys2Proof.Machine
end

