-- ==== Sys2Proof/Machine/Ae.lean ====
section
/-! DEFINITION. The Host Link Interface and the Anchor Engine: registers, actions, anchor contexts, the fetching and
judging of task words, the moving of data, closing records and notices (chapter 10). -/

namespace Sys2Proof.Machine

open Sys2Proof

/-! ### Contexts and host memory accesses -/

def AnchorCtx.noWord (x : AnchorCtx) : Bool := x.word.isNone

/-- Every anchor is IDLE. -/
def allIdle (h : HostSide) : Bool := (indices 16).all (fun a => h.anchors[a].state == .idle)

/-- The context of an anchor replaced. -/
def setCtx (a : Fin 16) (x : AnchorCtx) (c : At HostSide) : At HostSide :=
  { c with own := { c.own with anchors := setAt c.own.anchors a x } }

/-- The host address of an anchor: 64 × a from the Control Area base (11.2). -/
def anchorAddr (h : HostSide) (a : Fin 16) : Addr := h.hli.base + BitVec.ofNat 64 (64 * a.val)

/-- A host memory access handed to the HLI (R173). -/
def Bus.access (b : Bus) (x : Access) : Bus := { b with accesses := b.accesses ++ [x] }

/-- The access in flight of a requester, if it is of a kind that q admits, and the bus without it. -/
def Bus.takeAccess (b : Bus) (r : Requester) (q : AccessKind → Bool) : Option (Access × Bus) :=
  match takeFirst (fun x => x.req == r && q x.kind) b.accesses with
  | none => none
  | some (x, rest) => some (x, { b with accesses := rest })

/-- The serving block at which a task of the anchor is in service. -/
def Bus.servingOf (b : Bus) (a : Fin 16) : Option Server :=
  [Server.ptu, .lcu, .pbu, .sls, .clc, .znu, .atu].find? (fun v =>
    match b.service v with
    | none => false
    | some sv => sv.anchor == some a)

/-- The HLI judges the interrupt again (R175). -/
def noticed (c : At HostSide) : At HostSide := { c with own := judgeInterrupt c.own }

/-! ### Closing records (R174) -/

/-- What the end of a chain puts into its closing record beside the context's own figures. -/
structure Ending where
  cls : RecordClass
  reason : Nat
  details : Details
  fault : Addr
  deriving DecidableEq, Repr

/-- FORMAT found before dispatch. -/
def Ending.format (r : Reason) : Ending := { cls := .format, reason := reasonCode r, details := .zero, fault := 0 }

/-- MEMORY_FAULT found before dispatch. -/
def Ending.memoryFault (a : Addr) : Ending := { cls := .memoryFault, reason := 0, details := .zero, fault := a }

/-- HALTED with no task in service (R170). -/
def Ending.notStarted : Ending :=
  { cls := .halted, reason := 0, details := Sys2Proof.Machine.details notStartedCode 0 0 0, fault := 0 }

def Ending.suspended : Ending := { cls := .suspended, reason := 0, details := .zero, fault := 0 }

/-- The count less the bytes moved, for a word whose data a block has begun to move (R173; log entry 20). -/
def residualOf (x : AnchorCtx) : Nat :=
  match x.word, x.move with
  | some { content := some w, .. }, some m => w.count.toNat - m.moved
  | _, _ => 0

/-- The closing record of a context (R174). Address and task code are those of the current word, 0 when it was not
fetched (log entry 21). -/
def closingRecord (now : Word) (x : AnchorCtx) (e : Ending) : ClosingRecord :=
  { cls := e.cls
    reason := e.reason
    truncated := match x.move with
      | none => false
      | some m => m.truncated
    code := match x.word with
      | some { content := some w, .. } => w.code
      | _ => 0
    completed := x.completed
    address := match x.word with
      | some { addr := a, content := some _ } => a
      | _ => 0
    residual := residualOf x
    seconds := now
    details := e.details
    fault := e.fault }

/-- The write of 48 bytes into bytes 16–63 of the anchor is begun. -/
def beginRecord (a : Fin 16) (bytes : List Byte) (c : At HostSide) : At HostSide :=
  let x : Access := { req := .anchor a, kind := .record, addr := anchorAddr c.own a + 16, len := 48, data := bytes }
  { c with bus := c.bus.access x }

/-- The chain ends (R167, R174): STATUS_PENDING, and the closing record is begun, or follows the suspension record
that is still being written (R170), with the seconds of the chain's end (log entry 61). -/
def endChain (now : Word) (a : Fin 16) (e : Ending) (c : At HostSide) : At HostSide :=
  let x := c.own.anchors[a]
  let bytes := closingBytes (closingRecord now x e)
  let y : AnchorCtx :=
    { x with
      state := .statusPending, resumePending := false, haltRequest := false, move := none, failure := none
      afterJump := false, outstanding := .record }
  if x.outstanding = .record then setCtx a { y with afterRecord := .closing bytes } c
  else beginRecord a bytes (setCtx a { y with afterRecord := .notice } c)

/-! ### Fetching and judging words (R166, R168) -/

/-- The word at an address becomes current and is fetched. -/
def fetchWord (a : Fin 16) (addr : Addr) (jumped : Bool) (c : At HostSide) : At HostSide :=
  let x := c.own.anchors[a]
  let x : AnchorCtx :=
    { x with word := some { addr := addr, content := none }, outstanding := .fetch, afterJump := jumped
             move := none, failure := none }
  let c := setCtx a x c
  { c with bus := c.bus.access { req := .anchor a, kind := .wordFetch, addr := addr, len := 16, data := [] } }

/-- The current word is fetched again; its old content stands until the new one arrives (R169). -/
def refetchWord (a : Fin 16) (c : At HostSide) : At HostSide :=
  let x := c.own.anchors[a]
  match x.word with
  | none => c
  | some w =>
    let c := setCtx a { x with outstanding := .fetch, afterRecord := .notice } c
    { c with bus := c.bus.access { req := .anchor a, kind := .wordFetch, addr := w.addr, len := 16, data := [] } }

/-- Words completed rises by 1; the book gives no figure beyond 4294967295 (log entry 7). -/
def countCompleted (a : Fin 16) (c : At HostSide) : At HostSide :=
  let x := c.own.anchors[a]
  if x.completed = 0xFFFFFFFF#32 then
    let (v, b) := c.bus.freeWord
    { setCtx a { x with completed := v } c with bus := b }
  else setCtx a { x with completed := x.completed + 1 } c

/-- The word at the address 16 beyond the current one becomes current (R167). -/
def nextWord (a : Fin 16) (c : At HostSide) : At HostSide :=
  match c.own.anchors[a].word with
  | none => c
  | some w => fetchWord a (w.addr + 16) false c

/-- R166: JUMP. For the target of another JUMP its own data address is not judged (log entry 59). -/
def runJump (now : Word) (a : Fin 16) (w : TaskWord) (c : At HostSide) : At HostSide :=
  if c.own.anchors[a].afterJump then endChain now a (.format .jumpToJump) c
  else if aligned16 w.addr then fetchWord a w.addr true (countCompleted a c)
  else endChain now a (.format .misaligned) c

/-- R166: NOTE. -/
def runNote (now : Word) (a : Fin 16) (w : TaskWord) (c : At HostSide) : At HostSide :=
  let c := countCompleted a c
  if w.chain then nextWord a c
  else endChain now a
    { cls := .normal, reason := 0, details := { w0 := w.param, w1 := 0, w2 := 0, w3 := 0 }, fault := 0 } c

/-- R167: the word is appended to the intake queue of its block. -/
def dispatchWord (a : Fin 16) (v : Server) (w : TaskWord) (c : At HostSide) : At HostSide :=
  let x := c.own.anchors[a]
  let st := c.bus.station v
  let c := setCtx a { x with outstanding := .queued, afterJump := false } c
  { c with bus := c.bus.setStation v { st with queue := st.queue ++ [(a, w)] } }

/-- R166, steps 2 to 4; none when the word passes. -/
def judgeFormat (w : TaskWord) : Option Reason :=
  match taskKindOf w.code with
  | none => some .unknownTask
  | some k =>
    if !countValid k w.count.toNat then some .countInvalid
    else if w.count.toNat = 0 then none
    else if w.list then (if aligned16 w.addr then none else some .misaligned)
    else if withinPage w.addr w.count.toNat then none
    else some .areaCrosses

/-- R166 from step 2 on. -/
def judgeWord (now : Word) (a : Fin 16) (w : TaskWord) (c : At HostSide) : At HostSide :=
  match judgeFormat w, taskKindOf w.code with
  | some r, _ => endChain now a (.format r) c
  | none, some .jump => runJump now a w c
  | none, some .note => runNote now a w c
  | none, some k =>
    match serverOf k with
    | some v => dispatchWord a v w c
    | none => c
  | none, none => c

/-- R168: the anchor is SUSPENDED at its current word; the suspension record is begun unless quiet suspend is set. -/
def suspendAt (now : Word) (a : Fin 16) (c : At HostSide) : At HostSide :=
  let x := c.own.anchors[a]
  if x.options.quietSuspend then setCtx a { x with state := .suspended, outstanding := .none } c
  else
    beginRecord a (closingBytes (closingRecord now x .suspended))
      (setCtx a { x with state := .suspended, outstanding := .record, afterRecord := .notice } c)

/-- R166, R168, R170: a fetched task word has arrived. -/
def wordArrived (now : Word) (a : Fin 16) (w : TaskWord) (c : At HostSide) : At HostSide :=
  let x := c.own.anchors[a]
  let x := { x with word := x.word.map (fun cw => { cw with content := some w }), outstanding := .none }
  let c := setCtx a x c
  if x.haltRequest then endChain now a .notStarted c
  else if w.suspend then
    if x.resumePending then judgeWord now a w (setCtx a { x with resumePending := false } c)
    else if x.options.suspendAllowed then suspendAt now a c
    else endChain now a (.format .suspendNotAllowed) c
  else judgeWord now a w c

/-- R165: the request bytes of an anchor have arrived. -/
def requestArrived (now : Word) (a : Fin 16) (bytes : List Byte) (c : At HostSide) : At HostSide :=
  let x := c.own.anchors[a]
  let x := { x with options := optionsOf (BitVec.ofNat 8 (field bytes 8 1)), outstanding := .none }
  let c := noticed (setCtx a x c)
  let chain : Addr := BitVec.ofNat 64 (field bytes 0 8)
  if x.haltRequest then endChain now a .notStarted c
  else if aligned16 chain then fetchWord a chain false c
  else endChain now a (.format .misaligned) c

/-! ### Outcomes (R167, R170) -/

/-- Class, reason code and class code in detail word 0 of a HALTED record, for an outcome: the AE's own class when its
data movement failed. -/
def judgeOutcome (o : OutcomeMsg) (f : Option MoveFailure) : RecordClass × Nat × Nat :=
  match f with
  | some { reason := some r, .. } => (.format, reasonCode r, recordClassCode .format)
  | some { reason := none, .. } => (.memoryFault, 0, recordClassCode .memoryFault)
  | none =>
    match o.cls with
    | .refused r => (.refused, reasonCode r, recordClassCode .refused)
    | .abandoned => (.halted, 0, abandonedCode)
    | .normal | .stopped => (.normal, 0, recordClassCode .normal)

/-- R167, R170: the AE acts on an outcome. Where the block ended the task before its data was used up, the bytes moved are
those it had taken (R173). The fault address of a HALTED record is that of the failure (log entry 60). -/
def takeOutcome (now : Word) (o : OutcomeMsg) (c : At HostSide) : At HostSide :=
  match o.anchor with
  | none => c
  | some a =>
    let x := c.own.anchors[a]
    let (cls, reason, code) := judgeOutcome o x.failure
    let fault : Addr := match x.failure with
      | none => 0
      | some f => f.address
    let halted : Details := { o.details with w0 := BitVec.ofNat 32 code }
    let chain := match x.word with
      | some { content := some w, .. } => w.chain
      | _ => false
    let move := x.move.map (fun m => { m with moved := o.taken.getD m.moved })
    let c := setCtx a { x with outstanding := .none, move := move } c
    let c := if cls = .normal then countCompleted a c else c
    if x.state = .halting then
      endChain now a { cls := .halted, reason := reason, details := halted, fault := fault } c
    else if x.state = .active then
      if cls = .normal ∧ chain = true then nextWord a c
      else
        endChain now a
          { cls := cls, reason := reason, details := if cls = .halted then halted else o.details, fault := fault } c
    else c

/-! ### Moving data (R172, R173) -/

/-- The access for one data piece. -/
def fetchPiece (a : Fin 16) (m : Movement) (c : At HostSide) : At HostSide :=
  let c := setCtx a { c.own.anchors[a] with move := some m } c
  { c with bus := c.bus.access { req := .anchor a, kind := .pieceFetch, addr := m.next, len := 16, data := [] } }

/-- A read of n input bytes. -/
def readData (a : Fin 16) (m : Movement) (addr : Addr) (n : Nat) (c : At HostSide) : At HostSide :=
  let c := setCtx a { c.own.anchors[a] with move := some m } c
  { c with bus := c.bus.access { req := .anchor a, kind := .dataRead, addr := addr, len := n, data := [] } }

/-- A write of output bytes. -/
def writeData (a : Fin 16) (m : Movement) (addr : Addr) (bytes : List Byte) (c : At HostSide) : At HostSide :=
  let c := setCtx a { c.own.anchors[a] with move := some m } c
  { c with bus := c.bus.access { req := .anchor a, kind := .dataWrite, addr := addr, len := bytes.length, data := bytes } }

/-- The movement of a word's data as it begins. -/
def startMovement (input : Bool) (w : TaskWord) : Movement :=
  { input := input, list := w.list, next := w.addr, piece := w.addr, sum := 0, moved := 0, last := false
    jumped := false, truncated := false }

/-- R172: the AE begins to read the input data of the task that a block has taken. -/
def beginInput (v : Server) (c : At HostSide) : At HostSide :=
  match c.bus.service v with
  | some { anchor := some a, word := w, .. } =>
    let m := startMovement true w
    if w.count.toNat = 0 then c
    else if w.list then fetchPiece a m c
    else readData a m w.addr w.count.toNat c
  | _ => c

/-- An output task with nothing to write: no data, or a count of 0 (R173). -/
def nothingToWrite (w : TaskWord) (out : List Byte) : Bool := out.isEmpty || w.count.toNat == 0

/-- R172, R173: the AE begins to write the output data of the task that a block has taken. With a count of 0 nothing
moves, and TRUNCATED is set if there was data. -/
def beginOutput (v : Server) (out : List Byte) (c : At HostSide) : At HostSide :=
  match c.bus.service v with
  | some sv =>
    let c := { c with bus := c.bus.setStation v { c.bus.station v with service := some { sv with output := out } } }
    match sv.anchor with
    | none => c
    | some a =>
      let m := startMovement false sv.word
      if nothingToWrite sv.word out then
        setCtx a { c.own.anchors[a] with
          move := some { m with truncated := !out.isEmpty && sv.word.count.toNat == 0 } } c
      else if sv.word.list then fetchPiece a m c
      else writeData a m sv.word.addr (out.take sv.word.count.toNat) c
  | none => c

/-- What a step of the movement leads to: it goes on, all data has moved, or the AE ends the chain. -/
inductive MoveResult where
  | going
  | done
  | failed (f : MoveFailure)
  deriving DecidableEq, Repr

/-- A FORMAT failure at the piece in control. -/
def pieceError (r : Reason) (m : Movement) : MoveResult := .failed { reason := some r, address := m.piece }

/-- R172: the input piece in control, or the one input area, has been read. -/
def inputMoved (a : Fin 16) (w : TaskWord) (m : Movement) (c : At HostSide) : At HostSide × MoveResult :=
  let c := setCtx a { c.own.anchors[a] with move := some m } c
  if w.count.toNat ≤ m.moved then (c, .done)
  else if m.last then (c, pieceError .pieceShort m)
  else (fetchPiece a { m with jumped := false } c, .going)

/-- R172, R173: the output piece in control, or the one output area, has been written or passed over; `rest` is the
output that remains. -/
def outputMoved (a : Fin 16) (v : Server) (w : TaskWord) (m : Movement) (rest : List Byte) (c : At HostSide) :
    At HostSide × MoveResult :=
  let c := match c.bus.service v with
    | none => c
    | some sv => { c with bus := c.bus.setStation v { c.bus.station v with service := some { sv with output := rest } } }
  let c := setCtx a { c.own.anchors[a] with move := some m } c
  if rest.isEmpty then (c, .done)
  else if w.count.toNat ≤ m.moved then
    (setCtx a { c.own.anchors[a] with move := some { m with truncated := true } } c, .done)
  else if m.last then (c, pieceError .pieceShort m)
  else (fetchPiece a { m with jumped := false } c, .going)

/-- R172: a SKIP piece takes control. On an input task it is a SKIP_ON_INPUT, whatever its count (log entry 19). -/
def runSkip (a : Fin 16) (v : Server) (sv : Service) (m : Movement) (n : Nat) (c : At HostSide) :
    At HostSide × MoveResult :=
  if m.input then (c, pieceError .skipOnInput m)
  else if n = 0 then (c, pieceError .pieceInvalid m)
  else if sv.word.count.toNat < m.sum + n then (c, pieceError .pieceOverrun m)
  else
    outputMoved a v sv.word { m with sum := m.sum + n, moved := m.moved + min n sv.output.length }
      (sv.output.drop n) c

/-- R172: a transferring piece takes control. One that is invalid by the table and also takes the running sum above the
task count is reported as PIECE_INVALID (log entry 66). -/
def runTransfer (a : Fin 16) (sv : Service) (m : Movement) (d : DataPiece) (c : At HostSide) :
    At HostSide × MoveResult :=
  let n := d.count.toNat
  if n = 0 ∨ 4096 < n ∨ !withinPage d.addr n then (c, pieceError .pieceInvalid m)
  else if sv.word.count.toNat < m.sum + n then (c, pieceError .pieceOverrun m)
  else
    let m := { m with sum := m.sum + n }
    if m.input then (readData a m d.addr n c, .going)
    else (writeData a m d.addr (sv.output.take n) c, .going)

/-- R172: a JUMP piece takes control. The order of its failures, where it has two, is the model's (log entry 19). -/
def runPieceJump (a : Fin 16) (m : Movement) (d : DataPiece) (c : At HostSide) : At HostSide × MoveResult :=
  if m.jumped then (c, pieceError .jumpToJump m)
  else if d.count ≠ 0 ∨ d.last ∨ d.skip then (c, pieceError .pieceInvalid m)
  else if aligned16 d.addr then (fetchPiece a { m with next := d.addr, jumped := true } c, .going)
  else (c, pieceError .misaligned m)

/-- R172: a data piece has arrived and takes control. -/
def pieceArrived (a : Fin 16) (v : Server) (sv : Service) (m : Movement) (at' : Addr) (d : DataPiece)
    (c : At HostSide) : At HostSide × MoveResult :=
  let m := { m with piece := at', next := at' + 16, last := d.last }
  let c := setCtx a { c.own.anchors[a] with move := some m } c
  if d.jump then runPieceJump a m d c
  else if d.skip then runSkip a v sv m d.count.toNat c
  else runTransfer a sv m d c

/-- R172: input bytes have arrived and are handed to the block. -/
def bytesArrived (a : Fin 16) (v : Server) (sv : Service) (m : Movement) (bytes : List Byte) (c : At HostSide) :
    At HostSide × MoveResult :=
  let c := { c with
    bus := c.bus.setStation v { c.bus.station v with service := some { sv with input := sv.input ++ bytes } } }
  inputMoved a sv.word { m with moved := m.moved + bytes.length } c

/-- R173: output bytes have been written. -/
def bytesWritten (a : Fin 16) (v : Server) (sv : Service) (m : Movement) (n : Nat) (c : At HostSide) :
    At HostSide × MoveResult :=
  outputMoved a v sv.word { m with moved := m.moved + n } (sv.output.drop n) c

/-! ### Records written (R173, R174, R175) -/

/-- The write of a closing or suspension record has ended, well or failed. -/
def recordEnded (a : Fin 16) (lost : Bool) (c : At HostSide) : At HostSide :=
  let x := c.own.anchors[a]
  let x := { x with recordLost := x.recordLost || lost, outstanding := .none }
  match x.afterRecord with
  | .notice =>
    noticed (setCtx a { x with
      notice := if x.state = .suspended then .suspension else if x.state = .statusPending then .closing else x.notice } c)
  | .refetch => refetchWord a (setCtx a x c)
  | .closing bytes => beginRecord a bytes (setCtx a { x with outstanding := .record, afterRecord := .notice } c)

/-! ### Actions (R163, R165, R169, R170, R171, R175) -/

def setResult (code anchor : Byte) (r : ActionOutcome) (c : At HostSide) : At HostSide :=
  { c with own := { c.own with hli := { c.own.hli with result := { code := code, anchor := anchor, result := r } } } }

/-- Bits 7:0 of a write to ACTION. -/
def actionCodeOf (w : Word) : Byte := w.setWidth 8

/-- Bits 15:8 of a write to ACTION. -/
def actionAnchorOf (w : Word) : Byte := (w >>> 8).setWidth 8

inductive ActionKind where
  | start | resume | halt | accept | pageSeen
  deriving DecidableEq, Repr

def actionKindOf (code : Byte) : Option ActionKind :=
  match code.toNat with
  | 1 => some .start
  | 2 => some .resume
  | 3 => some .halt
  | 4 => some .accept
  | 5 => some .pageSeen
  | _ => none

/-- The judgement of a write to ACTION (R163): the result that ends it, or the action and, for all but PAGE SEEN, its
anchor. -/
inductive ActionJudgement where
  | fails (r : ActionOutcome)
  | anchor (k : ActionKind) (a : Fin 16)
  | page
  deriving DecidableEq, Repr

def judgeAction (h : Hli) (w : Word) : ActionJudgement :=
  if !h.ready then .fails .notReady
  else
    match actionKindOf (actionCodeOf w) with
    | none => .fails .badAction
    | some .pageSeen => .page
    | some k =>
      if h : (actionAnchorOf w).toNat < 16 then .anchor k ⟨(actionAnchorOf w).toNat, h⟩ else .fails .badAnchor

/-- A result set for the write w. -/
def answerAction (w : Word) (r : ActionOutcome) (c : At HostSide) : At HostSide :=
  setResult (actionCodeOf w) (actionAnchorOf w) r c

/-- R165. -/
def aeStart (a : Fin 16) (c : At HostSide) : At HostSide × ActionOutcome :=
  let x := c.own.anchors[a]
  if x.state ≠ .idle then (c, .busy)
  else if c.own.hli.base = 0 then (c, .noArea)
  else
    let c := setCtx a
      { x with state := .active, completed := 0, resumePending := false, haltRequest := false, outstanding := .fetch
               word := none, move := none, failure := none, afterJump := false, afterRecord := .notice } c
    let x : Access := { req := .anchor a, kind := .anchorRead, addr := anchorAddr c.own a, len := 16, data := [] }
    ({ c with bus := c.bus.access x }, .done)

/-- R169. -/
def aeResume (a : Fin 16) (c : At HostSide) : At HostSide × ActionOutcome :=
  let x := c.own.anchors[a]
  match x.state with
  | .suspended =>
    let y := { x with state := AnchorState.active, notice := Notice.none }
    if x.outstanding = .record then (noticed (setCtx a { y with afterRecord := .refetch } c), .done)
    else (refetchWord a (noticed (setCtx a y c)), .done)
  | .active | .halting => (setCtx a { x with resumePending := true } c, .done)
  | .idle | .statusPending => (c, .notSuspended)

/-- R170 for an anchor with no task in service: the word leaves its intake queue. -/
def unqueue (a : Fin 16) (b : Bus) : Bus :=
  { b with stations := b.stations.map (fun st => { st with queue := st.queue.filter (fun e => e.1 != a) }) }

/-- R170, but for what the block does when told of the halt. -/
def aeHalt (now : Word) (a : Fin 16) (c : At HostSide) : At HostSide × ActionOutcome :=
  let x := c.own.anchors[a]
  match x.state with
  | .active =>
    match x.outstanding with
    | .queued => (endChain now a .notStarted { c with bus := unqueue a c.bus }, .done)
    | .inService => (setCtx a { x with state := .halting } c, .done)
    | .fetch | .none => (setCtx a { x with haltRequest := true } c, .done)
    | .record => (endChain now a .notStarted c, .done)
  | .suspended => (endChain now a .notStarted (noticed (setCtx a { x with notice := .none } c)), .done)
  | .halting | .idle | .statusPending => (c, .noEffect)

/-- R171. -/
def aeAccept (a : Fin 16) (c : At HostSide) : At HostSide × ActionOutcome :=
  let x := c.own.anchors[a]
  let answer := if x.recordLost then ActionOutcome.recordLost else .done
  match x.notice with
  | .none => (c, .noStatus)
  | .closing =>
    (noticed (setCtx a { x with notice := .none, state := .idle, word := none, recordLost := false } c), answer)
  | .suspension => (noticed (setCtx a { x with notice := .none, recordLost := false } c), answer)

/-- R175: PAGE SEEN. -/
def hliPageSeen (c : At HostSide) : At HostSide :=
  noticed { c with own := { c.own with hli := { c.own.hli with pageChanged := false } } }

/-- A write to ACTION taken as the action k (R163). A code that names another action is no command of this name. -/
def runAction (k : ActionKind) (w : Word) (f : Fin 16 → At HostSide → At HostSide × ActionOutcome)
    (c : At HostSide) : At HostSide :=
  match judgeAction c.own.hli w with
  | .fails r => answerAction w r c
  | .anchor j a =>
    if j = k then
      let (c, r) := f a c
      answerAction w r c
    else c
  | .page => if k = .pageSeen then answerAction w .done (hliPageSeen c) else c

/-! ### The meanings that need no other block -/

/-- AREA_BASE_LOW_WRITE (R162). -/
def hliBaseLow (v : Word) (c : At HostSide) : At HostSide :=
  if allIdle c.own then
    setResult 0 0 .done { c with own := { c.own with hli := { c.own.hli with areaLow := v &&& 0xFFFFC000#32 } } }
  else setResult 0 0 .busy c

def execAreaBaseLowWrite (v : Word) (s : State) : Host.Outcome State Fault Refusal := .next (s.onHost (hliBaseLow v))

/-- INTERRUPT_MASK_WRITE (R161, R175): bits 31:17 as written are dropped (log entry 64). -/
def hliMask (v : Word) (c : At HostSide) : At HostSide :=
  noticed { c with own := { c.own with hli := { c.own.hli with mask := v.setWidth 17 } } }

def execInterruptMaskWrite (v : Word) (s : State) : Host.Outcome State Fault Refusal := .next (s.onHost (hliMask v))

/-- READ_ONLY_REGISTER_WRITE (R161): discarded. -/
def execReadOnlyRegisterWrite (_r : ReadOnlyRegister) (_v : Word) (s : State) : Host.Outcome State Fault Refusal :=
  .next s

/-- START (R163, R165). -/
def execStart (w : Word) (s : State) : Host.Outcome State Fault Refusal :=
  .next (s.onHost (runAction .start w aeStart))

/-- RESUME (R163, R169). -/
def execResume (w : Word) (s : State) : Host.Outcome State Fault Refusal :=
  .next (s.onHost (runAction .resume w aeResume))

/-- ACCEPT (R163, R171). -/
def execAccept (w : Word) (s : State) : Host.Outcome State Fault Refusal :=
  .next (s.onHost (runAction .accept w aeAccept))

/-- PAGE_SEEN (R163, R175). -/
def execPageSeen (w : Word) (s : State) : Host.Outcome State Fault Refusal :=
  .next (s.onHost (runAction .pageSeen w (fun _ c => (c, .done))))

/-- ANCHOR_READ_DONE (R165). -/
def execAnchorReadDone (a : Fin 16) (bytes : Vector Byte 16) (s : State) : Host.Outcome State Fault Refusal :=
  match s.bus.takeAccess (.anchor a) (· == .anchorRead) with
  | none => .next s
  | some (_, b) => .next ((s.withBus b).onHost (requestArrived s.tb.seconds a bytes.toList))

/-- WORD_FETCH_DONE (R166). -/
def execWordFetchDone (a : Fin 16) (bytes : Vector Byte 16) (s : State) : Host.Outcome State Fault Refusal :=
  match s.bus.takeAccess (.anchor a) (· == .wordFetch) with
  | none => .next s
  | some (_, b) => .next ((s.withBus b).onHost (wordArrived s.tb.seconds a (taskWordOf bytes.toList)))

/-- TASK_OUTCOME (R167): the oldest outcome of the named block. -/
def execTaskOutcome (v : Server) (s : State) : Host.Outcome State Fault Refusal :=
  match takeFirst (fun o => o.server == v) s.bus.outcomes with
  | none => .next s
  | some (o, rest) => .next ((s.withBus { s.bus with outcomes := rest }).onHost (takeOutcome s.tb.seconds o))

/-- RECORD_WRITE_DONE (R174). -/
def execRecordWriteDone (a : Fin 16) (s : State) : Host.Outcome State Fault Refusal :=
  match s.bus.takeAccess (.anchor a) (· == .record) with
  | none => .next s
  | some (_, b) => .next ((s.withBus b).onHost (recordEnded a false))

end Sys2Proof.Machine
end

