-- ==== Sys2Proof/Machine/Atu.lean ====
section
/-! DEFINITION. The Alarm Table Unit: raises, clears, room in the table, ALARM ACKNOWLEDGE and the outputs (8.1 to 8.4). -/

namespace Sys2Proof.Machine

open Sys2Proof

abbrev AlarmTable := Vector (Option AlarmRec) 64

/-! ### Looking at the table -/

def AlarmRec.names (r : AlarmRec) (k : AlarmKind) (o : Nat) : Bool := r.kind == k && r.object == o

/-- A place holds a record for which q holds. -/
def placeHas (t : AlarmTable) (q : AlarmRec → Bool) (i : Fin 64) : Bool :=
  match t[i] with
  | none => false
  | some r => q r

/-- The lowest-numbered place that holds a record for which q holds. -/
def findPlace (t : AlarmTable) (q : AlarmRec → Bool) : Option (Fin 64) := (indices 64).find? (placeHas t q)

def lowestEmptyPlace (t : AlarmTable) : Option (Fin 64) := (indices 64).find? (fun i => t[i].isNone)

/-- A kind other than ALARM_TABLE_FULL (R140). -/
def ordinary (r : AlarmRec) : Bool := r.kind != .alarmTableFull

def ordinaryCount (t : AlarmTable) : Nat := (indices 64).countP (placeHas t ordinary)

/-- R140: the CLEARED_UNACKED record to evict: the lowest last-change seconds, then the lowest place. -/
def evictable (t : AlarmTable) : Option (Fin 64) :=
  (indices 64).foldl (fun best i =>
    match t[i] with
    | none => best
    | some r =>
      if ordinary r && r.state == .clearedUnacked then
        match best with
        | none => some i
        | some j =>
          match t[j] with
          | none => some i
          | some q => if r.lastChange < q.lastChange then some i else some j
      else best) none

/-! ### Changing the table (R138 to R141, R144) -/

/-- A place takes a record or becomes empty; its page entry is marked when it changes (R144). -/
def setPlace (i : Fin 64) (x : Option AlarmRec) (c : At Atu) : At Atu :=
  { own := { c.own with table := setAt c.own.table i x }, bus := c.bus.markIf (x != c.own.table[i]) (.alarmPlace i) }

/-- R139 for the record of a place. -/
def clearPlace (now : Word) (i : Fin 64) (c : At Atu) : At Atu :=
  match c.own.table[i] with
  | none => c
  | some r =>
    match r.state with
    | .activeUnacked => setPlace i (some { r with state := .clearedUnacked, lastChange := now }) c
    | .activeAcked => setPlace i none c
    | .clearedUnacked => c

/-- R141: after a removal, ALARM_TABLE_FULL is cleared when fewer than 56 records remain. -/
def judgeFull (now : Word) (c : At Atu) : At Atu :=
  if alarmCount c.own.table < 56 then
    match findPlace c.own.table (fun r => r.kind == .alarmTableFull && r.isActive) with
    | none => c
    | some i => clearPlace now i c
  else c

/-- A record is removed, and R141 is judged. -/
def removePlace (now : Word) (i : Fin 64) (c : At Atu) : At Atu := judgeFull now (setPlace i none c)

def newAlarm (now : Word) (k : AlarmKind) (o : Nat) : AlarmRec :=
  { kind := k, object := o, severity := alarmSeverity k, state := .activeUnacked, raiseCount := 1
    firstRaised := now, lastChange := now }

/-- A new record in the lowest-numbered empty place (R140). -/
def placeNew (now : Word) (k : AlarmKind) (o : Nat) (c : At Atu) : At Atu :=
  match lowestEmptyPlace c.own.table with
  | none => c
  | some i => setPlace i (some (newAlarm now k o)) c

/-- R138 for a record that the table holds. -/
def reactivate (now : Word) (i : Fin 64) (c : At Atu) : At Atu :=
  match c.own.table[i] with
  | none => c
  | some r =>
    if r.state = .clearedUnacked then
      setPlace i (some { r with
        state := .activeUnacked, raiseCount := min (r.raiseCount + 1) 255, lastChange := now }) c
    else c

/-- R138 for ALARM_TABLE_FULL. -/
def raiseFull (now : Word) (c : At Atu) : At Atu :=
  match findPlace c.own.table (fun r => r.names .alarmTableFull 0) with
  | some i => reactivate now i c
  | none => placeNew now .alarmTableFull 0 c

/-- R140: a raise that finds no room. -/
def dropRaise (now : Word) (c : At Atu) : At Atu :=
  raiseFull now { c with own := { c.own with dropped := min (c.own.dropped + 1) 65535 } }

/-- R138, R140. -/
def applyRaise (now : Word) (k : AlarmKind) (o : Nat) (c : At Atu) : At Atu :=
  match findPlace c.own.table (fun r => r.names k o) with
  | some i => reactivate now i c
  | none =>
    if k ≠ .alarmTableFull ∧ 63 ≤ ordinaryCount c.own.table then
      match evictable c.own.table with
      | some i => placeNew now k o (removePlace now i c)
      | none => dropRaise now c
    else placeNew now k o c

/-- R139. -/
def applyClear (now : Word) (k : AlarmKind) (o : Nat) (c : At Atu) : At Atu :=
  match findPlace c.own.table (fun r => r.names k o) with
  | none => c
  | some i =>
    match c.own.table[i] with
    | some r => if r.state = .activeAcked then removePlace now i c else clearPlace now i c
    | none => c

/-! ### Outputs (R143, R144) -/

/-- The outputs follow the table, and the alarm summary is marked when a figure of it has changed. -/
def atuOutputs (before : Atu) (c : At Atu) : At Atu :=
  let t := c.own.table
  let a := { c.own with relay := relayDue t, ledCrit := ledDue .critical t, ledMaj := ledDue .major t }
  let changed := alarmCount t != alarmCount before.table || a.dropped != before.dropped || a.relay != before.relay
    || a.ledCrit != before.ledCrit || a.ledMaj != before.ledMaj
  { own := a, bus := c.bus.markIf changed .alarmSummary }

/-- A change of the table with its outputs. -/
def atuStep (f : At Atu → At Atu) (c : At Atu) : At Atu := atuOutputs c.own (f c)

/-! ### ALARM ACKNOWLEDGE (R142) -/

/-- R142 for one place, with the number of records moved to ACTIVE_ACKED so far. -/
def ackPlace (now : Word) (x : At Atu × Nat) (i : Fin 64) : At Atu × Nat :=
  let (c, moved) := x
  match c.own.table[i] with
  | none => (c, moved)
  | some r =>
    match r.state with
    | .activeUnacked => (setPlace i (some { r with state := .activeAcked, lastChange := now }) c, moved + 1)
    | .clearedUnacked => (removePlace now i c, moved)
    | .activeAcked => (c, moved)

def ackDetails (a : Atu) (moved removed : Nat) : Details := details moved removed (alarmCount a.table) a.dropped

def atuEnd (cls : OutcomeClass) (moved removed : Nat) (c : At Atu) : At Atu :=
  { c with bus := c.bus.endTask .atu cls (ackDetails c.own moved removed) }

/-- R142: the places named are acknowledged, and the task closes NORMAL. -/
def ackPlaces (now : Word) (places : List (Fin 64)) (c : At Atu) : At Atu :=
  let (d, moved) := places.foldl (ackPlace now) (c, 0)
  atuEnd .normal moved (alarmCount c.own.table - alarmCount d.own.table) (atuOutputs c.own d)

/-- R142. -/
def acknowledge (now : Word) (w : TaskWord) (c : At Atu) : At Atu :=
  if w.bits 0 16 = 0xFFFF then ackPlaces now (indices 64) c
  else if h : w.bits 0 16 < 64 then
    if c.own.table[(⟨w.bits 0 16, h⟩ : Fin 64)].isNone then atuEnd (.refused .notFound) 0 0 c
    else ackPlaces now [⟨w.bits 0 16, h⟩] c
  else atuEnd (.refused .badParameter) 0 0 c

/-! ### The meanings -/

/-- The oldest request of the block that owns the kind, if it is this one (R137). -/
def takeAlarm (raised : Bool) (k : AlarmKind) (o : Nat) (b : Bus) : Option Bus :=
  match takeFirst (fun r => alarmOwner r.kind == alarmOwner k) b.toAtu with
  | some (r, rest) =>
    if r = { raised := raised, kind := k, object := o } then some { b with toAtu := rest } else none
  | none => none

/-- RAISE (R138, R140). -/
def execRaise (k : AlarmKind) (o : Nat) (s : State) : Host.Outcome State Fault Refusal :=
  match takeAlarm true k o s.bus with
  | none => .next s
  | some b => .next ((s.withBus b).onAtu (atuStep (applyRaise s.tb.seconds k o)))

/-- CLEAR (R139, R141). -/
def execClear (k : AlarmKind) (o : Nat) (s : State) : Host.Outcome State Fault Refusal :=
  match takeAlarm false k o s.bus with
  | none => .next s
  | some b => .next ((s.withBus b).onAtu (atuStep (applyClear s.tb.seconds k o)))

/-- ALARM_ACKNOWLEDGE (R142). -/
def execAlarmAcknowledge (s : State) : Host.Outcome State Fault Refusal :=
  match s.oldestWord .atu with
  | none => .next s
  | some w => .next ((s.takeWord .atu).onAtu (acknowledge s.tb.seconds w))

end Sys2Proof.Machine
end

