-- ==== Sys2Proof/Machine/Pbu.lean ====
section
/-! DEFINITION. The Power Budget Unit: modules and telemetry, the power policy, the budget arithmetic, claims and
releases, the start-up hold, and the over-budget machine (chapter 3). -/

namespace Sys2Proof.Machine

open Sys2Proof

/-! ### The figures (R47 to R51) -/

/-- The factor of R47. -/
def inletFactor (tin : Int) : Nat := (1000 - 25 * clampInt (tin - 40) 0 20).toNat

/-- R47. -/
def availableOf (r : ModuleRec) : Nat := if r.state = .ok then r.wr * inletFactor r.tin / 1000 else 0

/-- The modules that contribute to U. -/
def contributing (m : Vector ModuleRec 4) : Nat := m.toList.countP (fun r => r.state == .ok)

def gridA (m : Vector ModuleRec 4) : Nat := m[0].available + m[1].available

def gridB (m : Vector ModuleRec 4) : Nat := m[2].available + m[3].available

def largestAvailable (m : Vector ModuleRec 4) : Nat := m.toList.foldl (fun x r => max x r.available) 0

/-- R48: usable power. -/
def usableOf (mode : RedundancyMode) (m : Vector ModuleRec 4) : Nat :=
  let sum := gridA m + gridB m
  match mode with
  | .combined => sum
  | .nPlus1 => if 2 ≤ contributing m then sum - largestAvailable m else sum
  | .grid => if gridA m = 0 ∨ gridB m = 0 then sum else min (gridA m) (gridB m)

/-- R48: the REDUNDANCY_LOST condition. -/
def redundancyLostOf (mode : RedundancyMode) (m : Vector ModuleRec 4) : Bool :=
  match mode with
  | .combined => false
  | .nPlus1 => decide (contributing m < 2)
  | .grid => gridA m == 0 || gridB m == 0

/-- R49: the reservation of a tray. -/
def trayReservation (t : TrayEntry) : Nat := if t.present then ceilDiv (t.fmax * t.duty ^ 3) 1000000 else 0

/-- The port watts of a port list. -/
def listWatts (port : Counts) (ports : List (Port × Tier)) : Nat := (ports.map (fun e => port.get e.2)).sum

/-- What a slot entry puts into D (R51). -/
def slotWatts (port : Counts) (e : SlotEntry) : Nat :=
  match e.standing with
  | .unpowered => 0
  | .standby => e.wsb
  | .powered => e.ws + listWatts port e.ports

/-- R51: demand for base watts and port watts. -/
def demandOf (wb : Nat) (port : Counts) (trays : Vector TrayEntry 6) (slots : Vector SlotEntry 8) : Nat :=
  wb + (trays.toList.map trayReservation).sum + (slots.toList.map (slotWatts port)).sum

def Pbu.demandNow (b : Pbu) : Nat := demandOf b.policy.wb b.policy.port b.trays b.slots

/-- U, D and the REDUNDANCY_LOST condition computed again (R48, R51). -/
def pbuFigures (c : At Pbu) : At Pbu :=
  let u := usableOf c.own.policy.mode c.own.modules
  let d := c.own.demandNow
  let lost := redundancyLostOf c.own.policy.mode c.own.modules
  let b := c.bus.markIf (u != c.own.usable || d != c.own.demand) .header
  let b := if lost && !c.own.redundancyLost then b.raise .redundancyLost 0
    else if !lost && c.own.redundancyLost then b.clearAlarm .redundancyLost 0
    else b
  { own := { c.own with usable := u, demand := d, redundancyLost := lost }, bus := b }

/-! ### The over-budget machine (R57 to R60) -/

def setBudget (x : BudgetState) (grace interval : Timer) (c : At Pbu) : At Pbu :=
  { own := { c.own with budget := x, graceTimer := grace, intervalTimer := interval }
    bus := c.bus.markIf (x != c.own.budget) .header }

/-- R58: the return to WITHIN. -/
def backWithin (c : At Pbu) : At Pbu :=
  let c := setBudget .within .stopped .stopped c
  { c with bus := c.bus.clearAlarm .overBudget 0 }

def candidate (e : SlotEntry) : Bool := e.standing != .unpowered

/-- R60: the candidate with the lowest priority value, and among equals the highest slot number. -/
def victim (slots : Vector SlotEntry 8) : Option Slot :=
  (indices 8).foldl (fun best i =>
    if candidate slots[i] then
      match best with
      | none => some i
      | some j => if slots[i].priority ≤ slots[j].priority then some i else some j
    else best) none

/-- R60: one slot is shed, and the new H is taken from SHEDDING. -/
def shedSlot (i : Slot) (c : At Pbu) : At Pbu :=
  let slots := updAt c.own.slots i (fun e => { e with standing := .unpowered, shedPending := true })
  let c := pbuFigures { own := { c.own with slots := slots }, bus := c.bus.sendPbuSls (.shedOrder i) }
  if 0 ≤ c.own.headroom then backWithin c else c

/-- R58, R59: with a candidate the machine enters SHEDDING, starts the interval timer and sheds one; with none it
enters EXHAUSTED. -/
def shedOrExhaust (c : At Pbu) : At Pbu :=
  match victim c.own.slots with
  | some i => shedSlot i (setBudget .shedding .stopped (.running 1000) c)
  | none => setBudget .exhausted .stopped .stopped c

/-- R56, R58: the machine takes the new H, unless the start-up hold stands. -/
def takeHeadroom (c : At Pbu) : At Pbu :=
  if c.own.hold then c
  else
    match c.own.budget with
    | .within =>
      if c.own.headroom < 0 then
        let c := { c with bus := c.bus.raise .overBudget 0 }
        if c.own.policy.grace = 0 then shedOrExhaust c
        else setBudget .grace (.running (1000 * c.own.policy.grace)) .stopped c
      else c
    | _ => if 0 ≤ c.own.headroom then backWithin c else c

/-- R51: recomputation, and the new H taken in the same step: REDUNDANCY_LOST is asked for before OVER_BUDGET (log entry
63). -/
def recompute (c : At Pbu) : At Pbu := takeHeadroom (pbuFigures c)

/-! ### Claims (R52 to R54) -/

/-- R52: need 0 or less, or within the headroom. -/
def admits (need headroom : Int) : Bool := decide (need ≤ 0) || decide (need ≤ headroom)

def setSlot (i : Slot) (e : SlotEntry) (c : At Pbu) : At Pbu :=
  { c with own := { c.own with slots := setAt c.own.slots i e } }

/-- A claim with its need, the entry it leaves and the answer it earns (R52). -/
def judgeClaim (i : Slot) (need : Int) (e : SlotEntry) (g : Grant) (c : At Pbu) : At Pbu × ClaimAnswer :=
  if admits need c.own.headroom then
    let d := setSlot i e c
    (recompute d, { grant := g, amount := (d.own.demandNow : Int) - (c.own.demandNow : Int) })
  else (c, { grant := .refused, amount := 0 })

/-- The tier recorded for a port. -/
def recordedTier (p : Port) (ports : List (Port × Tier)) : Option Tier := (ports.find? (fun x => x.1 = p)).map (·.2)

/-- A port list with the tier of a recorded port replaced. -/
def retier (p : Port) (t : Tier) (ports : List (Port × Tier)) : List (Port × Tier) :=
  ports.map (fun x => if x.1 = p then (p, t) else x)

/-- The watts by which waking a STANDBY entry raises D. -/
def wakeNeed (port : Counts) (e : SlotEntry) : Int := (e.ws : Int) - e.wsb + listWatts port e.ports

/-- R53: tier claim; with the port not recorded nothing changes. -/
def tierClaim (p : Port) (t : Tier) (c : At Pbu) : At Pbu × ClaimAnswer :=
  let e := c.own.slots[slotOf p]
  let port := c.own.policy.port
  let need : Int := match e.standing, recordedTier p e.ports with
    | .powered, some old => (port.get t : Int) - port.get old
    | _, _ => 0
  judgeClaim (slotOf p) need { e with ports := retier p t e.ports } .granted c

/-- R53: port claim. -/
def portClaim (p : Port) (t : Tier) (c : At Pbu) : At Pbu × ClaimAnswer :=
  let e := c.own.slots[slotOf p]
  let port := c.own.policy.port
  if (recordedTier p e.ports).isSome then tierClaim p t c
  else
    let e' := { e with ports := e.ports ++ [(p, t)] }
    match e.standing with
    | .powered => judgeClaim (slotOf p) (port.get t) e' .granted c
    | .standby =>
      judgeClaim (slotOf p) (wakeNeed port e + port.get t) { e' with standing := .powered } .grantedWithWake c
    | .unpowered => judgeClaim (slotOf p) 0 e' .granted c

/-- R53: wake claim. -/
def wakeClaim (i : Slot) (c : At Pbu) : At Pbu × ClaimAnswer :=
  let e := c.own.slots[i]
  match e.standing with
  | .standby => judgeClaim i (wakeNeed c.own.policy.port e) { e with standing := .powered } .grantedWithWake c
  | _ => judgeClaim i 0 e .granted c

/-- R54: slot claim. -/
def slotClaim (i : Slot) (ws wsb : Nat) (c : At Pbu) : At Pbu × ClaimAnswer :=
  let e := c.own.slots[i]
  let port := c.own.policy.port
  if e.shedPending then (c, { grant := .refused, amount := 0 })
  else
    match e.standing with
    | .unpowered =>
      judgeClaim i ((ws : Int) + listWatts port e.ports) { e with ws := ws, wsb := min wsb ws, standing := .powered }
        .granted c
    | .standby => judgeClaim i (wakeNeed port e) { e with standing := .powered } .granted c
    | .powered => judgeClaim i 0 e .granted c

/-- A claim of the PTU judged and answered. -/
def answerPtu (m : PtuToPbu) (c : At Pbu) : At Pbu :=
  let send := fun (x : At Pbu × ClaimAnswer) => { x.1 with bus := x.1.bus.sendPbuPtu x.2 }
  match m with
  | .portClaim p t => send (portClaim p t c)
  | .tierClaim p _ t => send (tierClaim p t c)
  | .wakeClaim i => send (wakeClaim i c)
  | .portRelease _ | .tierReturn _ _ => c

/-- A slot claim judged and answered. -/
def answerSls (i : Slot) (ws wsb : Nat) (c : At Pbu) : At Pbu :=
  let (c, a) := slotClaim i ws wsb c
  { c with bus := c.bus.sendPbuSls (.claimAnswer i (a.grant != .refused) a.amount) }

/-- A claim is held during the start-up hold, else judged (R56). -/
def pbuClaim (h : HeldClaim) (c : At Pbu) : At Pbu :=
  if c.own.hold then { c with own := { c.own with heldClaims := c.own.heldClaims ++ [h] } }
  else
    match h with
    | .ptu m => answerPtu m c
    | .sls i ws wsb => answerSls i ws wsb c

/-! ### Releases (R55) -/

def updSlot (i : Slot) (f : SlotEntry → SlotEntry) (c : At Pbu) : At Pbu :=
  recompute { c with own := { c.own with slots := updAt c.own.slots i f } }

def releasePort (p : Port) (c : At Pbu) : At Pbu :=
  updSlot (slotOf p) (fun e => { e with ports := e.ports.filter (fun x => x.1 ≠ p) }) c

def returnTier (p : Port) (t : Tier) (c : At Pbu) : At Pbu :=
  updSlot (slotOf p) (fun e => { e with ports := retier p t e.ports }) c

def stepDown (i : Slot) (c : At Pbu) : At Pbu :=
  updSlot i (fun e => if e.standing = .powered then { e with standing := .standby } else e) c

def releaseSlot (i : Slot) (c : At Pbu) : At Pbu := updSlot i (fun e => { e with standing := .unpowered }) c

/-- R49: a duty report. -/
def takeDuty (r : DutyReport) (c : At Pbu) : At Pbu :=
  recompute { c with own := { c.own with
    trays := setAt c.own.trays r.tray { present := r.present, fmax := r.fmax, duty := r.duty } } }

/-- R60: the answer to a shed order clears the mark. -/
def clearShed (i : Slot) (c : At Pbu) : At Pbu :=
  { c with own := { c.own with slots := updAt c.own.slots i (fun e => { e with shedPending := false }) } }

def setPriority (i : Slot) (v : Nat) (c : At Pbu) : At Pbu :=
  { c with own := { c.own with slots := updAt c.own.slots i (fun e => { e with priority := v }) } }

/-! ### Modules (R40 to R44) -/

/-- A module record with the fields of R40 alone: a poll is outstanding or not, and `epoch` is the model's. -/
def ModuleRec.listed (r : ModuleRec) : ModuleRec :=
  { r with polls := if r.polls.isEmpty then [] else [0], epoch := 0 }

/-- A module record replaced, with its available watts (R47). The entry is marked when a field of R40 has changed (log
entry 28). -/
def writeModule (b : Fin 4) (r : ModuleRec) (c : At Pbu) : At Pbu :=
  let r := { r with available := availableOf r }
  { own := { c.own with modules := setAt c.own.modules b r }
    bus := c.bus.markIf (r.listed != c.own.modules[b].listed) (.moduleBay b) }

/-- A bay counts as finished for the start-up hold (R56). -/
def finishBay (b : Fin 4) (c : At Pbu) : At Pbu :=
  { c with own := { c.own with finished := setAt c.own.finished b true } }

/-- The states in which a module is polled and follows its lines. -/
def liveModule (s : ModuleState) : Bool := s == .ok || s == .inputLost || s == .outputFault

def requestInventory (b : Fin 4) (c : At Pbu) : At Pbu :=
  { c with bus := c.bus.request .pbu (.moduleBay b) .inventory c.own.modules[b].epoch }

def requestPoll (b : Fin 4) (c : At Pbu) : At Pbu :=
  let r := c.own.modules[b]
  let c := writeModule b { r with polls := r.polls ++ [r.epoch] } c
  { c with bus := c.bus.request .pbu (.moduleBay b) .telemetry r.epoch }

/-- R41: presence gained. -/
def moduleGained (b : Fin 4) (c : At Pbu) : At Pbu :=
  let r := c.own.modules[b]
  if r.state = .absent then
    requestInventory b (writeModule b { r with state := .identifying, tryNo := some 1, retryTimer := .stopped } c)
  else c

/-- R41: presence lost. The clears go in the order in which R41 names them, and before the requests of the recomputation
(log entry 63). -/
def moduleLost (b : Fin 4) (c : At Pbu) : At Pbu :=
  let r := c.own.modules[b]
  let c := writeModule b
    { r with state := .absent, wr := 0, outputWatts := 0, tin := 0, telemetry := .fresh, tryNo := none
             retryTimer := .stopped, epoch := r.epoch + 1 } c
  let c := { c with bus :=
    ((c.bus.clearAlarm .moduleInputLost b.val).clearAlarm .moduleFault b.val).clearAlarm .moduleUnknown b.val }
  recompute (finishBay b c)

/-- R43: the state that the lines give. -/
def moduleStateOf (inputOk outputOk : Bool) : ModuleState :=
  if !inputOk then .inputLost else if !outputOk then .outputFault else .ok

/-- R43: the alarms of a passage from one state to another: the clear for the state left, then the raise for the state
entered (log entry 63). -/
def moduleAlarms (b : Fin 4) (old new : ModuleState) (x : Bus) : Bus :=
  if old = new then x
  else
    let x := match old with
      | .inputLost => x.clearAlarm .moduleInputLost b.val
      | .outputFault => x.clearAlarm .moduleFault b.val
      | _ => x
    match new with
    | .inputLost => x.raise .moduleInputLost b.val
    | .outputFault => x.raise .moduleFault b.val
    | _ => x

/-- R43: a module takes the state that its lines give; its own alarm requests go before those of the recomputation (log
entry 63). -/
def moduleLines (b : Fin 4) (inputOk outputOk : Bool) (c : At Pbu) : At Pbu :=
  let r := c.own.modules[b]
  let st := moduleStateOf inputOk outputOk
  if liveModule r.state ∧ st ≠ r.state then
    let c := writeModule b { r with state := st } c
    recompute { c with bus := moduleAlarms b r.state st c.bus }
  else c

/-- The rated watts of a good inventory answer (R42). -/
def goodRating : LineOutcome → Option Nat
  | .ok data =>
    let w := field data 0 2
    if 200 ≤ w ∧ w ≤ 4000 then some w else none
  | _ => none

/-- R42: the outcome of an inventory try; the module's own alarm requests go before those of the recomputation (log entry
63). -/
def moduleTry (b : Fin 4) (tag : Nat) (o : LineOutcome) (inputOk outputOk : Bool) (c : At Pbu) : At Pbu :=
  let r := c.own.modules[b]
  match r.tryNo with
  | none => c
  | some n =>
    if tag ≠ r.epoch ∨ r.state ≠ .identifying ∨ r.retryTimer ≠ .stopped then c
    else
      match goodRating o with
      | some w =>
        let st := moduleStateOf inputOk outputOk
        let c := writeModule b
          { r with wr := w, state := st, tin := 60, telemetry := .held3, tryNo := none, retryTimer := .stopped } c
        recompute (requestPoll b { c with bus := moduleAlarms b .identifying st c.bus })
      | none =>
        if n < 3 then writeModule b { r with tryNo := some (n + 1), retryTimer := .running 100 } c
        else
          let c := writeModule b { r with state := .unknownModule, wr := 0, tryNo := none, retryTimer := .stopped } c
          recompute (finishBay b { c with bus := c.bus.raise .moduleUnknown b.val })

/-- R42: the next try, 100 ms after the failure. -/
def moduleRetry (b : Fin 4) (c : At Pbu) : At Pbu :=
  let r := c.own.modules[b]
  match r.retryTimer with
  | .running _ => requestInventory b (writeModule b { r with retryTimer := .stopped } c)
  | _ => c

/-- Inlet temperature and output watts of a good poll (R44). -/
def goodPoll : LineOutcome → Option (Int × Nat)
  | .ok data =>
    let t := signed16 (field data 0 2)
    if -40 ≤ t ∧ t ≤ 150 then some (t, field data 2 2) else none
  | _ => none

/-- R44: a poll judged. -/
def pollStep (o : LineOutcome) (r : ModuleRec) : ModuleRec :=
  match goodPoll o with
  | some (t, w) => { r with tin := t, outputWatts := w, telemetry := .fresh }
  | none =>
    match r.telemetry with
    | .fresh => { r with telemetry := .held1 }
    | .held1 => { r with telemetry := .held2 }
    | .held2 | .held3 => { r with telemetry := .held3, tin := 60 }

/-- R44: the answer of a telemetry poll. -/
def takePoll (b : Fin 4) (tag : Nat) (o : LineOutcome) (c : At Pbu) : At Pbu :=
  let r := { c.own.modules[b] with polls := c.own.modules[b].polls.erase tag }
  if tag = r.epoch ∧ liveModule r.state then recompute (finishBay b (writeModule b (pollStep o r) c))
  else writeModule b r c

/-- R44: on each cycle tick, one poll for each live module that has none outstanding, the bays in ascending order (log
entry 58). -/
def pollModules (c : At Pbu) : At Pbu :=
  (indices 4).foldl (fun c b =>
    if liveModule c.own.modules[b].state && c.own.modules[b].polls.isEmpty then requestPoll b c else c) c

/-! ### POWER POLICY (R46) -/

/-- The fields after clamping; the mode code is judged apart. -/
structure ClampedPolicy where
  wb : Nat
  port : Counts
  grace : Nat
  idle : Nat
  changed : Nat
  deriving DecidableEq, Repr

/-- R46, step 1. -/
def clampPolicy (r : RawPolicy) : ClampedPolicy :=
  let wb := min r.wb 1000
  let t1 := min r.t1 30
  let t2 := max (min r.t2 30) t1
  let t3 := max (min r.t3 30) t2
  let grace := min r.grace 60
  let idle := min r.idle 240
  { wb := wb, port := { t1 := t1, t2 := t2, t3 := t3 }, grace := grace, idle := idle
    changed := [wb != r.wb, t1 != r.t1, t2 != r.t2, t3 != r.t3, grace != r.grace, idle != r.idle].countP id }

/-- Words 0 to 2 for the budget as it stands, and word 3. -/
def policyDetails (b : Pbu) (changed : Nat) : Details :=
  { w0 := BitVec.ofNat 32 b.usable, w1 := BitVec.ofNat 32 b.demand, w2 := signedWord b.headroom
    w3 := BitVec.ofNat 32 changed }

def pbuEnd (cls : OutcomeClass) (changed : Nat) (c : At Pbu) : At Pbu :=
  { c with bus := c.bus.endTask .pbu cls (policyDetails c.own changed) }

/-- R46: all 32 bytes have arrived. A new idle time goes to the SLS before any shed order of the same step (log entry
51). -/
def takePolicy (raw : RawPolicy) (c : At Pbu) : At Pbu :=
  let p := clampPolicy raw
  match redundancyModeOf raw.mode with
  | none => pbuEnd (.refused .badPolicy) 0 c
  | some mode =>
    let rise : Int := (demandOf p.wb p.port c.own.trays c.own.slots : Int) - c.own.demand
    if 0 < rise ∧ c.own.headroom < rise then pbuEnd (.refused .noPower) p.changed c
    else
      let policy : PowerPolicy := { mode := mode, wb := p.wb, port := p.port, grace := p.grace, idle := p.idle }
      let b := if p.idle ≠ c.own.policy.idle then c.bus.sendPbuSls (.idleTime p.idle) else c.bus
      pbuEnd .normal p.changed (recompute { own := { c.own with policy := policy }, bus := b.mark .header })

/-- R46: the delivery has stopped. -/
def pbuStopped (c : At Pbu) : At Pbu := pbuEnd .stopped 0 c

/-! ### The start-up hold (R56) -/

/-- Every bay that the scan found present has finished. -/
def baysFinished (b : Pbu) : Bool := (indices 4).all (fun i => !b.awaited[i] || b.finished[i])

/-- R56: the machine takes H, and then the held claims are taken in order. -/
def endHold (c : At Pbu) : At Pbu :=
  let held := c.own.heldClaims
  held.foldl (fun c h => pbuClaim h c) (takeHeadroom { c with own := { c.own with hold := false, heldClaims := [] } })

/-- The oldest POWER POLICY word is taken and its data read. -/
def takePolicyWord (s : State) : State :=
  match s.oldestWord .pbu with
  | none => s
  | some _ => (s.takeWord .pbu).onHost (beginInput .pbu)

/-! ### The meanings -/

/-- BAY_PRESENCE_GAINED (R41). -/
def execBayPresenceGained (s : State) : Host.Outcome State Fault Refusal :=
  match s.bus.tbPbu with
  | (b, true) :: rest => .next ((s.withBus { s.bus with tbPbu := rest }).onPbu (moduleGained b))
  | _ => .next s

/-- BAY_PRESENCE_LOST (R41). -/
def execBayPresenceLost (s : State) : Host.Outcome State Fault Refusal :=
  match s.bus.tbPbu with
  | (b, false) :: rest => .next ((s.withBus { s.bus with tbPbu := rest }).onPbu (moduleLost b))
  | _ => .next s

/-- MODULE_INVENTORY_ANSWER (R42). -/
def execModuleInventoryAnswer (s : State) : Host.Outcome State Fault Refusal :=
  match s.bus.mlcPbu with
  | { req := { dev := .moduleBay b, cmd := .inventory, tag := t, .. }, outcome := o } :: rest =>
    .next ((s.withBus { s.bus with mlcPbu := rest }).onPbu (moduleTry b t o s.pins.inputOk[b] s.pins.outputOk[b]))
  | _ => .next s

/-- MODULE_RETRY_TIMER (R42): without effect when the timer is stopped. -/
def execModuleRetryTimer (b : Fin 4) (s : State) : Host.Outcome State Fault Refusal := .next (s.onPbu (moduleRetry b))

/-- A line of a bay takes a level. -/
def setModuleLine (b : Fin 4) (line : ModuleLine) (level : Bool) (p : Pins) : Pins :=
  match line with
  | .inputOk => { p with inputOk := setAt p.inputOk b level }
  | .outputOk => { p with outputOk := setAt p.outputOk b level }

/-- MODULE_LINE_CHANGE (R43). -/
def execModuleLineChange (b : Fin 4) (line : ModuleLine) (level : Bool) (s : State) :
    Host.Outcome State Fault Refusal :=
  let pins := setModuleLine b line level s.pins
  .next ({ s with pins := pins }.onPbu (moduleLines b pins.inputOk[b] pins.outputOk[b]))

/-- TELEMETRY_ANSWER (R44). -/
def execTelemetryAnswer (s : State) : Host.Outcome State Fault Refusal :=
  match s.bus.mlcPbu with
  | { req := { dev := .moduleBay b, cmd := .telemetry, tag := t, .. }, outcome := o } :: rest =>
    .next ((s.withBus { s.bus with mlcPbu := rest }).onPbu (takePoll b t o))
  | _ => .next s

/-- POWER_POLICY (R46, R56): the task is taken, outside the start-up hold, and its data read; when all bytes have
arrived, they are judged. -/
def execPowerPolicy (s : State) : Host.Outcome State Fault Refusal :=
  match s.bus.service .pbu with
  | some sv => if sv.complete then .next (s.onPbu (takePolicy (rawPolicyOf sv.input))) else .next s
  | none => if s.pbu.hold then .next s else .next (takePolicyWord s)

/-- PORT_CLAIM (R53). -/
def execPortClaim (s : State) : Host.Outcome State Fault Refusal :=
  match s.bus.ptuPbu with
  | .portClaim p t :: rest =>
    .next ((s.withBus { s.bus with ptuPbu := rest }).onPbu (pbuClaim (.ptu (.portClaim p t))))
  | _ => .next s

/-- TIER_CLAIM (R53). -/
def execTierClaim (s : State) : Host.Outcome State Fault Refusal :=
  match s.bus.ptuPbu with
  | .tierClaim p old new :: rest =>
    .next ((s.withBus { s.bus with ptuPbu := rest }).onPbu (pbuClaim (.ptu (.tierClaim p old new))))
  | _ => .next s

/-- WAKE_CLAIM_JUDGED (R53). -/
def execWakeClaimJudged (s : State) : Host.Outcome State Fault Refusal :=
  match s.bus.ptuPbu with
  | .wakeClaim i :: rest => .next ((s.withBus { s.bus with ptuPbu := rest }).onPbu (pbuClaim (.ptu (.wakeClaim i))))
  | _ => .next s

/-- SLOT_CLAIM (R54). -/
def execSlotClaim (s : State) : Host.Outcome State Fault Refusal :=
  match s.bus.slsPbu with
  | .slotClaim i ws wsb :: rest =>
    .next ((s.withBus { s.bus with slsPbu := rest }).onPbu (pbuClaim (.sls i ws wsb)))
  | _ => .next s

/-- PORT_RELEASE (R55). -/
def execPortRelease (s : State) : Host.Outcome State Fault Refusal :=
  match s.bus.ptuPbu with
  | .portRelease p :: rest => .next ((s.withBus { s.bus with ptuPbu := rest }).onPbu (releasePort p))
  | _ => .next s

/-- TIER_RETURN (R55). -/
def execTierReturn (s : State) : Host.Outcome State Fault Refusal :=
  match s.bus.ptuPbu with
  | .tierReturn p t :: rest => .next ((s.withBus { s.bus with ptuPbu := rest }).onPbu (returnTier p t))
  | _ => .next s

/-- STANDBY_STEP_DOWN (R55). -/
def execStandbyStepDown (s : State) : Host.Outcome State Fault Refusal :=
  match s.bus.slsPbu with
  | .stepDown i :: rest => .next ((s.withBus { s.bus with slsPbu := rest }).onPbu (stepDown i))
  | _ => .next s

/-- SLOT_RELEASE (R55). -/
def execSlotRelease (s : State) : Host.Outcome State Fault Refusal :=
  match s.bus.slsPbu with
  | .slotRelease i :: rest => .next ((s.withBus { s.bus with slsPbu := rest }).onPbu (releaseSlot i))
  | _ => .next s

/-- DUTY_REPORT (R49). -/
def execDutyReport (s : State) : Host.Outcome State Fault Refusal :=
  match s.bus.clcPbu with
  | r :: rest => .next ((s.withBus { s.bus with clcPbu := rest }).onPbu (takeDuty r))
  | [] => .next s

/-- PRIORITY_UPDATE (R50). -/
def execPriorityUpdate (s : State) : Host.Outcome State Fault Refusal :=
  match s.bus.slsPbu with
  | .priority i v :: rest => .next ((s.withBus { s.bus with slsPbu := rest }).onPbu (setPriority i v))
  | _ => .next s

/-- STARTUP_HOLD_RELEASE (R56): without effect until the scan is taken and every bay it found present has finished. -/
def execStartupHoldRelease (s : State) : Host.Outcome State Fault Refusal :=
  if s.pbu.hold ∧ s.tb.scanTold ∧ baysFinished s.pbu then .next (takePolicyWord (s.onPbu endHold)) else .next s

/-- GRACE_TIMER_EXPIRY (R59): without effect when the timer is stopped. -/
def execGraceTimerExpiry (s : State) : Host.Outcome State Fault Refusal :=
  match s.pbu.graceTimer with
  | .running _ => .next (s.onPbu shedOrExhaust)
  | _ => .next s

/-- INTERVAL_TIMER_EXPIRY (R59): without effect when the timer is stopped. -/
def execIntervalTimerExpiry (s : State) : Host.Outcome State Fault Refusal :=
  match s.pbu.intervalTimer with
  | .running _ => .next (s.onPbu shedOrExhaust)
  | _ => .next s

/-- SHED_ANSWER (R60). -/
def execShedAnswer (s : State) : Host.Outcome State Fault Refusal :=
  match s.bus.slsPbu with
  | .shedAnswer i _ :: rest => .next ((s.withBus { s.bus with slsPbu := rest }).onPbu (clearShed i))
  | _ => .next s

end Sys2Proof.Machine
end

