-- ==== Sys2Proof/Machine/Clc.lean ====
section
/-! DEFINITION. The Cooling Controller: sensors, zone duty, trays, tach and rotor supervision, duty reports, thermal
alarms, THERMAL PROFILE, and the cycle tick (chapter 5, R158, R159). -/

namespace Sys2Proof.Machine

open Sys2Proof

/-! ### Records and their marks (R81) -/

def writeSensor (n : Fin 8) (r : SensorRec) (c : At Clc) : At Clc :=
  { own := { c.own with sensors := setAt c.own.sensors n r }
    bus := c.bus.markIf (r != c.own.sensors[n]) (.sensor n) }

def writeZone (z : Fin 3) (r : ZoneRec) (c : At Clc) : At Clc :=
  { own := { c.own with zones := setAt c.own.zones z r }, bus := c.bus.markIf (r != c.own.zones[z]) (.zone z) }

/-- A tray record with the fields of R81 alone: the wait of R93 for the next try, the width latch of R91 and the model's
`epoch` are no fields of that table. -/
def TrayRec.listed (r : TrayRec) : TrayRec := { r with retryTimer := .stopped, pwmLatch := 0, epoch := 0 }

/-- A tray record replaced; the width latch follows the commanded duty (R91). The entry is marked when a field of R81 has
changed (log entry 28). -/
def writeTray (t : Fin 6) (r : TrayRec) (c : At Clc) : At Clc :=
  let r := { r with pwmLatch := 10 * r.duty }
  { own := { c.own with trays := setAt c.own.trays t r }
    bus := c.bus.markIf (r.listed != c.own.trays[t].listed) (.tray t) }

def writeRotor (k : Fin 12) (r : RotorRec) (c : At Clc) : At Clc :=
  { own := { c.own with rotors := setAt c.own.rotors k r }, bus := c.bus.markIf (r != c.own.rotors[k]) (.rotor k) }

/-! ### Duty reports and boost (R89, R98) -/

/-- R98: a duty report for one tray. -/
def sendDuty (c : At Clc) (t : Fin 6) : At Clc :=
  let r := c.own.trays[t]
  { c with bus := c.bus.sendClcPbu { tray := t, present := r.state != .absent, fmax := r.fmax, duty := r.duty } }

/-- R89: the boost condition of a zone. -/
def boostCondition (b : Clc) (z : Fin 3) : Bool :=
  (traysOf z).any (fun t =>
    b.trays[t].state == .absent || b.trays[t].state == .identifying ||
      (rotorsOf t).any (fun k => b.rotors[k].state == .slow || b.rotors[k].state == .stalled))

/-- A present tray takes commanded duty 100. -/
def fullDuty (c : At Clc) (t : Fin 6) : At Clc :=
  if c.own.trays[t].state = .absent then c else writeTray t { c.own.trays[t] with duty := 100 } c

/-- R89: the boost of a zone begins; its trays are reported in ascending order (log entry 62). -/
def beginBoost (z : Fin 3) (c : At Clc) : At Clc :=
  let c := writeZone z { c.own.zones[z] with boosted := true, duty := 100 } c
  (traysOf z).foldl sendDuty ((traysOf z).foldl fullDuty c)

/-- R89: the condition is evaluated again. -/
def boostLook (z : Fin 3) (c : At Clc) : At Clc :=
  if boostCondition c.own z then
    if c.own.zones[z].boosted then c else beginBoost z c
  else if c.own.zones[z].boosted then writeZone z { c.own.zones[z] with boosted := false } c
  else c

/-- A rotor record with a new state, after which the boost condition of its zone is evaluated again. -/
def moveRotor (k : Fin 12) (r : RotorRec) (c : At Clc) : At Clc :=
  boostLook (zoneOfTray (trayOfRotor k)) (writeRotor k r c)

/-! ### Rotors (R95 to R97) -/

/-- R95. -/
def expectedRpm (rmax duty : Nat) : Nat := rmax * duty * 7 / 1000

/-- R96 for a rotor whose window was judged good or not. A rotor that becomes OK starts again at good run 0, as 5.10
shows at ticks 7 and 8. -/
def judgeRotor (k : Fin 12) (good : Bool) (r : RotorRec) (c : At Clc) : At Clc :=
  match r.state, good with
  | .ok, false =>
    if r.slowRun + 1 = 3 then
      moveRotor k { r with state := .slow, slowRun := 3, goodRun := 0 } { c with bus := c.bus.raise .fanSlow k.val }
    else writeRotor k { r with slowRun := r.slowRun + 1, goodRun := 0 } c
  | .ok, true => writeRotor k { r with slowRun := 0 } c
  | .slow, false | .stalled, false => writeRotor k { r with goodRun := 0 } c
  | .slow, true =>
    if r.goodRun + 1 = 3 then
      moveRotor k { r with state := .ok, goodRun := 0, slowRun := 0 } { c with bus := c.bus.clearAlarm .fanSlow k.val }
    else writeRotor k { r with goodRun := r.goodRun + 1, slowRun := 0 } c
  | .stalled, true =>
    if r.goodRun + 1 = 3 then
      moveRotor k { r with state := .ok, goodRun := 0, slowRun := 0 }
        { c with bus := c.bus.clearAlarm .fanStalled k.val }
    else writeRotor k { r with goodRun := r.goodRun + 1, slowRun := 0 } c
  | .absent, _ | .spinup, _ => writeRotor k r c

/-- Stage 1 for one rotor (R95, R96). -/
def closeWindow (c : At Clc) (k : Fin 12) : At Clc :=
  let r := c.own.rotors[k]
  let rpm := r.pulses * 30
  let r' := { r with pulses := 0, lastPulses := r.pulses, lastRpm := rpm }
  match r.windowDuty with
  | none => writeRotor k r' c
  | some d => judgeRotor k (decide (expectedRpm c.own.trays[(trayOfRotor k)].rmax d ≤ rpm)) r' c

/-- Stage 4 for one rotor (R86, R95). -/
def openWindow (c : At Clc) (k : Fin 12) : At Clc :=
  let r := c.own.rotors[k]
  let credited := r.state == .ok || r.state == .slow || r.state == .stalled
  writeRotor k
    { r with windowDuty := if credited then some c.own.trays[(trayOfRotor k)].duty else none } c

/-- R95, R97: a rising tach edge. -/
def tachEdge (k : Fin 12) (c : At Clc) : At Clc :=
  let r := c.own.rotors[k]
  writeRotor k
    { r with
      pulses := min (r.pulses + 1) 65535
      stallTimer := if r.stallTimer = .stopped then .stopped else .running 500 } c

/-- R97: the stall timer of a rotor expires; of a SLOW rotor the raise goes before the clear (log entry 63). -/
def stallExpired (k : Fin 12) (c : At Clc) : At Clc :=
  let r := c.own.rotors[k]
  match r.stallTimer with
  | .running _ =>
    let r' := { r with stallTimer := .runOut }
    if !r.armed then writeRotor k r' c
    else
      match r.state with
      | .ok => moveRotor k { r' with state := .stalled, goodRun := 0 } { c with bus := c.bus.raise .fanStalled k.val }
      | .slow =>
        moveRotor k { r' with state := .stalled, goodRun := 0 }
          { c with bus := (c.bus.raise .fanStalled k.val).clearAlarm .fanSlow k.val }
      | .stalled => writeRotor k { r' with goodRun := 0 } c
      | .absent | .spinup => writeRotor k r' c
  | _ => c

/-! ### Trays (R92 to R94) -/

/-- R94: a rotor of a tray that enters SPINUP. -/
def spinRotor (c : At Clc) (k : Fin 12) : At Clc :=
  moveRotor k
    { c.own.rotors[k] with
      state := .spinup, slowRun := 0, goodRun := 0, windowDuty := none, stallTimer := .running 500, armed := false } c

/-- R94: a tray enters SPINUP. -/
def enterSpinup (t : Fin 6) (r : TrayRec) (c : At Clc) : At Clc :=
  let c := writeTray t
    { r with state := .spinup, tryNo := none, retryTimer := .stopped, duty := 100, spinTimer := .running 5000 } c
  let c := boostLook (zoneOfTray t) ((rotorsOf t).foldl spinRotor c)
  sendDuty c t

/-- R94: a rotor judged by its stall timer when the spin-up ends. -/
def endSpin (c : At Clc) (k : Fin 12) : At Clc :=
  let r := c.own.rotors[k]
  match r.stallTimer with
  | .running _ => moveRotor k { r with state := .ok, armed := true } c
  | _ => moveRotor k { r with state := .stalled, armed := true } { c with bus := c.bus.raise .fanStalled k.val }

/-- R94: the spin-up timer of a tray expires; its rotors are judged in ascending order (log entry 62). -/
def spinupExpired (t : Fin 6) (c : At Clc) : At Clc :=
  let r := c.own.trays[t]
  match r.state, r.spinTimer with
  | .spinup, .running _ =>
    (rotorsOf t).foldl endSpin
      (boostLook (zoneOfTray t) (writeTray t { r with state := .running, spinTimer := .stopped } c))
  | _, _ => c

/-- R92: a rotor of a lost tray. -/
def loseRotor (c : At Clc) (k : Fin 12) : At Clc :=
  let r := c.own.rotors[k]
  let b := match r.state with
    | .slow => c.bus.clearAlarm .fanSlow k.val
    | .stalled => c.bus.clearAlarm .fanStalled k.val
    | _ => c.bus
  writeRotor k
    { r with state := .absent, stallTimer := .stopped, armed := false, slowRun := 0, goodRun := 0, windowDuty := none }
    { c with bus := b }

/-- R92: the clears of the rotors go in ascending order, before the raise for the tray, and the two trays of the zone are
reported in ascending order (log entries 62 and 63). -/
def trayLost (t : Fin 6) (c : At Clc) : At Clc :=
  let r := c.own.trays[t]
  let c := writeTray t
    { r with state := .absent, source := .none, duty := 100, spinTimer := .stopped, tryNo := none
             retryTimer := .stopped, epoch := r.epoch + 1 } c
  let c := (rotorsOf t).foldl loseRotor c
  let c := boostLook (zoneOfTray t) { c with bus := c.bus.raise .fanTrayAbsent t.val }
  (traysOf (zoneOfTray t)).foldl sendDuty c

def requestTrayInventory (t : Fin 6) (c : At Clc) : At Clc :=
  { c with bus := c.bus.request .clc (.tray t) .inventory c.own.trays[t].epoch }

/-- R93: a presence gain. -/
def trayGained (t : Fin 6) (c : At Clc) : At Clc :=
  let r := c.own.trays[t]
  if r.state = .absent then
    let c := writeTray t
      { r with state := .identifying, tryNo := some 1, duty := 100, fmax := 200, rmax := 30000
               retryTimer := .stopped } c
    sendDuty (requestTrayInventory t (boostLook (zoneOfTray t) c)) t
  else c

/-- Fmax and Rmax of a good tray answer (R93). -/
def goodTray : LineOutcome → Option (Nat × Nat)
  | .ok data =>
    let f := field data 0 2
    let m := field data 2 2
    if 10 ≤ f ∧ f ≤ 200 ∧ 1000 ≤ m ∧ m ≤ 30000 then some (f, m) else none
  | _ => none

/-- R93: the outcome of a try. -/
def trayTry (t : Fin 6) (tag : Nat) (o : LineOutcome) (c : At Clc) : At Clc :=
  let r := c.own.trays[t]
  match r.tryNo with
  | none => c
  | some n =>
    if tag ≠ r.epoch ∨ r.state ≠ .identifying ∨ r.retryTimer ≠ .stopped then c
    else
      match goodTray o with
      | some (f, m) =>
        enterSpinup t { r with fmax := f, rmax := m, source := .identified }
          { c with bus := c.bus.clearAlarm .fanTrayAbsent t.val }
      | none =>
        if n < 3 then writeTray t { r with tryNo := some (n + 1), retryTimer := .running 100 } c
        else enterSpinup t { r with source := .default } { c with bus := c.bus.raise .fanTrayAbsent t.val }

/-- R93: the next try, 100 ms after the failure. -/
def trayRetry (t : Fin 6) (c : At Clc) : At Clc :=
  let r := c.own.trays[t]
  match r.retryTimer with
  | .running _ => requestTrayInventory t (writeTray t { r with retryTimer := .stopped } c)
  | _ => c

/-! ### Sensors (R84, R85) -/

/-- A good reading (R84). -/
def goodReading : LineOutcome → Option Int
  | .ok data =>
    let t := signed16 (field data 0 2)
    if -40 ≤ t ∧ t ≤ 150 then some t else none
  | _ => none

/-- R84: the state table. -/
def sensorStep (o : LineOutcome) (r : SensorRec) : SensorRec :=
  match goodReading o, r.state with
  | _, .absent => r
  | some t, _ => { r with state := .ok, value := t }
  | none, .ok => { r with state := .held1 }
  | none, .held1 => { r with state := .held2 }
  | none, .held2 | none, .failed => { r with state := .failed }

/-- The alarm of a passage into or out of FAILED. -/
def sensorAlarm (n : Fin 8) (old new : SensorState) (b : Bus) : Bus :=
  if old ≠ .failed ∧ new = .failed then b.raise .sensorFailed n.val
  else if old = .failed ∧ new ≠ .failed then b.clearAlarm .sensorFailed n.val
  else b

/-- R84: the outcome of a read. -/
def sensorAnswered (n : Fin 8) (o : LineOutcome) (c : At Clc) : At Clc :=
  let r := c.own.sensors[n]
  if 0 < r.staleReads then writeSensor n { r with staleReads := r.staleReads - 1 } c
  else
    let r' := sensorStep o { r with readOutstanding := false }
    let c := writeSensor n r' c
    { c with bus := sensorAlarm n r.state r'.state c.bus }

/-- R84: stage 7 for one sensor. -/
def requestRead (c : At Clc) (n : Fin 8) : At Clc :=
  let r := c.own.sensors[n]
  if c.own.mask.getLsbD n.val && !r.readOutstanding then
    let c := writeSensor n { r with readOutstanding := true } c
    { c with bus := c.bus.request .clc (.sensor n) .read 0 }
  else c

/-- R85 for one sensor: its mark in the old and the new mask. -/
def remark (old new : Byte) (c : At Clc) (n : Fin 8) : At Clc :=
  let r := c.own.sensors[n]
  if old.getLsbD n.val && !new.getLsbD n.val then
    let c := writeSensor n
      { r with
        state := .absent, readOutstanding := false
        staleReads := if r.readOutstanding then r.staleReads + 1 else r.staleReads } c
    { c with bus := sensorAlarm n r.state .absent c.bus }
  else if !old.getLsbD n.val && new.getLsbD n.val then writeSensor n { r with state := .ok, value := 25 } c
  else c

/-! ### Zone temperature and duty (R87, R88, R90) -/

/-- A sensor counts in Tz (R87). -/
def counted (r : SensorRec) : Bool := r.state == .ok || r.state == .held1 || r.state == .held2

/-- R87. -/
def zoneTemperature (b : Clc) (z : Fin 3) : Option Int :=
  (sensorsOf z).foldl (fun t n =>
    if counted b.sensors[n] then
      match t with
      | none => some b.sensors[n].value
      | some x => some (max x b.sensors[n].value)
    else t) none

/-- Stage 2 for one zone. -/
def setTz (c : At Clc) (z : Fin 3) : At Clc :=
  writeZone z { c.own.zones[z] with tz := zoneTemperature c.own z } c

/-- R88: the ramp of the target between Tlow and Thigh. -/
def rampDuty (p : ZoneProfile) (t : Int) : Nat :=
  if t ≤ p.tlow then p.dmin
  else if p.thigh ≤ t then p.dmax
  else p.dmin + ceilDiv ((t - p.tlow).toNat * (p.dmax - p.dmin)) (p.thigh - p.tlow).toNat

/-- R88: the target d. -/
def targetDuty (b : Clc) (z : Fin 3) : Nat :=
  let p := b.profile[z]
  let failed := (sensorsOf z).any (fun n => b.sensors[n].state == .failed)
  let present := (sensorsOf z).any (fun n => b.mask.getLsbD n.val)
  match b.zones[z].tz with
  | some t => if failed || !present then p.dmax else rampDuty p t
  | none => p.dmax

/-- R88: the rate limit against the previous duty. -/
def limitDuty (d previous : Nat) : Nat := if previous ≤ d then d else max d (previous - 5)

/-- Stage 3 for one zone, given the duty it held before the tick. -/
def setZoneDuty (previous : Vector Nat 3) (c : At Clc) (z : Fin 3) : At Clc :=
  let r := c.own.zones[z]
  writeZone z { r with duty := if r.boosted then 100 else limitDuty (targetDuty c.own z) previous[z] } c

/-- R90: stage 3 for one tray. -/
def setTrayDuty (c : At Clc) (t : Fin 6) : At Clc :=
  let r := c.own.trays[t]
  let z := c.own.zones[(zoneOfTray t)]
  writeTray t { r with duty := if r.state = .running ∧ !z.boosted then z.duty else 100 } c

/-! ### Thermal alarms (R99 to R101) -/

/-- R99 for one zone. -/
def judgeHigh (c : At Clc) (z : Fin 3) : At Clc :=
  let r := c.own.zones[z]
  let warn := c.own.profile[z].twarn
  match r.tz with
  | none => c
  | some t =>
    if !r.high ∧ warn ≤ t then
      let c := writeZone z { r with high := true } c
      { c with bus := c.bus.raise .tempHigh z.val }
    else if r.high ∧ t ≤ warn - 3 then
      let c := writeZone z { r with high := false } c
      { c with bus := c.bus.clearAlarm .tempHigh z.val }
    else c

/-- The slots of a zone: 0–3, 4–7, none. -/
def slotsOfZone (z : Fin 3) : List Slot := (indices 8).filter (fun i => (zoneOfSlot i).val = z.val)

/-- R100, R101: a thermal-off order for each slot of the zone, in ascending order (log entries 58 and 62). -/
def sendOrders (z : Fin 3) (c : At Clc) : At Clc :=
  { c with bus := (slotsOfZone z).foldl (fun b i => b.sendClcSls (.thermalOff i)) c.bus }

/-- R100: the hot flag of Z0 and Z1. -/
def sendHot (z : Fin 3) (hot : Bool) (b : Bus) : Bus :=
  if h : z.val < 2 then b.sendClcSls (.hotFlag ⟨z.val, h⟩ hot) else b

def setThermal (z : Fin 3) (st : ThermalState) (hold : Timer) (c : At Clc) : At Clc :=
  writeZone z { c.own.zones[z] with thermal := st, holdTimer := hold } c

/-- R100: TEMP_CRITICAL is cleared and the zone is CLEAR. -/
def endCritical (z : Fin 3) (c : At Clc) : At Clc :=
  let c := setThermal z .clear .stopped c
  { c with bus := sendHot z false (c.bus.clearAlarm .tempCritical z.val) }

/-- R100 for one zone. -/
def judgeCritical (c : At Clc) (z : Fin 3) : At Clc :=
  let r := c.own.zones[z]
  let crit := c.own.profile[z].tcrit
  match r.tz, r.thermal with
  | none, .tripped => sendOrders z c
  | none, _ => c
  | some t, .clear =>
    if crit ≤ t then
      let c := setThermal z .holding (.running 10000) c
      { c with bus := sendHot z true (c.bus.raise .tempCritical z.val) }
    else c
  | some t, .critical =>
    if crit ≤ t then setThermal z .holding (.running 10000) c
    else if t ≤ crit - 5 then endCritical z c
    else c
  | some t, .holding =>
    if crit ≤ t then c else if t ≤ crit - 5 then endCritical z c else setThermal z .critical .stopped c
  | some t, .tripped =>
    if crit ≤ t then sendOrders z c
    else if t ≤ crit - 5 then endCritical z c
    else setThermal z .critical .stopped c

/-- R101: the hold timer of a zone expires. -/
def holdExpired (z : Fin 3) (c : At Clc) : At Clc :=
  let r := c.own.zones[z]
  match r.thermal, r.holdTimer with
  | .holding, .running _ =>
    let hot := match r.tz with
      | none => true
      | some t => decide (c.own.profile[z].tcrit ≤ t)
    if hot then setThermal z .tripped .stopped (sendOrders z c) else setThermal z .critical .stopped c
  | _, _ => c

/-! ### The control cycle (R86) -/

/-- R86: the seven stages in order. In stage 6 TEMP_HIGH is judged for every zone before TEMP_CRITICAL is for any (log
entry 53); within a stage the trays, rotors, zones and sensors come in ascending order (log entry 58). -/
def controlCycle (c : At Clc) : At Clc :=
  let previous := c.own.zones.map (·.duty)
  let c := (indices 12).foldl closeWindow c
  let c := (indices 3).foldl setTz c
  let c := (indices 6).foldl setTrayDuty ((indices 3).foldl (setZoneDuty previous) c)
  let c := (indices 12).foldl openWindow c
  let c := (indices 6).foldl sendDuty c
  let c := (indices 3).foldl judgeCritical ((indices 3).foldl judgeHigh c)
  (indices 8).foldl requestRead c

/-! ### THERMAL PROFILE (R83) -/

/-- R83, step 1, for one zone: the figures and how many were changed. -/
def clampZone (r : RawZoneProfile) : ZoneProfile × Nat :=
  let t := fun (x : Int) => clampInt x (-40) 150
  let dmin := clampNat r.dmin 20 100
  let dmax := clampNat r.dmax dmin 100
  ({ tlow := t r.tlow, thigh := t r.thigh, twarn := t r.twarn, tcrit := t r.tcrit, dmin := dmin, dmax := dmax },
   [t r.tlow != r.tlow, t r.thigh != r.thigh, t r.twarn != r.twarn, t r.tcrit != r.tcrit
     , dmin != r.dmin, dmax != r.dmax].countP id)

/-- R83, step 2. -/
def orderRight (p : ZoneProfile) : Bool := decide (p.tlow < p.thigh) && decide (p.twarn < p.tcrit)

def presentCount (mask : Byte) : Nat := (indices 8).countP (fun n => mask.getLsbD n.val)

def profileDetails (changed zone : Nat) (mask : Byte) : Details :=
  details changed zone mask.toNat (presentCount mask)

def clcEnd (cls : OutcomeClass) (changed zone : Nat) (c : At Clc) : At Clc :=
  { c with bus := c.bus.endTask .clc cls (profileDetails changed zone c.own.mask) }

/-- R83: a RUNNING tray of a zone takes the raised duty and is reported. -/
def raiseTray (d : Nat) (c : At Clc) (t : Fin 6) : At Clc :=
  if c.own.trays[t].state = .running then sendDuty (writeTray t { c.own.trays[t] with duty := d } c) t else c

/-- R83: a zone duty below the new Dmin is raised to it, and its trays are reported in ascending order (log entry 62). -/
def raiseZone (c : At Clc) (z : Fin 3) : At Clc :=
  let r := c.own.zones[z]
  let dmin := c.own.profile[z].dmin
  if r.duty < dmin then
    let c := writeZone z { r with duty := dmin } c
    if r.boosted then c else (traysOf z).foldl (raiseTray dmin) c
  else c

/-- R83: all 48 bytes have arrived. The zones, and the sensors whose mark changes, come in ascending order (log entry
62). -/
def takeProfile (bytes : List Byte) (c : At Clc) : At Clc :=
  let zs : Vector (ZoneProfile × Nat) 3 := Vector.ofFn (fun z => clampZone (rawZoneProfileOf bytes z))
  let changed := zs[0].2 + zs[1].2 + zs[2].2
  match (indices 3).find? (fun z => !orderRight zs[z].1) with
  | some z => clcEnd (.refused .badProfile) changed z.val c
  | none =>
    let mask := sensorMaskOf bytes
    let old := c.own.mask
    let c := { c with own := { c.own with profile := zs.map (·.1), mask := mask } }
    let c := (indices 3).foldl raiseZone c
    clcEnd .normal changed 3 ((indices 8).foldl (remark old mask) c)

/-- R83: the delivery has stopped. -/
def clcStopped (c : At Clc) : At Clc := clcEnd .stopped 0 3 c

/-! ### The cycle tick (R158, R159) -/

/-- R158, R159: the Time Base's part of a tick. -/
def tbTick (c : At Tb) : At Tb :=
  let n := c.own.hourCount + 1
  let own := { c.own with seconds := c.own.seconds + 1, hourCount := if n = 3600 then 0 else n }
  { own := own, bus := if n = 3600 then { c.bus with hourTicks := c.bus.hourTicks + 1 } else c.bus }

/-! ### The meanings -/

/-- CYCLE_TICK (R158, R159, R86, R44). -/
def execCycleTick (s : State) : Host.Outcome State Fault Refusal :=
  .next (((s.onTb tbTick).onClc controlCycle).onPbu pollModules)

/-- SENSOR_ANSWER (R84). -/
def execSensorAnswer (s : State) : Host.Outcome State Fault Refusal :=
  match s.bus.mlcClc with
  | { req := { dev := .sensor n, .. }, outcome := o } :: rest =>
    .next ((s.withBus { s.bus with mlcClc := rest }).onClc (sensorAnswered n o))
  | _ => .next s

/-- THERMAL_PROFILE (R83): the task is taken and its data read; when all bytes have arrived, they are judged. -/
def execThermalProfile (s : State) : Host.Outcome State Fault Refusal :=
  match s.bus.service .clc with
  | some sv => if sv.complete then .next (s.onClc (takeProfile sv.input)) else .next s
  | none =>
    match s.oldestWord .clc with
    | none => .next s
    | some _ => .next ((s.takeWord .clc).onHost (beginInput .clc))

/-- TACH_EDGE (R95, R97). -/
def execTachEdge (k : Fin 12) (s : State) : Host.Outcome State Fault Refusal := .next (s.onClc (tachEdge k))

/-- STALL_TIMER_EXPIRY (R97): without effect when the timer is not running. -/
def execStallTimerExpiry (k : Fin 12) (s : State) : Host.Outcome State Fault Refusal := .next (s.onClc (stallExpired k))

/-- SPINUP_TIMER_EXPIRY (R94): without effect when the timer is not running. -/
def execSpinupTimerExpiry (t : Fin 6) (s : State) : Host.Outcome State Fault Refusal := .next (s.onClc (spinupExpired t))

/-- HOLD_TIMER_EXPIRY (R101): without effect when the timer is not running. -/
def execHoldTimerExpiry (z : Fin 3) (s : State) : Host.Outcome State Fault Refusal := .next (s.onClc (holdExpired z))

/-- TRAY_PRESENCE_LOST (R92). -/
def execTrayPresenceLost (s : State) : Host.Outcome State Fault Refusal :=
  match s.bus.tbClc with
  | (t, false) :: rest => .next ((s.withBus { s.bus with tbClc := rest }).onClc (trayLost t))
  | _ => .next s

/-- TRAY_PRESENCE_GAINED (R93). -/
def execTrayPresenceGained (s : State) : Host.Outcome State Fault Refusal :=
  match s.bus.tbClc with
  | (t, true) :: rest => .next ((s.withBus { s.bus with tbClc := rest }).onClc (trayGained t))
  | _ => .next s

/-- TRAY_INVENTORY_ANSWER (R93). -/
def execTrayInventoryAnswer (s : State) : Host.Outcome State Fault Refusal :=
  match s.bus.mlcClc with
  | { req := { dev := .tray t, tag := tag, .. }, outcome := o } :: rest =>
    .next ((s.withBus { s.bus with mlcClc := rest }).onClc (trayTry t tag o))
  | _ => .next s

/-- TRAY_RETRY_TIMER (R93): without effect when the timer is stopped. -/
def execTrayRetryTimer (t : Fin 6) (s : State) : Host.Outcome State Fault Refusal := .next (s.onClc (trayRetry t))

end Sys2Proof.Machine
end

