-- ==== Sys2Proof/Machine/Lcu.lean ====
section
/-! DEFINITION. The Licence Unit and the Licence Store: the start-up read, the store write queue, granted counts and
withdrawals, the licence tasks and trial hours (chapter 2, R19 to R33). -/

namespace Sys2Proof.Machine

open Sys2Proof

/-! ### Counts (R25) -/

/-- The seats of the VALID cells of tier k for which q holds. -/
def seatsOf (cells : Vector LicenceCell 32) (q : LicenceCell → Bool) (k : Tier) : Nat :=
  ((cells.toList.filter (fun c => c.state == .valid && q c && licenceTier c.record == some k)).map
    (fun c => licenceSeats c.record)).sum

def countsOf (cells : Vector LicenceCell 32) (q : LicenceCell → Bool) : Counts :=
  { t1 := seatsOf cells q .t1, t2 := seatsOf cells q .t2, t3 := seatsOf cells q .t3 }

/-- G1–G3 (R25). -/
def grantedOf (cells : Vector LicenceCell 32) : Counts := countsOf cells (fun _ => true)

/-- The sent counts (R25). -/
def sentOf (cells : Vector LicenceCell 32) : Counts := countsOf cells (fun c => !c.withdrawing)

/-- The table replaced, with Gk computed again and the licence summary marked. -/
def lcuTable (cells : Vector LicenceCell 32) (c : At Lcu) : At Lcu :=
  { own := { c.own with cells := cells, granted := grantedOf cells }, bus := c.bus.mark .licenceSummary }

def sendGrant (c : At Lcu) : At Lcu := { c with bus := c.bus.sendLcuPtu (.grant (sentOf c.own.cells)) }

def sendWithdrawal (w : Withdrawal) (c : At Lcu) : At Lcu :=
  { own := { c.own with withdrawal := w }, bus := c.bus.sendLcuPtu (.withdrawal (sentOf c.own.cells)) }

/-! ### The store write queue (R24) -/

/-- A request merged into the queue. -/
def storeMerge (e : StoreEntry) (q : List StoreEntry) : List StoreEntry :=
  if q.any (fun x => x.cell = e.cell) then
    q.map (fun x => if x.cell = e.cell then { e with who := if e.who = .task then .task else x.who } else x)
  else q ++ [e]

/-- The oldest entry is handed to the LST when it is not busy. -/
def storeServe (l : Lcu) : Lcu :=
  match l.lst.busy, l.storeQueue with
  | none, e :: rest => { l with storeQueue := rest, lst := { l.lst with busy := some e } }
  | _, _ => l

def storeRequest (e : StoreEntry) (l : Lcu) : Lcu := storeServe { l with storeQueue := storeMerge e l.storeQueue }

/-- The content that an entry stores. The other fields of an erased cell have no meaning (R20): those of the n-th one
are free (log entry 8). -/
def storedContent (n : Nat) : StoreContent → StoreCell
  | .write h r => { occupied := true, hours := h, record := r }
  | .erase =>
    { occupied := false
      hours := leNat [Config.storeErased n 64, Config.storeErased n 65] % 8761
      record := Vector.ofFn (fun k : Fin 64 => Config.storeErased n k.val) }

def mixByte (m old new : Byte) : Byte := (old &&& ~~~m) ||| (new &&& m)

/-- A mixture of old and new content by the mask of the n-th failed write. The remaining hours lie between the old figure
and the new one, so that they stay within 0–8760 and an hour write leaves no fewer than the LCU held (R20, R23; log
entry 8). -/
def mixCell (n : Nat) (old new : StoreCell) : StoreCell :=
  { occupied := if (Config.storeMix n 64).getLsbD 0 then new.occupied else old.occupied
    hours := clampNat (leNat [mixByte (Config.storeMix n 65) (byte old.hours) (byte new.hours)
        , mixByte (Config.storeMix n 66) (byte (old.hours / 256)) (byte (new.hours / 256))])
      (min old.hours new.hours) (max old.hours new.hours)
    record := Vector.ofFn (fun k : Fin 64 => mixByte (Config.storeMix n k.val) old.record[k] new.record[k]) }

/-! ### Details of INSTALL and REMOVE (R26, R28) -/

def installDetails (cell : Nat) (r : LicenceRecord) (l : Lcu) : Details :=
  { w0 := BitVec.ofNat 32 cell
    w1 := BitVec.ofNat 32 l.failedInstalls
    w2 := licenceId r
    w3 := BitVec.ofNat 32 (match licenceTier r with
      | none => 0
      | some k => l.granted.get k) }

def lcuEnd (cls : OutcomeClass) (d : Details) (c : At Lcu) : At Lcu :=
  { own := { c.own with task := .idle }, bus := c.bus.endTask .lcu cls d }

/-! ### LICENCE INSTALL (R26, R27) -/

/-- R26, checks 1 to 7, and whether the failed-install count rises. -/
def installCheck (r : LicenceRecord) (l : Lcu) : Option (Reason × Bool) :=
  if l.freeze then some (.frozen, false)
  else if 5 ≤ l.failedInstalls then some (.lockedOut, false)
  else if !licenceCheckRight r then some (.invalidLicence, true)
  else if licenceBinding r ≠ l.serialCopy then some (.wrongChassis, true)
  else if licenceKind r = some .base ∨ !licenceWellFormed r then some (.badParameter, false)
  else if l.cells.toList.any (fun c =>
      (c.state == .valid || c.state == .lapsed) && licenceId c.record == licenceId r) then some (.duplicate, false)
  else if l.cells.toList.all (fun c => c.state != .empty) then some (.tableFull, false)
  else none

/-- The lowest-numbered EMPTY cell. -/
def lowestEmpty (cells : Vector LicenceCell 32) : Option (Fin 32) :=
  (indices 32).find? (fun i => cells[i].state == .empty)

/-- R26: all 64 bytes have arrived. -/
def lcuInstall (r : LicenceRecord) (c : At Lcu) : At Lcu :=
  match installCheck r c.own with
  | some (why, counted) =>
    let l := if counted then { c.own with failedInstalls := c.own.failedInstalls + 1 } else c.own
    lcuEnd (.refused why) (installDetails 32 r l) { c with own := l }
  | none =>
    match lowestEmpty c.own.cells with
    | none => c
    | some i =>
      let e : StoreEntry := { cell := i, content := .write (licenceHours r) r, who := .task }
      { c with own := storeRequest e { c.own with task := .installing i r } }

/-- R27. -/
def installWritten (good : Bool) (i : Fin 32) (r : LicenceRecord) (c : At Lcu) : At Lcu :=
  if good then
    let cell : LicenceCell := { state := .valid, hours := licenceHours r, record := r, withdrawing := false }
    let c := sendGrant (lcuTable (setAt c.own.cells i cell) c)
    lcuEnd .normal (installDetails i.val r c.own) c
  else lcuEnd (.refused .storeFailed) (installDetails i.val r c.own) c

/-! ### Lapses and withdrawals (R25, R31, R32) -/

/-- A VALID TRIAL with no hours left and no withdrawal: its lapse is due. -/
def lapseDue (c : LicenceCell) : Bool :=
  c.state == .valid && licenceKind c.record == some .trial && c.hours == 0 && !c.withdrawing

/-- The lapses due are sent as one withdrawal when none is outstanding (R25, R31). -/
def sendLapses (c : At Lcu) : At Lcu :=
  if c.own.withdrawal = .idle ∧ c.own.cells.toList.any lapseDue then
    sendWithdrawal .lapse
      { c with own := { c.own with
          cells := c.own.cells.map (fun x => if lapseDue x then { x with withdrawing := true } else x) } }
  else c

/-- R31 for one cell. -/
def hourCell (l : Lcu) (i : Fin 32) : Lcu :=
  let x := l.cells[i]
  if x.state = .valid ∧ licenceKind x.record = some .trial ∧ 1 ≤ x.hours ∧ !x.withdrawing then
    let h := x.hours - 1
    storeRequest { cell := i, content := .write h x.record, who := .hourBookkeeping }
      { l with cells := setAt l.cells i { x with hours := h } }
  else l

/-- R31. -/
def lcuHour (c : At Lcu) : At Lcu := sendLapses { c with own := (indices 32).foldl hourCell c.own }

/-! ### LICENCE REMOVE (R28) -/

/-- The cell that a record id names: a VALID or LAPSED one first, then the lowest DAMAGED one. -/
def removeMatch (id : Word) (cells : Vector LicenceCell 32) : Option (Fin 32) :=
  let named := fun (i : Fin 32) => licenceId cells[i].record == id
  match (indices 32).find? (fun i => (cells[i].state == .valid || cells[i].state == .lapsed) && named i) with
  | some i => some i
  | none => (indices 32).find? (fun i => cells[i].state == .damaged && named i)

/-- A cell becomes EMPTY. -/
def emptyCell (i : Fin 32) (c : At Lcu) : At Lcu := lcuTable (setAt c.own.cells i licenceCellPowerOn) c

def queueErase (i : Fin 32) (was : CellState) (seats : Nat) (c : At Lcu) : At Lcu :=
  { c with own := storeRequest { cell := i, content := .erase, who := .task } { c.own with task := .erasing i was seats } }

/-- R28: the checks, once no withdrawal is outstanding. Detail word 0 of FROZEN has no value in the book
(log entry 7). -/
def lcuRemove (id : Word) (c : At Lcu) : At Lcu :=
  if c.own.freeze then
    let (v, b) := c.bus.freeWord
    lcuEnd (.refused .frozen) { Details.zero with w0 := v } { c with bus := b }
  else
    match removeMatch id c.own.cells with
    | none => lcuEnd (.refused .notFound) (details 32 0 0 0) c
    | some i =>
      let x := c.own.cells[i]
      if x.state ≠ .damaged ∧ licenceKind x.record = some .base then
        lcuEnd (.refused .protectedCell) (details i.val (cellStateCode x.state) 0 0) c
      else if x.state = .valid then
        let cells := setAt c.own.cells i { x with withdrawing := true }
        sendWithdrawal (.removal i) { c with own := { c.own with cells := cells, task := .removeWithdrawing i } }
      else
        let c := if x.state = .lapsed then { c with bus := c.bus.clearAlarm .licenceLapsed i.val } else c
        queueErase i x.state 0 (emptyCell i c)

/-- A waiting LICENCE REMOVE makes its checks when no withdrawal is outstanding (R28). -/
def resumeRemove (c : At Lcu) : At Lcu :=
  match c.own.task with
  | .removeWaiting id => if c.own.withdrawal = .idle then lcuRemove id c else c
  | _ => c

/-- R32: a withdrawn cell lapses. -/
def lapseCell (c : At Lcu) (i : Fin 32) : At Lcu :=
  let x := c.own.cells[i]
  if x.withdrawing then
    { own := { c.own with cells := setAt c.own.cells i { x with state := .lapsed, withdrawing := false } }
      bus := c.bus.raise .licenceLapsed i.val }
  else c

/-- R25, R28, R32: the answer to the withdrawal outstanding is applied; the cells that lapse are reported in ascending order
(log entry 62). -/
def applyAnswer (c : At Lcu) : At Lcu :=
  match c.own.withdrawal with
  | .idle => c
  | .lapse =>
    let c := (indices 32).foldl lapseCell c
    lcuTable c.own.cells { c with own := { c.own with withdrawal := .idle } }
  | .removal i =>
    let seats := licenceSeats c.own.cells[i].record
    queueErase i .valid seats (emptyCell i { c with own := { c.own with withdrawal := .idle } })

/-- R25: answer, then the held lapses, then a waiting remove. -/
def lcuAnswer (c : At Lcu) : At Lcu := resumeRemove (sendLapses (applyAnswer c))

/-! ### The outcome of a store write (R24, R27, R28) -/

/-- The requester is told. -/
def storeTold (good : Bool) (e : StoreEntry) (c : At Lcu) : At Lcu :=
  match e.who, c.own.task with
  | .task, .installing i r => if e.cell = i then installWritten good i r c else c
  | .task, .erasing i was seats =>
    if e.cell = i then lcuEnd .normal (details i.val (cellStateCode was) seats (if good then 0 else 1)) c else c
  | _, _ => c

/-- The LST reports the outcome of the write or erase in progress. -/
def lcuStoreDone (good : Bool) (c : At Lcu) : At Lcu :=
  match c.own.lst.busy with
  | none => c
  | some e =>
    let old := c.own.lst.cells[e.cell]
    let n := c.bus.freeUsed
    let new := storedContent n e.content
    let held := if good then new else mixCell n old new
    let b := if good then c.bus.clearAlarm .licenceStoreDamaged e.cell.val
      else c.bus.raise .licenceStoreDamaged e.cell.val
    let b := { b with freeUsed := n + 1 }
    let lst := { c.own.lst with cells := setAt c.own.lst.cells e.cell held, busy := none }
    let c := storeTold good e { own := { c.own with lst := lst }, bus := b }
    { c with own := storeServe c.own }

/-! ### The start-up read (R23) -/

/-- The cell record made of a store cell, given the record ids taken from lower cells. A DAMAGED cell keeps the hours as
read (log entry 48). -/
def judgeStored (taken : List Word) (x : StoreCell) : LicenceCell :=
  if !x.occupied then licenceCellPowerOn
  else if !licenceCheckRight x.record || !licenceWellFormed x.record || taken.contains (licenceId x.record) then
    { state := .damaged, hours := x.hours, record := x.record, withdrawing := false }
  else if licenceKind x.record = some .trial then
    let h := min x.hours (licenceHours x.record)
    { state := if h = 0 then .lapsed else .valid, hours := h, record := x.record, withdrawing := false }
  else { state := .valid, hours := 0, record := x.record, withdrawing := false }

/-- The ids of the records of the table. -/
def tableIds (cells : Vector LicenceCell 32) : List Word :=
  (cells.toList.filter (fun c => c.state == .valid || c.state == .lapsed)).map (fun c => licenceId c.record)

/-- R23: cell i has been read. -/
def lcuCellRead (i : Fin 32) (c : At Lcu) : At Lcu :=
  let x := judgeStored (tableIds c.own.cells) c.own.lst.cells[i]
  let b := match x.state with
    | .damaged => c.bus.raise .licenceStoreDamaged i.val
    | .lapsed => c.bus.raise .licenceLapsed i.val
    | _ => c.bus
  let c : At Lcu :=
    { own := { c.own with cells := setAt c.own.cells i x, startRead := c.own.startRead + 1 }, bus := b }
  if i.val = 31 then
    let c := sendGrant { c with own := { c.own with granted := grantedOf c.own.cells } }
    { c with bus := { c.bus with toHli := c.bus.toHli ++ [.lcu] } }
  else c

/-! ### LICENCE FREEZE and LICENCE REPORT (R29, R30) -/

/-- R29. -/
def lcuFreeze (c : At Lcu) : At Lcu :=
  lcuEnd .normal (details (if c.own.freeze then 1 else 0) 0 0 0) { c with own := { c.own with freeze := true } }

/-- The run of entries of a report (R30). -/
def reportBytes (cells : Vector LicenceCell 32) : List Byte :=
  ((indices 32).map (fun i => if cells[i].state = .empty then [] else licenceEntryBytes i cells[i])).flatten

def nonEmptyCells (cells : Vector LicenceCell 32) : Nat := cells.toList.countP (fun c => c.state != .empty)

/-- R30: the report ends, `moved` bytes of it written or passed over (log entry 49). -/
def lcuReportEnd (cls : OutcomeClass) (moved : Nat) (c : At Lcu) : At Lcu :=
  match c.own.task with
  | .reporting n =>
    lcuEnd cls (details n (moved / 72) c.own.failedInstalls (if c.own.freeze then 1 else 0)) c
  | _ => c

/-- R26: the delivery of an install's bytes has stopped; the book gives its details no value (log entry 7). R30: a
report whose output stopped ends with the same four words (log entry 49). -/
def lcuStopped (moved : Nat) (c : At Lcu) : At Lcu :=
  match c.own.task with
  | .collecting =>
    let (d, b) := c.bus.freeDetails
    lcuEnd .stopped d { c with bus := b }
  | .reporting _ => lcuReportEnd .stopped moved c
  | _ => c

/-- The phase of the task in service set. -/
def lcuPhase (t : LcuTask) (c : At Lcu) : At Lcu := { c with own := { c.own with task := t } }

/-! ### The meanings -/

/-- LICENCE_CELL_READ_DONE (R23): without effect once cell 31 has been read. -/
def execLicenceCellReadDone (s : State) : Host.Outcome State Fault Refusal :=
  if h : s.lcu.startRead < 32 then .next (s.onLcu (lcuCellRead ⟨s.lcu.startRead, h⟩)) else .next s

/-- LICENCE_INSTALL (R26): the task is taken and its data read; when all bytes have arrived, they are judged. -/
def execLicenceInstall (s : State) : Host.Outcome State Fault Refusal :=
  match s.bus.service .lcu with
  | some sv =>
    if s.lcu.task = .collecting ∧ sv.complete then .next (s.onLcu (lcuInstall (licenceOf sv.input))) else .next s
  | none =>
    match s.oldestWord .lcu with
    | none => .next s
    | some w =>
      if w.is .licenceInstall then
        .next (((s.takeWord .lcu).onLcu (lcuPhase .collecting)).onHost (beginInput .lcu))
      else .next s

/-- LICENCE_REMOVE (R28). -/
def execLicenceRemove (s : State) : Host.Outcome State Fault Refusal :=
  match s.oldestWord .lcu with
  | none => .next s
  | some w =>
    if w.is .licenceRemove then
      .next ((s.takeWord .lcu).onLcu (fun c => resumeRemove (lcuPhase (.removeWaiting w.param) c)))
    else .next s

/-- LICENCE_FREEZE (R29). -/
def execLicenceFreeze (s : State) : Host.Outcome State Fault Refusal :=
  match s.oldestWord .lcu with
  | none => .next s
  | some w => if w.is .licenceFreeze then .next ((s.takeWord .lcu).onLcu lcuFreeze) else .next s

/-- LICENCE_REPORT (R30). -/
def execLicenceReport (s : State) : Host.Outcome State Fault Refusal :=
  match s.oldestWord .lcu with
  | none => .next s
  | some w =>
    if w.is .licenceReport then
      let out := reportBytes s.lcu.cells
      let s := (s.takeWord .lcu).onLcu (lcuPhase (.reporting (nonEmptyCells s.lcu.cells)))
      let s := s.onHost (beginOutput .lcu out)
      if nothingToWrite w out then .next (s.onLcu (lcuReportEnd .normal 0)) else .next s
    else .next s

/-- STORE_WRITE_DONE (R24). -/
def execStoreWriteDone (good : Bool) (s : State) : Host.Outcome State Fault Refusal :=
  .next (s.onLcu (lcuStoreDone good))

/-- HOUR_TICK (R31). -/
def execHourTick (s : State) : Host.Outcome State Fault Refusal :=
  match s.bus.hourTicks with
  | 0 => .next s
  | n + 1 => .next ((s.withBus { s.bus with hourTicks := n }).onLcu lcuHour)

/-- WITHDRAWAL_ANSWER (R25, R28, R32). -/
def execWithdrawalAnswer (s : State) : Host.Outcome State Fault Refusal :=
  match s.bus.ptuLcu with
  | 0 => .next s
  | n + 1 => .next ((s.withBus { s.bus with ptuLcu := n }).onLcu lcuAnswer)

end Sys2Proof.Machine
end

