-- ==== Sys2Proof/Machine/Mlc.lean ====
section
/-! DEFINITION. The Module Line Controller: the transaction queue, request and answer frames, recovery (9.1, 9.2). -/

namespace Sys2Proof.Machine

open Sys2Proof

/-- R155: an outcome delivered to one requester. -/
def deliver (o : LineOutcome) (b : Bus) (r : MlcRequest) : Bus :=
  let a : MlcAnswer := { req := r, outcome := o }
  match r.who with
  | .pbu => { b with mlcPbu := b.mlcPbu ++ [a] }
  | .sls => { b with mlcSls := b.mlcSls ++ [a] }
  | .clc => { b with mlcClc := b.mlcClc ++ [a] }

def sameEntry (r : MlcRequest) (e : MlcEntry) : Bool := e.dev == r.dev && e.cmd == r.cmd

/-- R155: a request. -/
def takeRequest (r : MlcRequest) (c : At Mlc) : At Mlc :=
  if c.own.queue.any (sameEntry r) then
    { c with own := { c.own with
      queue := c.own.queue.map (fun e => if sameEntry r e then { e with requests := e.requests ++ [r] } else e) } }
  else if c.own.queue.length < 24 then
    { c with own := { c.own with queue := c.own.queue ++ [{ dev := r.dev, cmd := r.cmd, requests := [r] }] } }
  else { c with bus := deliver .noAnswer c.bus r }

/-- R152: a transaction begins when the line is IDLE and the queue is not empty. -/
def beginTransaction (c : At Mlc) : At Mlc :=
  match c.own.line, c.own.queue with
  | .idle, e :: rest =>
    { c with own := { c.own with
      line := .sending, current := some e, queue := rest, sent := requestFrame e.dev e.cmd, received := [] } }
  | _, _ => c

/-- R152: the last byte of the request has been sent. -/
def requestOut (c : At Mlc) : At Mlc :=
  if c.own.line = .sending then
    { c with own := { c.own with line := .awaiting, answerTimer := .running 5, received := [] } }
  else c

/-- R153, R155: the outcome is judged and delivered; after BAD_CHECK the line recovers. -/
def endTransaction (e : MlcEntry) (o : LineOutcome) (c : At Mlc) : At Mlc :=
  { own := { c.own with
      line := if o = .badCheck then .recovery else .idle
      current := none, received := [], answerTimer := .stopped, idleBits := 0 }
    bus := e.requests.foldl (deliver o) c.bus }

/-- R153, R154: bytes arrive on the line. -/
def answerBytes (bytes : List Byte) (c : At Mlc) : At Mlc :=
  match c.own.line, c.own.current with
  | .awaiting, some e =>
    let got := c.own.received ++ bytes
    let n := 3 + answerLength e.dev e.cmd
    if n ≤ got.length then endTransaction e (judgeAnswer e.dev e.cmd (got.take n)) c
    else { c with own := { c.own with received := got } }
  | .recovery, _ => { c with own := { c.own with idleBits := 0 } }
  | _, _ => c

/-- R153: the answer timer expires. -/
def answerExpired (c : At Mlc) : At Mlc :=
  match c.own.line, c.own.current, c.own.answerTimer with
  | .awaiting, some e, .running _ => endTransaction e (if c.own.received.isEmpty then .noAnswer else .badCheck) c
  | _, _, _ => c

/-- R154: a start bit seen in RECOVERY restarts the count. -/
def lineActive (c : At Mlc) : At Mlc :=
  if c.own.line = .recovery then { c with own := { c.own with idleBits := 0 } } else c

/-- R154: the line has been idle for n more bit times. -/
def lineQuiet (n : Nat) (c : At Mlc) : At Mlc :=
  if c.own.line = .recovery then
    if 10 ≤ c.own.idleBits + n then { c with own := { c.own with line := .idle, idleBits := 0 } }
    else { c with own := { c.own with idleBits := c.own.idleBits + n } }
  else c

/-! ### The meanings -/

/-- MLC_REQUEST (R155): the oldest request of the named block. -/
def execMlcRequest (who : MlcUser) (s : State) : Host.Outcome State Fault Refusal :=
  match takeFirst (fun r => r.who == who) s.bus.toMlc with
  | none => .next s
  | some (r, rest) => .next ((s.withBus { s.bus with toMlc := rest }).onMlc (takeRequest r))

/-- TRANSACTION_BEGIN (R152). -/
def execTransactionBegin (s : State) : Host.Outcome State Fault Refusal := .next (s.onMlc beginTransaction)

/-- REQUEST_SENT (R152). -/
def execRequestSent (s : State) : Host.Outcome State Fault Refusal := .next (s.onMlc requestOut)

/-- ANSWER_FRAME (R153): bytes of an answer; a whole frame is judged when its last byte is there. -/
def execAnswerFrame (bytes : List Byte) (s : State) : Host.Outcome State Fault Refusal :=
  .next (s.onMlc (answerBytes bytes))

/-- ANSWER_TIMER_EXPIRY (R153): without effect when the timer is stopped. -/
def execAnswerTimerExpiry (s : State) : Host.Outcome State Fault Refusal := .next (s.onMlc answerExpired)

/-- LINE_ACTIVITY (R154). -/
def execLineActivity (s : State) : Host.Outcome State Fault Refusal := .next (s.onMlc lineActive)

/-- RECOVERY_IDLE (R154). -/
def execRecoveryIdle (n : Nat) (s : State) : Host.Outcome State Fault Refusal := .next (s.onMlc (lineQuiet n))

end Sys2Proof.Machine
end

