-- ==== Sys2Proof/Machine/Znu.lean ====
section
/-! DEFINITION. The Zoning Unit: zone sets and generations, ZONE STAGE, ZONE DROP, ZONE COMMIT, ZONE READ, and the find
tasks (chapter 6). -/

namespace Sys2Proof.Machine

open Sys2Proof

/-! ### Zone sets (R102, R103, R120) -/

/-- Two sets are equal when access and zones are; generations are not compared. -/
def sameSet (a b : ZoneSet) : Bool := a.access == b.access && a.zones == b.zones

/-- A change of the ZNU's state with the mark of R120: either generation, either number of zones, or the phase. -/
def znuWrite (z : Znu) (c : At Znu) : At Znu :=
  let o := c.own
  let shown := z.active.gen != o.active.gen || z.staged.gen != o.staged.gen
    || z.active.zones.length != o.active.zones.length || z.staged.zones.length != o.staged.zones.length
    || z.phase != o.phase
  { own := z, bus := c.bus.markIf shown .zoningSummary }

def znuPhase (t : ZnuTask) (c : At Znu) : At Znu := { c with own := { c.own with task := t } }

/-- The task in service ends, with `taken` input bytes taken if it ends before its data is used up (R173). -/
def znuEndAfter (taken : Option Nat) (cls : OutcomeClass) (d : Details) (c : At Znu) : At Znu :=
  { own := { c.own with task := .idle }, bus := c.bus.endTaskAfter .znu taken cls d }

/-- The task in service ends. -/
def znuEnd (cls : OutcomeClass) (d : Details) (c : At Znu) : At Znu := znuEndAfter none cls d c

/-- Word 0 the staged generation, then three figures. -/
def stagedDetails (x : ZoneSet) (a b d : Nat) : Details :=
  { w0 := x.gen, w1 := BitVec.ofNat 32 a, w2 := BitVec.ofNat 32 b, w3 := BitVec.ofNat 32 d }

/-- A zone placed by ascending id; a zone of the same id is replaced. -/
def placeZone (z : Zone) : List Zone → List Zone
  | [] => [z]
  | y :: ys => if z.id < y.id then z :: y :: ys else if z.id = y.id then z :: ys else y :: placeZone z ys

def findZone (id : Nat) (zones : List Zone) : Option Zone := zones.find? (fun z => z.id = id)

/-! ### ZONE STAGE (R106 to R108) -/

/-- R106: the start mode; none for a code that names none. -/
def applyStart (code : Nat) (active staged : ZoneSet) : Option ZoneSet :=
  match code with
  | 0 => some staged
  | 1 => some { staged with zones := [] }
  | 2 => some { staged with zones := active.zones, access := active.access }
  | _ => none

/-- R106: the default-access change. -/
def applyAccess (code : Nat) (x : ZoneSet) : Option ZoneSet :=
  match code with
  | 0 => some x
  | 1 => some { x with access := .all }
  | 2 => some { x with access := .none }
  | _ => none

/-- R103, R108: the end of a ZONE STAGE: the staged generation rises if the set has changed since the task was taken. -/
def stageEnd (taken : Option Nat) (cls : OutcomeClass) (before : ZoneSet) (applied : Nat) (c : At Znu) : At Znu :=
  let x := c.own.staged
  let x := if sameSet before x then x else { x with gen := x.gen + 1 }
  znuEndAfter taken cls (stagedDetails x applied x.zones.length (membershipTotal x.zones))
    (znuWrite { c.own with staged := x } c)

/-- What the judgement of the next record leads to (R107). `seen`: the bytes of a refused record that the ZNU had taken
when it refused it (log entry 50). -/
inductive StageJudgement where
  | wait
  | refused (r : Reason) (seen : Nat)
  | zone (z : Zone) (length : Nat)
  deriving DecidableEq, Repr

/-- R107: the limits of the set. -/
def limitCheck (z : Zone) (zones : List Zone) : Bool :=
  let m := membershipTotal zones
  match findZone z.id zones with
  | some old => decide (m - old.members.length + z.members.length ≤ 2048)
  | none => decide (zones.length < 64) && decide (m + z.members.length ≤ 2048)

/-- R107: the record that starts at byte `used` of the data, with the bytes that have arrived. A record whose header
already shows it malformed is judged when the header is there; one with fewer than 20 bytes left, when the data is
there. -/
def judgeRecord (count used : Nat) (input : List Byte) (zones : List Zone) : StageJudgement :=
  let here := input.drop used
  let left := count - used
  if left < 20 then (if left ≤ here.length then .refused .malformedZone left else .wait)
  else if here.length < 20 then .wait
  else
    let id := field here 0 2
    let n := field here 2 2
    let len := zoneRecordLength n
    if n = 0 ∨ 256 < n ∨ left < len then .refused .malformedZone 20
    else if here.length < len then .wait
    else
      match ascendingPorts none ((pairsLe (here.drop 20)).take n) with
      | none => .refused .malformedZone len
      | some ports =>
        if 1023 < id then .refused .malformedZone len
        else
          let z : Zone :=
            { id := id, label := Vector.ofFn (fun k : Fin 16 => here.getD (4 + k.val) 0), members := ports }
          if limitCheck z zones then .zone z len else .refused .zoneSetFull len

/-- R107: one record. -/
def stageRecord (c : At Znu) : At Znu :=
  match c.own.task, c.bus.service .znu with
  | .staging before applied used, some sv =>
    match judgeRecord sv.word.count.toNat used sv.input c.own.staged.zones with
    | .wait => c
    | .refused r seen => stageEnd (some (used + seen)) (.refused r) before applied c
    | .zone z len =>
      let x := { c.own.staged with zones := placeZone z c.own.staged.zones }
      let c := znuWrite { c.own with staged := x, task := .staging before (applied + 1) (used + len) } c
      if used + len = sv.word.count.toNat then stageEnd none .normal before (applied + 1) c else c
  | _, _ => c

/-- R106: a ZONE STAGE is taken. -/
def stageTaken (w : TaskWord) (c : At Znu) : At Znu :=
  let before := c.own.staged
  match (applyStart (w.bits 0 8) c.own.active before).bind (applyAccess (w.bits 8 8)) with
  | none =>
    znuEnd (.refused .badParameter)
      (stagedDetails before 0 before.zones.length (membershipTotal before.zones)) c
  | some x =>
    let c := znuWrite { c.own with staged := x, task := .staging before 0 0 } c
    if w.count.toNat = 0 then stageEnd none .normal before 0 c else c

/-! ### ZONE DROP (R109) -/

def dropDetails (x : ZoneSet) (removed : Nat) : Details :=
  stagedDetails x x.zones.length (membershipTotal x.zones) removed

/-- R109. -/
def zoneDropped (w : TaskWord) (c : At Znu) : At Znu :=
  let x := c.own.staged
  let id := w.bits 0 16
  if 1023 < id then znuEnd (.refused .badParameter) (dropDetails x 0) c
  else
    match findZone id x.zones with
    | none => znuEnd (.refused .notFound) (dropDetails x 0) c
    | some z =>
      let y := { x with zones := x.zones.filter (fun q => q.id ≠ id), gen := x.gen + 1 }
      znuEnd .normal (dropDetails y z.members.length) (znuWrite { c.own with staged := y } c)

/-! ### ZONE COMMIT (R110 to R115) -/

/-- The number of zones that hold a port. -/
def zonesHolding (p : Port) (zones : List Zone) : Nat := zones.countP (fun z => z.members.contains p)

/-- The number of distinct ports of a set (R110). -/
def distinctPorts (zones : List Zone) : Nat := (indices 256).countP (fun p => decide (1 ≤ zonesHolding p zones))

/-- The lowest port that belongs to more than 16 zones (R110). -/
def overzoned (zones : List Zone) : Option Port := (indices 256).find? (fun p => decide (16 < zonesHolding p zones))

/-- R115: word 0, the staged set's size, and word 3. -/
def commitDetails (x : ZoneSet) (last : Nat) : Details :=
  stagedDetails x x.zones.length (membershipTotal x.zones) last

def refuseCommit (r : Reason) (last : Nat) (c : At Znu) : At Znu :=
  znuEnd (.refused r) (commitDetails c.own.staged last) c

/-- R110, judgements 2 and 3, then f. -/
def judgeCommit (w : TaskWord) (f : At Znu → At Znu) (c : At Znu) : At Znu :=
  if w.param ≠ c.own.staged.gen then refuseCommit .stagedChanged 0 c
  else
    match overzoned c.own.staged.zones with
    | some p => refuseCommit .portOverzoned p.val c
    | none => f c

/-- R110: VERIFY, and a mode that names neither. -/
def commitVerify (w : TaskWord) (c : At Znu) : At Znu :=
  if w.commitMode = 1 then
    judgeCommit w (fun c => znuEnd .normal (commitDetails c.own.staged (distinctPorts c.own.staged.zones)) c) c
  else refuseCommit .badParameter 0 c

/-- R110, R111: APPLY, with the state of the link. -/
def commitApply (linkUp : Bool) (w : TaskWord) (c : At Znu) : At Znu :=
  judgeCommit w (fun c =>
    if linkUp then
      let c := znuWrite { c.own with phase := .building, task := .applying, abandonSent := false } c
      { c with bus := c.bus.sendZnuMxw .build }
    else refuseCommit .fabricDown 0 c) c

/-- R112: the zone count of a port goes to the PTU when it has changed. -/
def sendCount (old new : List Zone) (b : Bus) (p : Port) : Bus :=
  if zonesHolding p old = zonesHolding p new then b else b.sendZnuPtu p (zonesHolding p new)

/-- R112. -/
def commitDone (c : At Znu) : At Znu :=
  let old := c.own.active.zones
  let x := c.own.staged
  let c := znuWrite { c.own with active := x, phase := .idle, abandonSent := false } c
  let b := ((indices 256).foldl (sendCount old x.zones) c.bus).mark .zoningSummary
  znuEnd .normal (commitDetails x (distinctPorts x.zones)) { c with bus := b.sendZnuMxw .replaced }

/-- R113. -/
def commitFailed (cursor : Nat) (c : At Znu) : At Znu :=
  refuseCommit .fabricFailed cursor (znuWrite { c.own with phase := .idle, abandonSent := false } c)

/-- R114. -/
def commitAbandoned (cursor : Nat) (c : At Znu) : At Znu :=
  znuEnd .abandoned (commitDetails c.own.staged cursor)
    (znuWrite { c.own with phase := .idle, abandonSent := false } c)

/-! ### ZONE READ (R116) -/

/-- The set that a code names: 1 ACTIVE, 2 STAGED. -/
def setNameOf : Nat → Option SetName
  | 1 => some .active
  | 2 => some .staged
  | _ => none

def Znu.set (z : Znu) : SetName → ZoneSet
  | .active => z.active
  | .staged => z.staged

/-- The number of whole zone records within n bytes. -/
def wholeRecords : Nat → List Zone → Nat
  | _, [] => 0
  | n, z :: zs =>
    let len := zoneRecordLength z.members.length
    if len ≤ n then 1 + wholeRecords (n - len) zs else 0

/-- R116: the details, `moved` bytes of the data written or passed over (log entry 49). -/
def readDetails (x : ZoneSet) (moved : Nat) : Details :=
  stagedDetails x x.zones.length (membershipTotal x.zones) (wholeRecords (moved - 16) x.zones)

/-! ### ZONE FIND LOAD and ZONE FIND (R117 to R119) -/

/-- The entries accepted before the first breach or the end. -/
def acceptedEntries (prev : Option Nat) : List Nat → Nat
  | [] => 0
  | n :: ns =>
    if n < 256 ∧ (match prev with
      | none => true
      | some q => decide (q < n)) = true then 1 + acceptedEntries (some n) ns
    else 0

def loadDetails (buffer : List Port) (accepted : Nat) : Details :=
  details buffer.length accepted ((buffer.head?.map (·.val)).getD 0) ((buffer.getLast?.map (·.val)).getD 0)

/-- R117: the entries that have arrived are judged; a breach ends the task with the refused entry the last one taken
(R173), and so does the last entry. -/
def findLoad (sv : Service) (c : At Znu) : At Znu :=
  let entries := pairsLe sv.input
  let n := acceptedEntries none entries
  if n < entries.length then
    znuEndAfter (some (2 * (n + 1))) (.refused .badParameter) (loadDetails c.own.findBuffer n) c
  else if sv.complete then
    let buffer := (ascendingPorts none entries).getD []
    znuEnd .normal (loadDetails buffer n) { c with own := { c.own with findBuffer := buffer } }
  else c

inductive FindCondition where
  | contains | equals | subset | intersects
  deriving DecidableEq, Repr

def findConditionOf : Nat → Option FindCondition
  | 1 => some .contains
  | 2 => some .equals
  | 3 => some .subset
  | 4 => some .intersects
  | _ => none

/-- R118: whether a zone is a hit. -/
def isHit (f : FindCondition) (probe : List Port) (z : Zone) : Bool :=
  match f with
  | .contains => match probe with
    | [] => false
    | p :: _ => z.members.contains p
  | .equals => z.members == probe
  | .subset => z.members.all (fun p => probe.contains p)
  | .intersects => z.members.any (fun p => probe.contains p)

/-- R118: the zones from the start index on: the number examined, and for each hit its id and the number examined when
it was found. `limit` is the maximum examined (0: no limit), `room` the hits that the output still holds. -/
def search (f : FindCondition) (probe : List Port) (limit : Nat) : List Zone → Nat → Nat → Nat × List (Nat × Nat)
  | [], examined, _ => (examined, [])
  | z :: zs, examined, room =>
    if room = 0 ∨ (limit ≠ 0 ∧ limit ≤ examined) then (examined, [])
    else if isHit f probe z then
      let (n, hits) := search f probe limit zs (examined + 1) (room - 1)
      (n, (z.id, examined + 1) :: hits)
    else search f probe limit zs (examined + 1) room

/-- A ZONE FIND's parameter, once judged. -/
structure FindRequest where
  set : SetName
  cond : FindCondition
  start : Nat
  limit : Nat
  deriving DecidableEq, Repr

/-- R118: none for a parameter out of range. -/
def findRequestOf (w : TaskWord) : Option FindRequest :=
  match setNameOf (w.bits 0 8), findConditionOf (w.bits 8 8) with
  | some s, some f =>
    if 63 < w.bits 16 8 ∨ 64 < w.bits 24 8 then none
    else some { set := s, cond := f, start := w.bits 16 8, limit := w.bits 24 8 }
  | _, _ => none

/-- The search of a ZONE FIND. -/
def runFind (r : FindRequest) (w : TaskWord) (z : Znu) : Nat × List (Nat × Nat) :=
  search r.cond z.findBuffer r.limit ((z.set r.set).zones.drop r.start) 0 (w.count.toNat / 2)

def findOutput (hits : List (Nat × Nat)) : List Byte := (hits.map (fun h => toLe 2 h.1)).flatten

/-- R119. -/
def findDetails (start zones examined hits : Nat) : Details :=
  details examined hits (if examined = 0 then 65535 else start + examined - 1)
    (if zones ≤ start + examined then 1 else 0)

/-! ### The end of an output, and stopped deliveries -/

/-- The output of a ZONE READ or a ZONE FIND is complete or full, `moved` bytes of it written or passed over: each record
and each hit of them counts (log entry 49). -/
def znuOutputEnd (moved : Nat) (c : At Znu) : At Znu :=
  match c.own.task with
  | .reading n => znuEnd .normal (readDetails (c.own.set n) moved) c
  | .finding start zones examined hits => znuEnd .normal (findDetails start zones examined hits.length) c
  | _ => c

/-- R119: the zones examined when the delivery stopped after some hits: at least those up to the last hit delivered, at
most those of the whole search; how many the book leaves open (log entry 9). -/
def examinedSoFar (free examined delivered : Nat) (hits : List Nat) : Nat :=
  let lo := match delivered with
    | 0 => 0
    | k + 1 => hits.getD k examined
  lo + Config.findProgress free % (examined - lo + 1)

/-- Records and entries that have arrived are judged before the delivery counts as stopped (R107, R117). -/
def znuSettle : Nat → At Znu → At Znu
  | 0, c => c
  | fuel + 1, c =>
    match c.own.task, c.bus.service .znu with
    | .staging _ _ _, some _ => znuSettle fuel (stageRecord c)
    | .loading, some sv => findLoad sv c
    | _, _ => c

/-- The delivery of a task's data has stopped (R108, R116, R117, R119). A ZONE READ then ends with the same four words as
one that is complete, and bytes passed over count (log entry 49). -/
def znuStopped (moved : Nat) (c : At Znu) : At Znu :=
  match c.own.task with
  | .staging before applied _ => stageEnd none .stopped before applied c
  | .loading =>
    let n := match c.bus.service .znu with
      | none => 0
      | some sv => acceptedEntries none (pairsLe sv.input)
    znuEnd .stopped (loadDetails c.own.findBuffer n) c
  | .reading n => znuEnd .stopped (readDetails (c.own.set n) moved) c
  | .finding start zones examined hits =>
    let b := { c.bus with freeUsed := c.bus.freeUsed + 1 }
    let n := examinedSoFar c.bus.freeUsed examined (moved / 2) hits
    znuEnd .stopped (findDetails start zones n (moved / 2)) { c with bus := b }
  | .applying | .idle => c

/-! ### The copy of a management reset (R105) -/

/-- R105: the staged set takes access and zones of the active set. -/
def stagedCopy (c : At Znu) : At Znu :=
  let x := c.own.staged
  let y := { x with access := c.own.active.access, zones := c.own.active.zones }
  let y := if sameSet x y then y else { y with gen := y.gen + 1 }
  znuWrite { c.own with staged := y, copyDue := false } c

/-- The oldest word, if the ZNU may take one: no task in service and no copy due (R104, R105). -/
def State.znuWord (s : State) : Option TaskWord := if s.znu.copyDue then none else s.oldestWord .znu

/-! ### The meanings -/

/-- ZONE_STAGE (R106). -/
def execZoneStage (s : State) : Host.Outcome State Fault Refusal :=
  match s.znuWord with
  | none => .next s
  | some w =>
    if w.is .zoneStage then .next (((s.takeWord .znu).onZnu (stageTaken w)).onHost (beginInput .znu)) else .next s

/-- ZONE_STAGE_RECORD (R107): the next record, when its bytes have arrived. -/
def execZoneStageRecord (s : State) : Host.Outcome State Fault Refusal := .next (s.onZnu stageRecord)

/-- ZONE_DROP (R109). -/
def execZoneDrop (s : State) : Host.Outcome State Fault Refusal :=
  match s.znuWord with
  | none => .next s
  | some w => if w.is .zoneDrop then .next ((s.takeWord .znu).onZnu (zoneDropped w)) else .next s

/-- ZONE_COMMIT_VERIFY (R110): a ZONE COMMIT whose mode is not APPLY. -/
def execZoneCommitVerify (s : State) : Host.Outcome State Fault Refusal :=
  match s.znuWord with
  | none => .next s
  | some w =>
    if w.is .zoneCommit ∧ w.commitMode ≠ 2 then .next ((s.takeWord .znu).onZnu (commitVerify w)) else .next s

/-- ZONE_COMMIT_APPLY (R110, R111). -/
def execZoneCommitApply (s : State) : Host.Outcome State Fault Refusal :=
  match s.znuWord with
  | none => .next s
  | some w =>
    if w.is .zoneCommit ∧ w.commitMode = 2 then
      .next ((s.takeWord .znu).onZnu (commitApply s.mxw.linkUp w))
    else .next s

/-- SWITCH_SENT (R111). -/
def execSwitchSent (s : State) : Host.Outcome State Fault Refusal :=
  match s.bus.mxwZnu with
  | .switchSent :: rest =>
    .next ((s.withBus { s.bus with mxwZnu := rest }).onZnu (fun c => znuWrite { c.own with phase := .switching } c))
  | _ => .next s

/-- COMMITTED (R112). -/
def execCommitted (s : State) : Host.Outcome State Fault Refusal :=
  match s.bus.mxwZnu with
  | .committed :: rest => .next ((s.withBus { s.bus with mxwZnu := rest }).onZnu commitDone)
  | _ => .next s

/-- FAILED (R113). -/
def execFailed (s : State) : Host.Outcome State Fault Refusal :=
  match s.bus.mxwZnu with
  | .failed n :: rest => .next ((s.withBus { s.bus with mxwZnu := rest }).onZnu (commitFailed n))
  | _ => .next s

/-- ABANDONED (R114). -/
def execAbandoned (s : State) : Host.Outcome State Fault Refusal :=
  match s.bus.mxwZnu with
  | .abandoned n :: rest => .next ((s.withBus { s.bus with mxwZnu := rest }).onZnu (commitAbandoned n))
  | _ => .next s

/-- STAGED_COPY (R105): a copy that has waited for the task in service. -/
def execStagedCopy (s : State) : Host.Outcome State Fault Refusal :=
  if s.znu.copyDue ∧ s.bus.serviceFree .znu then .next (s.onZnu stagedCopy) else .next s

/-- ZONE_READ (R116); the details of BAD_PARAMETER have no value in the book (log entry 7). -/
def execZoneRead (s : State) : Host.Outcome State Fault Refusal :=
  match s.znuWord with
  | none => .next s
  | some w =>
    if w.is .zoneRead then
      match setNameOf (w.bits 0 8) with
      | none =>
        .next ((s.takeWord .znu).onZnu (fun c =>
          znuEnd (.refused .badParameter) c.bus.freeDetails.1 { c with bus := c.bus.freeDetails.2 }))
      | some n =>
        let out := zoneReadBytes (s.znu.set n)
        let s := ((s.takeWord .znu).onZnu (znuPhase (.reading n))).onHost (beginOutput .znu out)
        if nothingToWrite w out then .next (s.onZnu (znuOutputEnd 0)) else .next s
    else .next s

/-- ZONE_FIND_LOAD (R117): the task is taken and its data read; entries that have arrived are judged. -/
def execZoneFindLoad (s : State) : Host.Outcome State Fault Refusal :=
  match s.bus.service .znu with
  | some sv => if s.znu.task = .loading then .next (s.onZnu (findLoad sv)) else .next s
  | none =>
    match s.znuWord with
    | none => .next s
    | some w =>
      if w.is .zoneFindLoad then
        .next (((s.takeWord .znu).onZnu (znuPhase .loading)).onHost (beginInput .znu))
      else .next s

/-- ZONE_FIND (R118, R119). -/
def execZoneFind (s : State) : Host.Outcome State Fault Refusal :=
  match s.znuWord with
  | none => .next s
  | some w =>
    if w.is .zoneFind then
      match findRequestOf w, s.znu.findBuffer with
      | none, _ | _, [] => .next ((s.takeWord .znu).onZnu (znuEnd (.refused .badParameter) .zero))
      | some r, _ :: _ =>
        let (examined, hits) := runFind r w s.znu
        let task := ZnuTask.finding r.start (s.znu.set r.set).zones.length examined (hits.map (·.2))
        let s := ((s.takeWord .znu).onZnu (znuPhase task)).onHost (beginOutput .znu (findOutput hits))
        if nothingToWrite w (findOutput hits) then .next (s.onZnu (znuOutputEnd 0)) else .next s
    else .next s

end Sys2Proof.Machine
end

