-- ==== Sys2Proof/Machine/Mxw.lean ====
section
/-! DEFINITION. The Matrix Writer: effective rows, the Fabric Table Link, the recompute set, full refreshes, items, builds
and the bank switch (chapter 7). -/

namespace Sys2Proof.Machine

open Sys2Proof

/-! ### Effective rows (R121) -/

/-- The marks of a list of ports. -/
def portMask (ports : List Port) : PortMask := ports.foldl (fun m p => m ||| ((1 : PortMask) <<< p.val)) 0

/-- The ports of all the zones of a list. -/
def zonesMask (zones : List Zone) : PortMask := zones.foldl (fun m z => m ||| portMask z.members) 0

/-- The reach of p under a set: the ports that p may reach when every port is in service (R121). -/
def reach (x : ZoneSet) (p : Port) : PortMask :=
  let mine := x.zones.filter (fun z => z.members.contains p)
  let others := ~~~((1 : PortMask) <<< p.val)
  if mine.isEmpty then
    match x.access with
    | .all => ~~~(zonesMask x.zones) &&& others
    | .none => 0
  else zonesMask mine &&& others

/-- R121: the effective row of p. -/
def effectiveRow (x : ZoneSet) (inService : PortMask) (p : Port) : PortMask :=
  if inService.getLsbD p.val then reach x p &&& inService else 0

/-- R121: row p and the rows of the ports in its reach, in ascending order. -/
def affectedRows (x : ZoneSet) (p : Port) : List Port :=
  (indices 256).filter (fun q => decide (q = p) || (reach x p).getLsbD q.val)

/-- What the MXW reads of the other blocks when it computes a row. -/
structure MatrixView where
  inService : PortMask
  active : ZoneSet
  staged : ZoneSet
  deriving DecidableEq, Repr

def State.matrixView (s : State) : MatrixView :=
  { inService := inServiceMask s.ptu.ports, active := s.znu.active, staged := s.znu.staged }

/-! ### Messages and marks (R124, R135) -/

/-- A mark that the mark before it does not already make. -/
def Bus.markOnce (b : Bus) (r : PageRecord) : Bus := if b.toSpw.getLast? = some r then b else b.mark r

/-- A change of the MXW's state with the mark of R135. -/
def mxwWrite (m : Mxw) (c : At Mxw) : At Mxw :=
  let o := c.own
  let shown := m.linkUp != o.linkUp || m.recompute.length != o.recompute.length || m.cursor != o.cursor
  { own := m, bus := if shown then c.bus.markOnce .zoningSummary else c.bus }

/-- R124: a new message is sent. -/
def sendMsg (msg : FabricMsg) (m : Mxw) : Mxw :=
  { m with outstanding := some { msg := msg, number := m.number, retry := false }, number := m.number + 1
           ackTimer := .running 1 }

def otherBank (b : Fin 2) : Fin 2 := if b = 0 then 1 else 0

def shadowRow (m : Mxw) (b : Fin 2) (p : Port) : Option PortMask := m.shadows[b][p]

def setShadow (b : Fin 2) (p : Port) (x : Option PortMask) (m : Mxw) : Mxw :=
  { m with shadows := updAt m.shadows b (fun v => setAt v p x) }

def shadowsUnknown : Vector (Vector (Option PortMask) 256) 2 := Vector.replicate 2 (Vector.replicate 256 none)

/-! ### Work, row by row (R128 to R133) -/

/-- A row for a bank: none when its shadow already holds it, else its write. -/
def rowMsg (m : Mxw) (bank : Fin 2) (p : Port) (mask : PortMask) : Option FabricMsg :=
  if shadowRow m bank p = some mask then none else some (.rowWrite bank p mask)

/-- The rows of a recompute item (R130). -/
def itemRows (v : MatrixView) (m : Mxw) (x : Port) : List (Bool × Port) :=
  (affectedRows v.active x).map (fun p => (true, p)) ++
    (if m.back = .build then
      ((affectedRows v.staged x).filter (fun p => decide (p.val < m.cursor))).map (fun p => (false, p))
    else [])

/-- One choice at a row boundary. -/
inductive Choice where
  /-- nothing to do -/
  | rest
  /-- the state after a choice that sent nothing; the MXW chooses again -/
  | again (m : Mxw) (answer : Option MxwToZnu)
  /-- the state after a message was sent -/
  | sent (m : Mxw) (answer : Option MxwToZnu)
  deriving DecidableEq, Repr

/-- A computed row: the boundary is reached at once when it needs no write. -/
def chooseRow (m done : Mxw) (bank : Fin 2) (p : Port) (mask : PortMask) : Choice :=
  match rowMsg m bank p mask with
  | none => .again done none
  | some msg => .sent (sendMsg msg m) none

/-- R131, R132: the next build row, or the bank switch. -/
def chooseBuild (v : MatrixView) (m : Mxw) (bank : Fin 2) : Choice :=
  if h : m.cursor < 256 then
    chooseRow m { m with cursor := m.cursor + 1 } (otherBank bank) ⟨m.cursor, h⟩
      (effectiveRow v.staged v.inService ⟨m.cursor, h⟩)
  else .sent (sendMsg (.bankSwitch (otherBank bank)) { m with back := .switching }) (some .switchSent)

/-- R128, steps 2 to 5, with no refresh or item in hand; `waits`: a build request has not been taken yet. -/
def chooseNew (v : MatrixView) (waits : Bool) (m : Mxw) (bank : Fin 2) : Choice :=
  if m.back = .switching ∨ m.back = .handover then .rest
  else if m.fullRefresh then .again { m with fullRefresh := false, recompute := [], fore := .refresh 0 } none
  else
    match m.recompute with
    | x :: xs => .again { m with recompute := xs, fore := .item (itemRows v m x) } none
    | [] =>
      if m.abandon then
        if m.back = .build then .again { m with back := .none, abandon := false } (some (.abandoned m.cursor))
        else if waits then .rest
        else .again { m with abandon := false } none
      else if m.back = .build then chooseBuild v m bank
      else .rest

/-- R128: the choice at a row boundary, with the link UP and no message outstanding. -/
def choose (v : MatrixView) (waits : Bool) (m : Mxw) : Choice :=
  match m.linkUp, m.outstanding, m.activeBank with
  | true, none, some bank =>
    match m.fore with
    | .refresh n =>
      if h : n < 256 then
        chooseRow m { m with fore := .refresh (n + 1) } bank ⟨n, h⟩ (effectiveRow v.active v.inService ⟨n, h⟩)
      else .again { m with fore := .none } none
    | .item [] => .again { m with fore := .none } none
    | .item ((onActive, p) :: rest) =>
      chooseRow m { m with fore := .item rest } (if onActive then bank else otherBank bank) p
        (effectiveRow (if onActive then v.active else v.staged) v.inService p)
    | .none => chooseNew v waits m bank
  | _, _, _ => .rest

def answerZnu (a : Option MxwToZnu) (b : Bus) : Bus :=
  match a with
  | none => b
  | some x => b.sendMxwZnu x

/-- The MXW works on, row after row, until a message is sent or nothing is left to do (log entry 10). -/
def mxwRun (v : MatrixView) : Nat → At Mxw → At Mxw
  | 0, c => c
  | fuel + 1, c =>
    match choose v (c.bus.znuMxw.contains .build) c.own with
    | .rest => c
    | .again m a =>
      let c := mxwWrite m c
      mxwRun v fuel { c with bus := answerZnu a c.bus }
    | .sent m a =>
      let c := mxwWrite m c
      { c with bus := answerZnu a c.bus }

/-- More than the rows of one refresh, 256 items and one build. -/
def mxwFuel : Nat := 140000

def mxwWork (v : MatrixView) (c : At Mxw) : At Mxw := mxwRun v mxwFuel c

/-- The row boundary of the row whose write has been acknowledged (R128, R130, R131). -/
def rowDone (m : Mxw) : Mxw :=
  match m.fore with
  | .refresh n => { m with fore := .refresh (n + 1) }
  | .item rows => { m with fore := .item rows.tail }
  | .none => if m.back = .build then { m with cursor := m.cursor + 1 } else m

/-! ### Acknowledgements, failures and probes (R124 to R126) -/

/-- R126: a probe has been acknowledged with the fabric's active bank. -/
def probeAcknowledged (bank : Fin 2) (c : At Mxw) : At Mxw :=
  let b := if c.own.lost then c.bus.clearAlarm .fabricLinkLost 0 else c.bus
  mxwWrite
    { c.own with
      linkUp := true, lost := false, activeBank := some bank, shadows := shadowsUnknown, fullRefresh := true
      probeTimer := .stopped, probeDue := false } { c with bus := b }

/-- R124: the outstanding message is complete. -/
def messageDone (msg : FabricMsg) (bank : Fin 2) (c : At Mxw) : At Mxw :=
  let m := { c.own with outstanding := none, ackTimer := Timer.stopped }
  match msg with
  | .rowWrite b p mask => mxwWrite (rowDone (setShadow b p (some mask) m)) c
  | .bankSwitch b =>
    let c := mxwWrite { m with activeBank := some b, back := .handover } c
    { c with bus := c.bus.sendMxwZnu .committed }
  | .probe => probeAcknowledged bank { c with own := m }

/-- R124, R179: an acknowledgement frame. The bank byte is read only for a PROBE; one that names no bank is no
acknowledgement of it (log entry 23). -/
def takeAck (frame : List Byte) (c : At Mxw) : At Mxw :=
  match acknowledgementOf frame, c.own.outstanding with
  | some (number, bank), some o =>
    if number = o.number then
      match o.msg, bankOfByte bank with
      | .probe, none => c
      | msg, b => messageDone msg (b.getD 0) c
    else c
  | _, _ => c

def sendProbe (c : At Mxw) : At Mxw :=
  { c with own := { sendMsg .probe c.own with probeTimer := .running 1000, probeDue := false } }

/-- R126: a probe has failed; one that waited for it is sent at once. -/
def probeFailed (c : At Mxw) : At Mxw :=
  let b := if c.own.lost then c.bus else c.bus.raise .fabricLinkLost 0
  let c : At Mxw := { own := { c.own with outstanding := none, ackTimer := .stopped, lost := true }, bus := b }
  if c.own.probeDue then sendProbe c else c

/-- R125: a ROW_WRITE or BANK_SWITCH has failed. An abandon request whose build request still waits was sent after it,
so it is not yet the MXW's to drop, and stays (R133, log entry 46). -/
def linkFailed (msg : FabricMsg) (c : At Mxw) : At Mxw :=
  let m := match msg with
    | .rowWrite b p _ => setShadow b p none c.own
    | .bankSwitch _ => { c.own with activeBank := none }
    | .probe => c.own
  let b := if m.back = .build ∨ m.back = .switching then c.bus.sendMxwZnu (.failed m.cursor) else c.bus
  mxwWrite
    { m with
      linkUp := false, lost := true, outstanding := none, ackTimer := .stopped, fullRefresh := true, recompute := []
      fore := .none, back := .none, abandon := c.own.abandon && c.bus.znuMxw.contains .build
      probeTimer := .running 1000, probeDue := false }
    { c with bus := b.raise .fabricLinkLost 0 }

/-- R124: the acknowledgement timer expires. -/
def ackExpired (c : At Mxw) : At Mxw :=
  match c.own.ackTimer, c.own.outstanding with
  | .running _, some o =>
    if o.retry then
      match o.msg with
      | .probe => probeFailed c
      | msg => linkFailed msg c
    else { c with own := { c.own with outstanding := some { o with retry := true }, ackTimer := .running 1 } }
  | _, _ => c

/-- R126: the probe timer expires. -/
def probeExpired (c : At Mxw) : At Mxw :=
  match c.own.probeTimer with
  | .running _ =>
    if c.own.outstanding.isSome then { c with own := { c.own with probeTimer := .stopped, probeDue := true } }
    else sendProbe c
  | _ => c

/-! ### Requests (R127, R131 to R133) -/

/-- R127. -/
def addPort (p : Port) (c : At Mxw) : At Mxw :=
  if c.own.linkUp ∧ !c.own.recompute.contains p then
    mxwWrite { c.own with recompute := c.own.recompute ++ [p] } c
  else c

/-- R131: a build request. R135 sets the cursor to 0 as it is taken, with the link DOWN too (log entry 47). -/
def buildAsked (c : At Mxw) : At Mxw :=
  if c.own.linkUp then mxwWrite { c.own with cursor := 0, back := .build } c
  else mxwWrite { c.own with cursor := 0, abandon := false } { c with bus := c.bus.sendMxwZnu (.failed 0) }

/-- R132: the ZNU has replaced the active set. -/
def setReplaced (c : At Mxw) : At Mxw :=
  if c.own.back = .handover then { c with own := { c.own with back := .none } } else c

/-- R133: an abandon request; with no build in hand and none on its way it is cleared without an
answer. It waits for a build request that is on its way (log entry 46). -/
def abandonAsked (c : At Mxw) : At Mxw :=
  if c.own.back = .build ∨ c.bus.znuMxw.contains .build then { c with own := { c.own with abandon := true } } else c

/-- R114, R133: the ZNU's abandon request for an APPLY in BUILDING, once. -/
def abandonApply (s : State) : State :=
  if s.znu.phase = .building ∧ !s.znu.abandonSent then
    let s := { s with znu := { s.znu with abandonSent := true } }
    s.onMxw (fun c => mxwWork s.matrixView (abandonAsked c))
  else s

/-! ### The meanings -/

/-- ACKNOWLEDGEMENT (R124, R126, R128 to R133, R179). -/
def execAcknowledgement (frame : List Byte) (s : State) : Host.Outcome State Fault Refusal :=
  .next (s.onMxw (fun c => mxwWork s.matrixView (takeAck frame c)))

/-- ACK_TIMER_EXPIRY (R124, R125): without effect when the timer is stopped. -/
def execAckTimerExpiry (s : State) : Host.Outcome State Fault Refusal := .next (s.onMxw ackExpired)

/-- PROBE_TIMER_EXPIRY (R126): without effect when the timer is stopped. -/
def execProbeTimerExpiry (s : State) : Host.Outcome State Fault Refusal := .next (s.onMxw probeExpired)

/-- RECOMPUTE_ADDITION (R127). -/
def execRecomputeAddition (s : State) : Host.Outcome State Fault Refusal :=
  match s.bus.ptuMxw with
  | [] => .next s
  | p :: rest =>
    .next ((s.withBus { s.bus with ptuMxw := rest }).onMxw (fun c => mxwWork s.matrixView (addPort p c)))

/-- BUILD_REQUEST (R131). -/
def execBuildRequest (s : State) : Host.Outcome State Fault Refusal :=
  match s.bus.znuMxw with
  | .build :: rest =>
    .next ((s.withBus { s.bus with znuMxw := rest }).onMxw (fun c => mxwWork s.matrixView (buildAsked c)))
  | _ => .next s

/-- ACTIVE_SET_REPLACED (R132). -/
def execActiveSetReplaced (s : State) : Host.Outcome State Fault Refusal :=
  match s.bus.znuMxw with
  | .replaced :: rest =>
    .next ((s.withBus { s.bus with znuMxw := rest }).onMxw (fun c => mxwWork s.matrixView (setReplaced c)))
  | _ => .next s

end Sys2Proof.Machine
end

