-- ==== Sys2Proof/Machine/Ptu.lean ====
section
/-! DEFINITION. The Port Table Unit: port records, claims, slot reports, the seat rule, the wait list and reclaim
(chapter 1, and R34 to R39 of chapter 2). -/

namespace Sys2Proof.Machine

open Sys2Proof

/-! ### One change of one port record -/

/-- The held counts when a port's seat passes from `old` to `new` (R34). -/
def countSeat (old new : Option Tier) (h : Counts) : Counts :=
  let h := match old with
    | none => h
    | some k => h.set k (h.get k - 1)
  match new with
  | none => h
  | some k => h.set k (h.get k + 1)

/-- The wait list when a port's state passes from `old` to `new`: a port is on it exactly while UNSEATED, and joins at
the tail (R36). -/
def waitAfter (p : Port) (old new : PortState) (w : List Port) : List Port :=
  if old ≠ .unseated ∧ new = .unseated then w ++ [p]
  else if old = .unseated ∧ new ≠ .unseated then w.filter (fun q => q ≠ p)
  else w

/-- PORTS_UNSEATED is raised when the list passes from empty to one port and cleared when it becomes empty (R36). -/
def unseatedAlarm (before after : List Port) (b : Bus) : Bus :=
  if before = [] ∧ after ≠ [] then b.raise .portsUnseated 0
  else if before ≠ [] ∧ after = [] then b.clearAlarm .portsUnseated 0
  else b

/-- A port record takes a new content, and everything that hangs on it follows: the held counts (R34), the wait list
and its alarm (R36), the MXW when the port enters or leaves IN_SERVICE, and the page marks (R18). -/
def ptuWrite (p : Port) (new : PortRec) (c : At Ptu) : At Ptu :=
  let old := c.own.ports[p]
  if old = new then c
  else
    let held := countSeat old.seat new.seat c.own.held
    let wait := waitAfter p old.state new.state c.own.waitList
    let b := c.bus.mark (.port p)
    let b := if (old.state = .inService) ≠ (new.state = .inService) then b.sendPtuMxw p else b
    let b := b.markIf (held != c.own.held || wait != c.own.waitList) .licenceSummary
    let b := unseatedAlarm c.own.waitList wait b
    { own := { c.own with ports := setAt c.own.ports p new, held := held, waitList := wait }, bus := b }

/-! ### Seats (R35 to R39) -/

/-- R35: the lowest tier k with k ≥ r and Hk below the copy of Gk; R39 excludes one tier. -/
def seatRule (held granted : Counts) (r : Tier) (excluded : Option Tier) : Option Tier :=
  tiers.find? (fun k =>
    decide (tierNum r ≤ tierNum k) && decide (held.get k < granted.get k) && decide (some k ≠ excluded))

/-- The state a port with a seat has by the slot view: ONLINE gives IN_SERVICE, any other state PARKED (R3). -/
def seatedState (v : SlotView) : PortState := if v.state = .online then .inService else .parked

/-- One entry of wait-list service (R37). -/
def serveWaiter (c : At Ptu) (p : Port) : At Ptu :=
  let r := c.own.ports[p]
  match seatRule c.own.held c.own.granted r.reqTier none with
  | none => c
  | some k =>
    ptuWrite p { r with seat := some k, reason := .seatGranted, state := seatedState c.own.view[slotOf p] } c

/-- R37: the scan runs from the oldest entry to the newest, to the end of the list. -/
def waitListService (c : At Ptu) : At Ptu := c.own.waitList.foldl serveWaiter c

/-- One port of a reclaim pass (R39). -/
def reclaimPort (k : Tier) (c : At Ptu) (p : Port) : At Ptu :=
  let r := c.own.ports[p]
  match seatRule c.own.held c.own.granted r.reqTier (some k) with
  | some j => ptuWrite p { r with seat := some j, reason := .reseated } c
  | none => ptuWrite p { r with seat := none, state := .unseated, reason := .lapsed } c

/-- The ports that hold a tier-k seat, in descending order. -/
def holdersOf (k : Tier) (ports : Vector PortRec 256) : List Port :=
  (indices 256).reverse.filter (fun p => ports[p].seat = some k)

/-- The reclaim pass for tier k: the first E = Hk − Gk holders (R39). -/
def reclaimPass (c : At Ptu) (k : Tier) : At Ptu :=
  ((holdersOf k c.own.ports).take (c.own.held.get k - c.own.granted.get k)).foldl (reclaimPort k) c

/-- The copies of G1–G3 replaced (R34, R38, R39). -/
def ptuSetGranted (g : Counts) (c : At Ptu) : At Ptu :=
  { own := { c.own with granted := g }, bus := c.bus.markIf (g != c.own.granted) .licenceSummary }

/-- R38. -/
def ptuGrantReport (g : Counts) (c : At Ptu) : At Ptu := waitListService (ptuSetGranted g c)

/-- R39: reclaim for tiers 1, 2, 3, then the answer to the LCU. -/
def ptuWithdrawal (g : Counts) (c : At Ptu) : At Ptu :=
  let c := tiers.foldl reclaimPass (ptuSetGranted g c)
  { c with bus := { c.bus with ptuLcu := c.bus.ptuLcu + 1 } }

/-! ### Slot use notices (R13) and details (R12) -/

/-- The slot has at least one admin-enabled port. -/
def slotInUse (p : Ptu) (i : Slot) : Bool := (portsOf i).any (fun q => p.ports[q].enabled)

def sendUseNotice (i : Slot) (c : At Ptu) : At Ptu :=
  { c with bus := c.bus.sendPtuSls (.useNotice i (slotInUse c.own i)) }

/-- R13: sent when the number of admin-enabled ports crosses 0. -/
def noticeIfCrossed (i : Slot) (before : Bool) (c : At Ptu) : At Ptu :=
  if before ≠ slotInUse c.own i then sendUseNotice i c else c

/-- 1 for the oldest of the wait list, 0 when the port is not on it (R12). -/
def waitPosition (w : List Port) (p : Port) : Nat :=
  match w.findIdx? (fun q => q = p) with
  | none => 0
  | some k => k + 1

/-- The four detail words of a port task (R12). -/
def portDetails (c : Ptu) (p : Port) (watts : Int) : Details :=
  { w0 := BitVec.ofNat 32 (portStateCode c.ports[p].state)
    w1 := BitVec.ofNat 32 (tierCode c.ports[p].seat)
    w2 := BitVec.ofNat 32 (waitPosition c.waitList p)
    w3 := signedWord watts }

def ptuRefuse (r : Reason) (p : Port) (c : At Ptu) : At Ptu :=
  { c with bus := c.bus.refuse .ptu r (portDetails c.own p 0) }

def ptuClose (p : Port) (watts : Int) (c : At Ptu) : At Ptu :=
  { c with bus := c.bus.closeNormal .ptu (portDetails c.own p watts) }

/-! ### PORT ENABLE (R6 to R10) and PORT DISABLE (R11) -/

/-- R6, checks 1 and 2; none when both pass. Without a maximum tier in the view check 2 fails (log entry 56). -/
def slotCheck (v : SlotView) (t : Tier) : Option Reason :=
  match v.state with
  | .empty | .identifying | .fault => some .noSlot
  | _ =>
    match v.maxTier with
    | none => some .tierUnsupported
    | some m => if tierNum t ≤ tierNum m then none else some .tierUnsupported

/-- R6 and R8 for a port and tier in range: the checks, then the claim. -/
def ptuEnablePort (p : Port) (t : Tier) (wait : Bool) (c : At Ptu) : At Ptu :=
  let r := c.own.ports[p]
  if r.enabled ∧ t = r.reqTier then ptuClose p 0 c
  else
    match slotCheck c.own.view[slotOf p] t with
    | some why => ptuRefuse why p c
    | none =>
      if r.enabled then
        { own := { c.own with claim := some (.tier p t wait) }, bus := c.bus.sendPtuPbu (.tierClaim p r.reqTier t) }
      else
        let seat := seatRule c.own.held c.own.granted t none
        if seat = none ∧ !wait then ptuRefuse .noSeat p c
        else { own := { c.own with claim := some (.port p t seat) }, bus := c.bus.sendPtuPbu (.portClaim p t) }

/-- R6: the port is 0–255 and the tier 1–3. -/
def ptuEnable (w : TaskWord) (c : At Ptu) : At Ptu :=
  if h : w.bits 0 16 < 256 then
    match tierOfNat (w.bits 16 8) with
    | none => ptuRefuse .badParameter ⟨w.bits 0 16, h⟩ c
    | some t => ptuEnablePort ⟨w.bits 0 16, h⟩ t (w.bits 24 1 == 1) c
  else { c with bus := c.bus.refuse .ptu .badParameter .zero }

/-- The watts that the PBU has reserved for a port: its recorded tier's figure on a POWERED slot entry, else 0 (R12;
log entry 13). -/
def reservedWatts (b : Pbu) (p : Port) : Nat :=
  let e := b.slots[slotOf p]
  if e.standing = .powered then
    match e.ports.find? (fun x => x.1 = p) with
    | none => 0
    | some (_, t) => b.policy.port.get t
  else 0

/-- R11 for a port in range. -/
def ptuDisablePort (watts : Nat) (p : Port) (c : At Ptu) : At Ptu :=
  let r := c.own.ports[p]
  if r.enabled then
    let before := slotInUse c.own (slotOf p)
    let c := { c with bus := c.bus.sendPtuPbu (.portRelease p) }
    let c := ptuWrite p { r with state := .disabled, seat := none, reason := .hostDisable } c
    let c := if r.seat.isSome then waitListService c else c
    let c := noticeIfCrossed (slotOf p) before c
    ptuClose p (-(watts : Int)) c
  else ptuClose p 0 c

/-- R11. -/
def ptuDisable (b : Pbu) (w : TaskWord) (c : At Ptu) : At Ptu :=
  if h : w.bits 0 16 < 256 then ptuDisablePort (reservedWatts b ⟨w.bits 0 16, h⟩) ⟨w.bits 0 16, h⟩ c
  else { c with bus := c.bus.refuse .ptu .badParameter .zero }

/-- R7: a granted port claim. -/
def ptuPortGranted (p : Port) (t : Tier) (seat : Option Tier) (a : ClaimAnswer) (c : At Ptu) : At Ptu :=
  let i := slotOf p
  let before := slotInUse c.own i
  let state := match seat with
    | none => PortState.unseated
    | some _ => seatedState c.own.view[i]
  let c := ptuWrite p { c.own.ports[p] with state := state, reqTier := t, seat := seat, reason := .hostEnable } c
  let c := if a.grant = .grantedWithWake then { c with bus := c.bus.sendPtuSls (.wake i) } else c
  ptuClose p a.amount (noticeIfCrossed i before c)

/-- R9 and R10: a granted tier claim. -/
def ptuTierGranted (p : Port) (t : Tier) (wait : Bool) (amount : Int) (c : At Ptu) : At Ptu :=
  let r := c.own.ports[p]
  let r' := { r with reqTier := t, reason := PortReason.hostEnable }
  match r.seat with
  | none => ptuClose p amount (waitListService (ptuWrite p r' c))
  | some k =>
    if tierNum t ≤ tierNum k then ptuClose p amount (ptuWrite p r' c)
    else
      match seatRule c.own.held c.own.granted t none with
      | some j => ptuClose p amount (waitListService (ptuWrite p { r' with seat := some j } c))
      | none =>
        if wait then
          ptuClose p amount (waitListService (ptuWrite p { r' with seat := none, state := .unseated } c))
        else ptuRefuse .noSeat p { c with bus := c.bus.sendPtuPbu (.tierReturn p r.reqTier) }

/-- R7 to R10, R16: the PTU takes the PBU's answer to its claim. -/
def ptuAnswer (a : ClaimAnswer) (c : At Ptu) : At Ptu :=
  let d := { c with own := { c.own with claim := none } }
  match c.own.claim with
  | none => c
  | some (.port p t seat) => if a.grant = .refused then ptuRefuse .noPower p d else ptuPortGranted p t seat a d
  | some (.tier p t wait) => if a.grant = .refused then ptuRefuse .noPower p d else ptuTierGranted p t wait a.amount d
  | some (.wake i) => if a.grant = .grantedWithWake then { d with bus := d.bus.sendPtuSls (.wake i) } else d

/-! ### Reports and sweep requests of the SLS (R14 to R17) -/

/-- R14: a PARKED port of a slot that has entered ONLINE. -/
def portOnline (c : At Ptu) (p : Port) : At Ptu :=
  let r := c.own.ports[p]
  if r.state = .parked then ptuWrite p { r with state := .inService, reason := .slotUp } c else c

/-- R15: the reason that belongs to the state entered. -/
def leaveReason : SlotState → Option PortReason
  | .off | .standby | .fault => some .slotDown
  | .shed => some .slotShed
  | .thermalOff => some .slotThermal
  | .empty => some .slotRemoved
  | .identifying | .powering | .online => none

/-- R15: a seated port of a slot that has entered another state. -/
def portLeftOnline (why : Option PortReason) (c : At Ptu) (p : Port) : At Ptu :=
  let r := c.own.ports[p]
  if r.state = .inService ∨ r.state = .parked then
    ptuWrite p { r with state := .parked, reason := why.getD r.reason } c
  else c

/-- R3: the slot view takes the new state; EMPTY sets the maximum tier to none. -/
def ptuView (i : Slot) (st : SlotState) (c : At Ptu) : At Ptu :=
  { c with own := { c.own with view := updAt c.own.view i (fun v =>
      { state := st, maxTier := if st = .empty then none else v.maxTier }) } }

/-- R16: the wake claim on a STANDBY report. -/
def wakeClaimIfUsed (i : Slot) (st : SlotState) (c : At Ptu) : At Ptu :=
  if st = .standby ∧ slotInUse c.own i then
    { own := { c.own with claim := some (.wake i) }, bus := c.bus.sendPtuPbu (.wakeClaim i) }
  else c

/-- R14 to R16: a slot transition report. -/
def ptuReport (i : Slot) (st : SlotState) (c : At Ptu) : At Ptu :=
  let c := ptuView i st c
  if st = .online then sendUseNotice i ((portsOf i).foldl portOnline c)
  else wakeClaimIfUsed i st ((portsOf i).foldl (portLeftOnline (leaveReason st)) c)

/-- The admin-enabled ports of a slot whose requested tier is above m, in ascending order (R17). -/
def aboveTier (p : Ptu) (i : Slot) (m : Tier) : List Port :=
  (portsOf i).filter (fun q => p.ports[q].enabled && decide (tierNum m < tierNum p.ports[q].reqTier))

/-- R17: one port disabled by the sweep. -/
def sweepPort (c : At Ptu) (p : Port) : At Ptu :=
  let r := c.own.ports[p]
  let c := ptuWrite p { r with state := .disabled, seat := none, reason := .tierUnsupported } c
  { c with bus := c.bus.sendPtuPbu (.portRelease p) }

/-- R17: the identification sweep. -/
def ptuSweep (i : Slot) (m : Tier) (tag : Nat) (c : At Ptu) : At Ptu :=
  let before := slotInUse c.own i
  let c := { c with own := { c.own with view := updAt c.own.view i (fun v => { v with maxTier := some m }) } }
  let victims := aboveTier c.own i m
  let freed := victims.any (fun p => c.own.ports[p].seat.isSome)
  let c := victims.foldl sweepPort c
  let c := if freed then waitListService c else c
  let c := noticeIfCrossed i before c
  { c with bus := c.bus.sendPtuSls (.sweepDone i tag) }

/-! ### Inputs held while a claim is outstanding (R4) -/

/-- An input of the SLS or the LCU applied whole. -/
def ptuApply (h : PtuHeld) (c : At Ptu) : At Ptu :=
  match h with
  | .sls (.report i st _) => ptuReport i st c
  | .sls (.sweep i m tag) => ptuSweep i m tag c
  | .lcu (.grant g) => ptuGrantReport g c
  | .lcu (.withdrawal g) => ptuWithdrawal g c
  | .task => c

/-- R4: held while a claim is outstanding, else applied. -/
def ptuInput (h : PtuHeld) (c : At Ptu) : At Ptu :=
  if c.own.claim.isSome then { c with own := { c.own with heldInputs := c.own.heldInputs ++ [h] } }
  else ptuApply h c

/-- R112: a zone count, taken whether or not a claim is outstanding (R4). -/
def ptuZoneCount (p : Port) (n : Nat) (c : At Ptu) : At Ptu := ptuWrite p { c.own.ports[p] with zoneCount := n } c

/-- R4, R170, R176: the task word that waited among the held inputs has left the intake queue, and its place goes with
it. -/
def Ptu.forgetTask (p : Ptu) : Ptu := { p with heldInputs := p.heldInputs.filter (fun h => h != .task) }

/-- The oldest task word of the intake queue is taken and its task run (R4). -/
def ptuRunTask (s : State) : State :=
  match s.oldestWord .ptu with
  | none => s
  | some w =>
    if w.is .portEnable then (s.takeWord .ptu).onPtu (ptuEnable w)
    else (s.takeWord .ptu).onPtu (ptuDisable s.pbu w)

/-- A task word of the wanted kind stands first: it is taken, or, while a claim is outstanding, waits among the held
inputs in the place of that command (R4, log entry 55). -/
def ptuTask (k : TaskKind) (s : State) : State :=
  match (s.bus.station .ptu).queue with
  | [] => s
  | (_, w) :: _ =>
    if w.is k then
      if s.ptu.claim.isSome then
        if s.ptu.heldInputs.contains .task then s
        else { s with ptu := { s.ptu with heldInputs := s.ptu.heldInputs ++ [.task] } }
      else ptuRunTask s
    else s

/-- One held input taken after the answer. -/
def ptuTakeHeld (h : PtuHeld) (s : State) : State :=
  match h with
  | .task => ptuRunTask s
  | h => s.onPtu (ptuApply h)

/-- R4: the held inputs are taken in the order they arrived, until one makes a new claim; the rest stay held. -/
def ptuDrain : List PtuHeld → State → State
  | [], s => s
  | h :: hs, s =>
    if s.ptu.claim.isSome then { s with ptu := { s.ptu with heldInputs := h :: hs } }
    else ptuDrain hs (ptuTakeHeld h s)

/-- The answer applied, then the held inputs. -/
def ptuAnswerAndDrain (a : ClaimAnswer) (s : State) : State :=
  let s := s.onPtu (ptuAnswer a)
  ptuDrain s.ptu.heldInputs { s with ptu := { s.ptu with heldInputs := [] } }

/-! ### The meanings -/

/-- PORT_ENABLE (R4, R6). -/
def execPortEnable (s : State) : Host.Outcome State Fault Refusal := .next (ptuTask .portEnable s)

/-- PORT_DISABLE (R4, R11). -/
def execPortDisable (s : State) : Host.Outcome State Fault Refusal := .next (ptuTask .portDisable s)

/-- CLAIM_ANSWER (R4, R7 to R10, R16). -/
def execClaimAnswer (s : State) : Host.Outcome State Fault Refusal :=
  match s.bus.pbuPtu with
  | [] => .next s
  | a :: rest => .next (ptuAnswerAndDrain a (s.withBus { s.bus with pbuPtu := rest }))

/-- SLOT_ONLINE_REPORT (R14). -/
def execSlotOnlineReport (s : State) : Host.Outcome State Fault Refusal :=
  match s.bus.slsPtu with
  | .report i .online cause :: rest =>
    .next ((s.withBus { s.bus with slsPtu := rest }).onPtu (ptuInput (.sls (.report i .online cause))))
  | _ => .next s

/-- SLOT_LEFT_ONLINE_REPORT (R15, R16): a report of any state other than ONLINE. -/
def execSlotLeftOnlineReport (s : State) : Host.Outcome State Fault Refusal :=
  match s.bus.slsPtu with
  | .report i st cause :: rest =>
    if st = .online then .next s
    else .next ((s.withBus { s.bus with slsPtu := rest }).onPtu (ptuInput (.sls (.report i st cause))))
  | _ => .next s

/-- IDENTIFICATION_SWEEP (R17). -/
def execIdentificationSweep (s : State) : Host.Outcome State Fault Refusal :=
  match s.bus.slsPtu with
  | .sweep i m tag :: rest =>
    .next ((s.withBus { s.bus with slsPtu := rest }).onPtu (ptuInput (.sls (.sweep i m tag))))
  | _ => .next s

/-- ZONE_COUNT (R112). -/
def execZoneCount (s : State) : Host.Outcome State Fault Refusal :=
  match s.bus.znuPtu with
  | (p, n) :: rest => .next ((s.withBus { s.bus with znuPtu := rest }).onPtu (ptuZoneCount p n))
  | [] => .next s

/-- GRANT_REPORT (R38). -/
def execGrantReport (s : State) : Host.Outcome State Fault Refusal :=
  match s.bus.lcuPtu with
  | .grant g :: rest => .next ((s.withBus { s.bus with lcuPtu := rest }).onPtu (ptuInput (.lcu (.grant g))))
  | _ => .next s

/-- WITHDRAWAL (R39). -/
def execWithdrawal (s : State) : Host.Outcome State Fault Refusal :=
  match s.bus.lcuPtu with
  | .withdrawal g :: rest => .next ((s.withBus { s.bus with lcuPtu := rest }).onPtu (ptuInput (.lcu (.withdrawal g))))
  | _ => .next s

end Sys2Proof.Machine
end

