-- ==== Sys2Proof/Machine/Sls.lean ====
section
/-! DEFINITION. The Slot Sequencer: slot transitions, identification, admission, ramps, idle slots, the slot tasks, and
the orders of the PBU and the CLC (chapter 4). -/

namespace Sys2Proof.Machine

open Sys2Proof

/-! ### Slot records and transitions (R61, R62, R71) -/

/-- POWERING, ONLINE and STANDBY: the candidates of R62. -/
def poweredState (s : SlotState) : Bool := s == .powering || s == .online || s == .standby

/-- A slot record replaced; the page entry is marked when what it shows has changed (R62). -/
def writeSlot (i : Slot) (r : SlotRec) (c : At Sls) : At Sls :=
  { own := { c.own with slots := setAt c.own.slots i r }
    bus := c.bus.markIf (slotBytes r != slotBytes c.own.slots[i]) (.slot i) }

/-- The three conditions under which the idle timer runs (R71). -/
def idleHolds (minutes : Nat) (r : SlotRec) : Bool := r.state == .online && !r.inUse && minutes != 0

/-- R71: the timer starts with the full idle time when the conditions come to hold, and stops when one of them ends. -/
def idleLook (minutes : Nat) (r : SlotRec) : SlotRec :=
  if idleHolds minutes r then
    match r.idleTimer with
    | .running _ => r
    | _ => { r with idleTimer := .running (60000 * minutes) }
  else { r with idleTimer := .stopped }

def railsLow : Vector Bool 3 := Vector.replicate 3 false

/-- R62: the alarms that a transition clears, before any raise of the state entered (log entry 63). -/
def transitionClears (i : Slot) (old new : SlotState) (b : Bus) : Bus :=
  let b := match old with
    | .shed => b.clearAlarm .slotShed i.val
    | .thermalOff => b.clearAlarm .slotThermalOff i.val
    | .fault => b.clearAlarm .slotPowerFault i.val
    | _ => b
  if new = .powering ∨ new = .empty then b.clearAlarm .slotPowerDenied i.val else b

/-- R62: a transition of a slot's state, with f for what its own rule adds to the record. A ramp in progress ends with
its timers, and the fault cause is NONE unless f sets it. -/
def goTo (i : Slot) (new : SlotState) (why : ReportCause) (f : SlotRec → SlotRec) (c : At Sls) : At Sls :=
  let old := c.own.slots[i]
  let drops := poweredState old.state && !poweredState new
  let r := { old with
    state := new, ramp := none, rampTimer := .stopped, cause := .none
    railEn := if drops then railsLow else old.railEn }
  let c := writeSlot i (idleLook c.own.idleMinutes (f r)) c
  let b := c.bus.sendSlsPtu (.report i new why)
  let b := if drops then b.sendSlsPbu (.slotRelease i) else b
  { c with bus := transitionClears i old.state new b }

/-- The slot enters FAULT with a cause, and SLOT_POWER_FAULT is raised (R64, R69, R70). -/
def goFault (i : Slot) (why : ReportCause) (cause : FaultCause) (f : SlotRec → SlotRec) (c : At Sls) : At Sls :=
  let c := goTo i .fault why (fun r => f { r with cause := cause }) c
  { c with bus := c.bus.raise .slotPowerFault i.val }

/-! ### Ending a SLOT POWER (R77) -/

inductive PowerOutcome where
  | noChange | admitted | switchedOff
  deriving DecidableEq, Repr

def powerOutcomeCode : PowerOutcome → Nat
  | .noChange => 1
  | .admitted => 2
  | .switchedOff => 3

/-- R77: the four detail words. -/
def powerDetails (outcome : Nat) (amount : Int) (r : SlotRec) : Details :=
  { w0 := BitVec.ofNat 32 outcome, w1 := BitVec.ofNat 32 (slotStateCode r.state), w2 := signedWord amount
    w3 := BitVec.ofNat 32 (faultCauseCode r.cause) }

def slsEnd (cls : OutcomeClass) (d : Details) (c : At Sls) : At Sls :=
  { own := { c.own with taskSlot := none }, bus := c.bus.endTask .sls cls d }

def closePower (i : Slot) (o : PowerOutcome) (amount : Int) (c : At Sls) : At Sls :=
  slsEnd .normal (powerDetails (powerOutcomeCode o) amount c.own.slots[i]) c

def refusePower (i : Slot) (why : Reason) (amount : Int) (c : At Sls) : At Sls :=
  slsEnd (.refused why) (powerDetails 0 amount c.own.slots[i]) c

/-! ### Identification (R63 to R65) -/

def requestSlotInventory (i : Slot) (c : At Sls) : At Sls :=
  { c with bus := c.bus.request .sls (.slotMemory i) .inventory c.own.slots[i].epoch }

/-- R63, R74: the slot enters IDENTIFYING with try number 1. -/
def identify (i : Slot) (byTask : Bool) (c : At Sls) : At Sls :=
  requestSlotInventory i (goTo i .identifying .inserted (fun r =>
    { r with ident := some { tryNo := 1, sweepPending := false, byTask := byTask }, retryTimer := .stopped }) c)

/-- The identification is over: its context goes, and answers still on their way are known as late. -/
def endIdentification (r : SlotRec) : SlotRec :=
  { r with ident := none, retryTimer := .stopped, epoch := r.epoch + 1 }

/-- A good inventory answer (R63). -/
def goodInventory : LineOutcome → Option Inventory
  | .ok data =>
    let ws := field data 0 2
    let wsb := field data 2 1
    match tierOfNat (field data 3 1) with
    | some t =>
      if 50 ≤ ws ∧ ws ≤ 800 ∧ wsb ≤ 100 then
        some { ws := ws, wsb := wsb, maxTier := t, blade := BitVec.ofNat 8 (field data 4 1) }
      else none
    | none => none
  | _ => none

/-- R63, R64: the outcome of a try. -/
def slotTry (i : Slot) (tag : Nat) (o : LineOutcome) (c : At Sls) : At Sls :=
  let r := c.own.slots[i]
  match r.ident with
  | none => c
  | some x =>
    if tag ≠ r.epoch ∨ x.sweepPending ∨ r.retryTimer ≠ .stopped then c
    else
      match goodInventory o with
      | some inv =>
        let c := writeSlot i { r with inventory := some inv, ident := some { x with sweepPending := true } } c
        { c with bus := c.bus.sendSlsPtu (.sweep i inv.maxTier r.epoch) }
      | none =>
        if x.tryNo < 3 then
          writeSlot i { r with ident := some { x with tryNo := x.tryNo + 1 }, retryTimer := .running 100 } c
        else
          let c := goFault i .identifyFailed .inventory (fun r => endIdentification { r with inventory := none }) c
          if x.byTask then refusePower i .identifyFailed 0 c else c

/-- R63: the next try, 100 ms after the failure. -/
def slotRetry (i : Slot) (c : At Sls) : At Sls :=
  let r := c.own.slots[i]
  match r.retryTimer with
  | .running _ => requestSlotInventory i (writeSlot i { r with retryTimer := .stopped } c)
  | _ => c

/-! ### Admission (R66) -/

/-- Ws and Wsb of the inventory that a slot claim carries (R66); 0 and 0 for a slot in OFF that has none (log entry
52). -/
def claimFigures (r : SlotRec) : Nat × Nat :=
  match r.inventory with
  | none => (0, 0)
  | some v => (v.ws, v.wsb)

/-- R66. -/
def admission (i : Slot) (o : Origin) (c : At Sls) : At Sls :=
  let r := c.own.slots[i]
  match r.claim with
  | none =>
    let c := writeSlot i { r with claim := some { origin := o, fromState := r.state, withdrawn := false } } c
    { c with bus := c.bus.sendSlsPbu (.slotClaim i (claimFigures r).1 (claimFigures r).2) }
  | some k =>
    if k.withdrawn then writeSlot i { r with deferred := some o } c
    else if o = .task then writeSlot i { r with claim := some { k with origin := .task } } c
    else c

/-- The states from which an admission can be made (R66). -/
def admissible (r : SlotRec) : Bool :=
  match r.state with
  | .off | .shed | .thermalOff | .standby => true
  | .fault => r.cause != .inventory && r.cause != .none
  | _ => false

/-- R65: the sweep is done. -/
def sweepAnswered (i : Slot) (tag : Nat) (c : At Sls) : At Sls :=
  let r := c.own.slots[i]
  match r.ident with
  | none => c
  | some x =>
    if x.sweepPending ∧ tag = r.epoch then
      let c := goTo i .off .identified endIdentification c
      if x.byTask then admission i .task c
      else if r.autoOn then admission i .autoOn c
      else c
    else c

/-! ### Ramps (R68 to R70) -/

/-- R68: the rails are enabled one after another, each confirmed before the next; a level already high confirms at
once. After the last, the settle timer starts. -/
def enableRails (i : Slot) (good : Vector Bool 3) (waking : Bool) : List (Fin 3) → SlotRec → SlotRec
  | [], r => { r with ramp := some { phase := .settle, waking := waking }, rampTimer := .running 200 }
  | n :: rest, r =>
    let r := { r with
      railEn := setAt r.railEn n true, ramp := some { phase := .railWait n, waking := waking }
      rampTimer := .running 100 }
    if good[n] then enableRails i good waking rest r else r

/-- The rails that follow rail n in a ramp. -/
def railsAfter (n : Fin 3) : List (Fin 3) := (indices 3).filter (fun k => decide (n < k))

/-- The slot enters POWERING and its ramp begins: a full ramp, or a wake ramp from STANDBY (R67, R68, R73). -/
def beginRamp (i : Slot) (waking : Bool) (good : Vector Bool 3) (c : At Sls) : At Sls :=
  goTo i .powering (if waking then .wake else .admitted)
    (enableRails i good waking (if waking then [1, 2] else [0, 1, 2])) c

/-- R68: RAIL_GOOD of a rail has risen. -/
def railRose (i : Slot) (n : Fin 3) (good : Vector Bool 3) (c : At Sls) : At Sls :=
  let r := c.own.slots[i]
  match r.state, r.ramp with
  | .powering, some { phase := .railWait k, waking := w } =>
    if k = n then writeSlot i (enableRails i good w (railsAfter n) r) c else c
  | _, _ => c

/-- A confirmed rail (R68, R70): those before the rail waited for, all of them in SETTLE and ONLINE, the standby rail in
STANDBY. -/
def railConfirmed (r : SlotRec) (n : Fin 3) : Bool :=
  r.railEn[n] &&
    match r.state with
    | .online => true
    | .standby => n == 0
    | .powering =>
      match r.ramp with
      | some { phase := .railWait k, .. } => decide (n < k)
      | some { phase := .settle, .. } => true
      | none => false
    | _ => false

/-- R70: RAIL_GOOD of a rail has fallen. -/
def railFell (i : Slot) (n : Fin 3) (c : At Sls) : At Sls :=
  if railConfirmed c.own.slots[i] n then goFault i .railFault (.rail n) id c else c

/-- R69: the rail timer expires. -/
def railExpired (i : Slot) (c : At Sls) : At Sls :=
  let r := c.own.slots[i]
  match r.state, r.ramp, r.rampTimer with
  | .powering, some { phase := .railWait n, .. }, .running _ => goFault i .railFault (.rail n) id c
  | _, _, _ => c

/-- R68: the settle timer expires. -/
def settleExpired (i : Slot) (c : At Sls) : At Sls :=
  let r := c.own.slots[i]
  match r.state, r.ramp, r.rampTimer with
  | .powering, some { phase := .settle, .. }, .running _ => goTo i .online .rampDone id c
  | _, _, _ => c

/-! ### The answer to a slot claim (R67) -/

/-- R67: the slot is still in the state the claim was made from. -/
def answerInState (i : Slot) (k : ClaimInFlight) (granted : Bool) (amount : Int) (good : Vector Bool 3) (c : At Sls) :
    At Sls :=
  if granted then
    let c := beginRamp i (k.fromState == .standby) good c
    if k.origin = .task then closePower i .admitted amount c else c
  else if k.origin = .task then refusePower i .noPower amount c
  else { c with bus := c.bus.raise .slotPowerDenied i.val }

/-- R67: withdrawn, or the slot is in another state. -/
def answerChanged (i : Slot) (k : ClaimInFlight) (granted : Bool) (amount : Int) (c : At Sls) : At Sls :=
  let back := granted && (k.fromState == .off || k.fromState == .shed || k.fromState == .thermalOff
    || k.fromState == .fault)
  let c := if back then { c with bus := c.bus.sendSlsPbu (.slotRelease i) } else c
  if k.origin = .task then refusePower i .slotChanged amount c else c

/-- R66, R67, R80: what waited behind the claim: a task left by a removal closes, and a deferred admission is sent. -/
def afterAnswer (i : Slot) (c : At Sls) : At Sls :=
  let r := c.own.slots[i]
  let c := if r.orphanTask then
      refusePower i .slotChanged 0 (writeSlot i { r with orphanTask := false } c)
    else c
  let r := c.own.slots[i]
  match r.deferred with
  | none => c
  | some o =>
    let c := writeSlot i { r with deferred := none } c
    if admissible r then admission i o c
    else if o = .task then refusePower i .slotChanged 0 c
    else c

/-- R67: the SLS takes the answer to its slot claim. -/
def claimAnswered (i : Slot) (granted : Bool) (amount : Int) (good : Vector Bool 3) (c : At Sls) : At Sls :=
  let r := c.own.slots[i]
  match r.claim with
  | none => c
  | some k =>
    let c := writeSlot i { r with claim := none } c
    let c :=
      if !k.withdrawn ∧ r.state = k.fromState then answerInState i k granted amount good c
      else if r.state = .powering ∨ r.state = .online then
        if k.origin = .task then closePower i .noChange amount c else c
      else answerChanged i k granted amount c
    afterAnswer i c

/-! ### Presence (R63, R80) -/

def slotGained (i : Slot) (c : At Sls) : At Sls :=
  if c.own.slots[i].state = .empty then identify i false c else c

/-- R80. -/
def slotLost (i : Slot) (c : At Sls) : At Sls :=
  let r := c.own.slots[i]
  if r.state = .empty then c
  else
    let c := goTo i .empty .removed (fun x => endIdentification
      { x with
        railEn := railsLow, inventory := none
        claim := r.claim.map (fun k => { k with withdrawn := true })
        deferred := none, orphanTask := r.orphanTask || r.deferred == some .task }) c
    let b := ((c.bus.clearAlarm .slotShed i.val).clearAlarm .slotThermalOff i.val).clearAlarm .slotPowerFault i.val
    let c := { c with bus := b }
    match r.ident with
    | some { byTask := true, .. } => refusePower i .slotChanged 0 c
    | _ => c

/-! ### Idle slots and wake (R71 to R73) -/

/-- R71: a slot use notice. -/
def useNotice (i : Slot) (inUse : Bool) (c : At Sls) : At Sls :=
  writeSlot i (idleLook c.own.idleMinutes { c.own.slots[i] with inUse := inUse }) c

/-- R71: a new idle time; running timers start again with it. -/
def newIdleTime (minutes : Nat) (c : At Sls) : At Sls :=
  { c with own := { c.own with
    idleMinutes := minutes, slots := c.own.slots.map (fun r => idleLook minutes { r with idleTimer := .stopped }) } }

/-- R72: the idle timer expires. -/
def idleExpired (i : Slot) (c : At Sls) : At Sls :=
  match c.own.slots[i].idleTimer with
  | .running _ =>
    let c := goTo i .standby .idle (fun r => { r with railEn := setAt (setAt r.railEn 2 false) 1 false }) c
    { c with bus := c.bus.sendSlsPbu (.stepDown i) }
  | _ => c

/-- R73: a wake request. -/
def wakeAsked (i : Slot) (good : Vector Bool 3) (c : At Sls) : At Sls :=
  if c.own.slots[i].state = .standby then beginRamp i true good c else c

/-! ### SLOT POWER and SLOT CONFIG (R74 to R77) -/

/-- The slot of bits 7:0 of a parameter. -/
def slotOfParam (w : TaskWord) : Option Slot := if h : w.bits 0 8 < 8 then some ⟨w.bits 0 8, h⟩ else none

/-- R74, R77: BAD_PARAMETER; the fault cause of a slot that does not exist has no value in the book (log entry 7). -/
def powerBadParameter (w : TaskWord) (c : At Sls) : At Sls :=
  match slotOfParam w with
  | some i => slsEnd (.refused .badParameter)
      { Details.zero with w3 := BitVec.ofNat 32 (faultCauseCode c.own.slots[i].cause) } c
  | none =>
    let (v, b) := c.bus.freeWord
    slsEnd (.refused .badParameter) { Details.zero with w3 := v } { c with bus := b }

def waitOn (i : Slot) (c : At Sls) : At Sls := { c with own := { c.own with taskSlot := some i } }

/-- R74. -/
def slotOn (i : Slot) (c : At Sls) : At Sls :=
  let r := c.own.slots[i]
  match r.state with
  | .empty | .identifying => refusePower i .noSlot 0 c
  | .powering | .online => closePower i .noChange 0 c
  | .off | .shed | .standby => admission i .task (waitOn i c)
  | .thermalOff =>
    if c.own.hot[(zoneOfSlot i)] then refusePower i .tooHot 0 c else admission i .task (waitOn i c)
  | .fault =>
    match r.cause with
    | .inventory | .none => identify i true (waitOn i c)
    | .rail _ => admission i .task (waitOn i c)

/-- R74 with its parameter judged: the directions are ON (1) and OFF (2). -/
def slotPowerOn (w : TaskWord) (c : At Sls) : At Sls :=
  match slotOfParam w with
  | some i => if w.bits 8 8 = 1 then slotOn i c else powerBadParameter w c
  | none => powerBadParameter w c

/-- R75. In OFF a deferred AUTO_ON admission is dropped (log entry 22). -/
def slotOff (i : Slot) (c : At Sls) : At Sls :=
  let r := c.own.slots[i]
  match r.state with
  | .empty | .identifying => refusePower i .noSlot 0 c
  | .off =>
    let deferred := if r.deferred = some .autoOn then none else r.deferred
    match r.claim with
    | some k =>
      if k.origin = .autoOn then
        closePower i .switchedOff 0
          (writeSlot i { r with claim := some { k with withdrawn := true }, deferred := deferred } c)
      else closePower i .noChange 0 (writeSlot i { r with deferred := deferred } c)
    | none => closePower i .noChange 0 c
  | .powering | .online | .standby | .shed | .thermalOff | .fault =>
    closePower i .switchedOff 0 (goTo i .off .hostOff id c)

def slotPowerOff (w : TaskWord) (c : At Sls) : At Sls :=
  match slotOfParam w with
  | some i => slotOff i c
  | none => powerBadParameter w c

/-- R76; the details of BAD_PARAMETER have no value in the book (log entry 7). -/
def slotConfig (w : TaskWord) (c : At Sls) : At Sls :=
  match slotOfParam w with
  | none =>
    let (d, b) := c.bus.freeDetails
    slsEnd (.refused .badParameter) d { c with bus := b }
  | some i =>
    let r := c.own.slots[i]
    let p := min (w.bits 8 8) 7
    let auto := w.bits 16 1 == 1
    let c := writeSlot i { r with priority := p, autoOn := auto } c
    let b := if p ≠ r.priority then c.bus.sendSlsPbu (.priority i p) else c.bus
    slsEnd .normal
      (details p (if auto then 1 else 0) (if 7 < w.bits 8 8 then 1 else 0) (slotStateCode r.state))
      { c with bus := b.mark (.slot i) }

/-! ### Orders (R78, R79) -/

/-- R78. -/
def shedOrdered (i : Slot) (c : At Sls) : At Sls :=
  if poweredState c.own.slots[i].state then
    let c := goTo i .shed .shed id c
    { c with bus := (c.bus.raise .slotShed i.val).sendSlsPbu (.shedAnswer i true) }
  else { c with bus := c.bus.sendSlsPbu (.shedAnswer i false) }

/-- R79. -/
def thermalOrdered (i : Slot) (c : At Sls) : At Sls :=
  if poweredState c.own.slots[i].state then
    let c := goTo i .thermalOff .thermal id c
    { c with bus := c.bus.raise .slotThermalOff i.val }
  else c

def hotReported (z : Fin 2) (hot : Bool) (c : At Sls) : At Sls :=
  { c with own := { c.own with hot := setAt c.own.hot z hot } }

/-! ### The meanings -/

/-- SLOT_PRESENCE_GAINED (R63). -/
def execSlotPresenceGained (s : State) : Host.Outcome State Fault Refusal :=
  match s.bus.tbSls with
  | (i, true) :: rest => .next ((s.withBus { s.bus with tbSls := rest }).onSls (slotGained i))
  | _ => .next s

/-- SLOT_PRESENCE_LOST (R80). -/
def execSlotPresenceLost (s : State) : Host.Outcome State Fault Refusal :=
  match s.bus.tbSls with
  | (i, false) :: rest => .next ((s.withBus { s.bus with tbSls := rest }).onSls (slotLost i))
  | _ => .next s

/-- SLOT_INVENTORY_ANSWER (R63, R64). -/
def execSlotInventoryAnswer (s : State) : Host.Outcome State Fault Refusal :=
  match s.bus.mlcSls with
  | { req := { dev := .slotMemory i, tag := t, .. }, outcome := o } :: rest =>
    .next ((s.withBus { s.bus with mlcSls := rest }).onSls (slotTry i t o))
  | _ => .next s

/-- SLOT_RETRY_TIMER (R63): without effect when the timer is stopped. -/
def execSlotRetryTimer (i : Slot) (s : State) : Host.Outcome State Fault Refusal := .next (s.onSls (slotRetry i))

/-- SWEEP_DONE (R65). -/
def execSweepDone (s : State) : Host.Outcome State Fault Refusal :=
  match s.bus.ptuSls with
  | .sweepDone i tag :: rest => .next ((s.withBus { s.bus with ptuSls := rest }).onSls (sweepAnswered i tag))
  | _ => .next s

/-- SLOT_CLAIM_ANSWER (R67). -/
def execSlotClaimAnswer (s : State) : Host.Outcome State Fault Refusal :=
  match s.bus.pbuSls with
  | .claimAnswer i granted amount :: rest =>
    .next ((s.withBus { s.bus with pbuSls := rest }).onSls (claimAnswered i granted amount s.pins.railGood[i]))
  | _ => .next s

/-- A RAIL_GOOD line takes a level. -/
def setRailGood (i : Slot) (n : Fin 3) (level : Bool) (p : Pins) : Pins :=
  { p with railGood := updAt p.railGood i (fun v => setAt v n level) }

/-- RAIL_GOOD_RISE (R68). -/
def execRailGoodRise (i : Slot) (n : Fin 3) (s : State) : Host.Outcome State Fault Refusal :=
  let pins := setRailGood i n true s.pins
  .next ({ s with pins := pins }.onSls (railRose i n pins.railGood[i]))

/-- RAIL_TIMER_EXPIRY (R69): without effect when the timer is stopped. -/
def execRailTimerExpiry (i : Slot) (s : State) : Host.Outcome State Fault Refusal := .next (s.onSls (railExpired i))

/-- SETTLE_TIMER_EXPIRY (R68): without effect when the timer is stopped. -/
def execSettleTimerExpiry (i : Slot) (s : State) : Host.Outcome State Fault Refusal := .next (s.onSls (settleExpired i))

/-- RAIL_GOOD_FALL (R70). -/
def execRailGoodFall (i : Slot) (n : Fin 3) (s : State) : Host.Outcome State Fault Refusal :=
  .next ({ s with pins := setRailGood i n false s.pins }.onSls (railFell i n))

/-- USE_NOTICE_TAKEN (R71). -/
def execUseNoticeTaken (s : State) : Host.Outcome State Fault Refusal :=
  match s.bus.ptuSls with
  | .useNotice i inUse :: rest => .next ((s.withBus { s.bus with ptuSls := rest }).onSls (useNotice i inUse))
  | _ => .next s

/-- IDLE_TIME_UPDATE (R71). -/
def execIdleTimeUpdate (s : State) : Host.Outcome State Fault Refusal :=
  match s.bus.pbuSls with
  | .idleTime m :: rest => .next ((s.withBus { s.bus with pbuSls := rest }).onSls (newIdleTime m))
  | _ => .next s

/-- IDLE_TIMER_EXPIRY (R72): without effect when the timer is stopped. -/
def execIdleTimerExpiry (i : Slot) (s : State) : Host.Outcome State Fault Refusal := .next (s.onSls (idleExpired i))

/-- WAKE_REQUEST (R73). -/
def execWakeRequest (s : State) : Host.Outcome State Fault Refusal :=
  match s.bus.ptuSls with
  | .wake i :: rest =>
    .next ((s.withBus { s.bus with ptuSls := rest }).onSls (wakeAsked i s.pins.railGood[i]))
  | _ => .next s

/-- A SLOT POWER word's direction is OFF. -/
def directionOff (w : TaskWord) : Bool := w.bits 8 8 == 2

/-- SLOT_POWER_ON (R74): a SLOT POWER whose direction is not OFF. -/
def execSlotPowerOn (s : State) : Host.Outcome State Fault Refusal :=
  match s.oldestWord .sls with
  | none => .next s
  | some w =>
    if w.is .slotPower ∧ !directionOff w then .next ((s.takeWord .sls).onSls (slotPowerOn w)) else .next s

/-- SLOT_POWER_OFF (R75): a SLOT POWER whose direction is OFF. -/
def execSlotPowerOff (s : State) : Host.Outcome State Fault Refusal :=
  match s.oldestWord .sls with
  | none => .next s
  | some w =>
    if w.is .slotPower ∧ directionOff w then .next ((s.takeWord .sls).onSls (slotPowerOff w)) else .next s

/-- SLOT_CONFIG (R76). -/
def execSlotConfig (s : State) : Host.Outcome State Fault Refusal :=
  match s.oldestWord .sls with
  | none => .next s
  | some w => if w.is .slotConfig then .next ((s.takeWord .sls).onSls (slotConfig w)) else .next s

/-- SHED_ORDER (R78). -/
def execShedOrder (s : State) : Host.Outcome State Fault Refusal :=
  match s.bus.pbuSls with
  | .shedOrder i :: rest => .next ((s.withBus { s.bus with pbuSls := rest }).onSls (shedOrdered i))
  | _ => .next s

/-- THERMAL_OFF_ORDER (R79). -/
def execThermalOffOrder (s : State) : Host.Outcome State Fault Refusal :=
  match s.bus.clcSls with
  | .thermalOff i :: rest => .next ((s.withBus { s.bus with clcSls := rest }).onSls (thermalOrdered i))
  | _ => .next s

/-- HOT_FLAG_REPORT (R79). -/
def execHotFlagReport (s : State) : Host.Outcome State Fault Refusal :=
  match s.bus.clcSls with
  | .hotFlag z hot :: rest => .next ((s.withBus { s.bus with clcSls := rest }).onSls (hotReported z hot))
  | _ => .next s

end Sys2Proof.Machine
end

