-- ==== Sys2Proof/Machine/Spw.lean ====
section
/-! DEFINITION. The Status Page Writer: the dirty set, batches, write faults and new bases (8.6, 8.7); and the write of
AREA BASE HIGH, which makes a new base known to it (R162). -/

namespace Sys2Proof.Machine

open Sys2Proof

/-- A record placed in the dirty set, kept in ascending page order without duplicates (R145). -/
def insertDirty (r : PageRecord) : List PageRecord → List PageRecord
  | [] => [r]
  | x :: xs =>
    if pageIndex r < pageIndex x then r :: x :: xs
    else if pageIndex r = pageIndex x then x :: xs
    else x :: insertDirty r xs

/-- The next even page generation (R147, R148, R149). -/
def evenGeneration (g : Word) : Word := if g.getLsbD 0 then g + 1 else g

/-- One host memory write of the SPW. -/
def spwWrite (base : Addr) (off : Nat) (bytes : List Byte) (b : Bus) : Bus :=
  b.access { req := .spw, kind := .page, addr := base + BitVec.ofNat 64 off, len := bytes.length, data := bytes }

/-- The write of the generation field (R146, R178). -/
def writeGeneration (base : Addr) (g : Word) (b : Bus) : Bus := spwWrite base (pageOffset .header) (toLe 4 g.toNat) b

/-- R146: the four conditions under which a batch begins. -/
def batchDue (p : Spw) : Bool :=
  !p.dirty.isEmpty && p.area == .active && (match p.batchTimer with
    | .running _ => false
    | _ => true) && p.batch.isNone

/-- R146: the beginning of a batch, and its step 1. -/
def beginBatch (base : Addr) (c : At Spw) : At Spw :=
  let g := c.own.gen + 1
  { own := { c.own with dirty := [], gen := g, batchTimer := .running 10, batch := some (.oddGeneration c.own.dirty) }
    bus := writeGeneration base g c.bus }

/-- R146: the next write of a batch: a record, or step 3. -/
def nextPageWrite (s : State) (records : List PageRecord) : State :=
  let base := s.host.hli.base
  match records with
  | r :: rest =>
    { s with
      spw := { s.spw with batch := some (.records rest) }
      bus := spwWrite base (pageOffset r) (pageBytes s s.spw.gen r) s.bus }
  | [] =>
    let g := s.spw.gen + 1
    { s with
      spw := { s.spw with gen := g, batch := some .evenGeneration }
      bus := writeGeneration base g s.bus }

/-- R146, step 4, and R150: the HLI sets the page-changed bit. -/
def setPageChanged (h : HostSide) : HostSide := judgeInterrupt { h with hli := { h.hli with pageChanged := true } }

/-- R146: a write of the batch has completed. -/
def pageWritten (s : State) : State :=
  match s.spw.batch with
  | none => s
  | some (.oddGeneration records) => nextPageWrite s records
  | some (.records rest) => nextPageWrite s rest
  | some .evenGeneration => { s with spw := { s.spw with batch := none }, host := setPageChanged s.host }

/-- R148: a write of the SPW has failed. -/
def pageFault (c : At Spw) : At Spw :=
  { c with own := { c.own with batch := none, gen := evenGeneration c.own.gen, area := .fault } }

/-- R148 for the access in flight. -/
def pageWriteFault (s : State) : State :=
  match s.bus.takeAccess .spw (fun _ => true) with
  | none => s
  | some (_, b) => (s.withBus b).onSpw pageFault

/-- R149: a new base. Every record is marked, at the base 0 of a management or link reset too (log entry 54). -/
def spwNewBase (base : Addr) (c : At Spw) : At Spw :=
  { own := { c.own with
      batch := none
      gen := if c.own.batch.isSome then evenGeneration c.own.gen else c.own.gen
      dirty := allPageRecords
      area := if base = 0 then .unset else .active }
    bus := c.bus.dropAccesses .spw }

/-! ### The meanings -/

/-- AREA_BASE_HIGH_WRITE (R162, R149). -/
def execAreaBaseHighWrite (v : Word) (s : State) : Host.Outcome State Fault Refusal :=
  if allIdle s.host then
    let base : Addr := v ++ s.host.hli.areaLow
    let s := s.onHost (fun c => setResult 0 0 .done
      { c with own := { c.own with hli := { c.own.hli with areaHigh := v, base := base } } })
    .next (s.onSpw (spwNewBase base))
  else .next (s.onHost (setResult 0 0 .busy))

/-- DIRTY_MARK (R145). -/
def execDirtyMark (r : PageRecord) (s : State) : Host.Outcome State Fault Refusal :=
  match takeFirst (· == r) s.bus.toSpw with
  | none => .next s
  | some (_, rest) =>
    .next ((s.withBus { s.bus with toSpw := rest }).onSpw (fun c =>
      { c with own := { c.own with dirty := insertDirty r c.own.dirty } }))

/-- BATCH_BEGIN (R146): without effect unless the four conditions hold. -/
def execBatchBegin (s : State) : Host.Outcome State Fault Refusal :=
  if batchDue s.spw then .next (s.onSpw (beginBatch s.host.hli.base)) else .next s

/-- BATCH_TIMER_EXPIRY (R146): without effect when the timer is stopped. -/
def execBatchTimerExpiry (s : State) : Host.Outcome State Fault Refusal :=
  .next (s.onSpw (fun c => { c with own := { c.own with batchTimer := .stopped } }))

/-- PAGE_WRITE_DONE (R146, R150). -/
def execPageWriteDone (s : State) : Host.Outcome State Fault Refusal :=
  match s.bus.takeAccess .spw (fun _ => true) with
  | none => .next s
  | some (_, b) => .next (pageWritten (s.withBus b))

/-- PAGE_WRITE_FAILED (R148). -/
def execPageWriteFailed (s : State) : Host.Outcome State Fault Refusal := .next (pageWriteFault s)

end Sys2Proof.Machine
end

