-- ==== Sys2Proof/Machine/Tb.lean ====
section
/-! DEFINITION. The Time Base's presence debouncers and scan, and the end of start-up (9.3, R156, R157, R160). The tick is
in Clc.lean. -/

namespace Sys2Proof.Machine

open Sys2Proof

/-- The level of a PRESENT line. -/
def lineLevel (p : Pins) : PresenceLine → Bool
  | .slot i => p.slotPresent[i]
  | .bay b => p.bayPresent[b]
  | .tray t => p.trayPresent[t]

def setLine (p : Pins) (x : Bool) : PresenceLine → Pins
  | .slot i => { p with slotPresent := setAt p.slotPresent i x }
  | .bay b => { p with bayPresent := setAt p.bayPresent b x }
  | .tray t => { p with trayPresent := setAt p.trayPresent t x }

def debouncer (b : Tb) : PresenceLine → Debouncer
  | .slot i => b.slots[i]
  | .bay k => b.bays[k]
  | .tray t => b.trays[t]

def setDebouncer (b : Tb) (d : Debouncer) : PresenceLine → Tb
  | .slot i => { b with slots := setAt b.slots i d }
  | .bay k => { b with bays := setAt b.bays k d }
  | .tray t => { b with trays := setAt b.trays t d }

/-- R156: the level of a line has changed to x. -/
def bounce (x : Bool) (d : Debouncer) : Debouncer :=
  if d.reported = some x then { d with timer := .stopped } else { d with timer := .running 50 }

/-- R156: a presence change or report goes to the owner of the line. -/
def sendPresence (x : Bool) (b : Bus) : PresenceLine → Bus
  | .slot i => { b with tbSls := b.tbSls ++ [(i, x)] }
  | .bay k => { b with tbPbu := b.tbPbu ++ [(k, x)] }
  | .tray t => { b with tbClc := b.tbClc ++ [(t, x)] }

/-- R157: the first report of a line: slots and bays found present, trays either way. -/
def sendScan (x : Bool) (b : Bus) (line : PresenceLine) : Bus :=
  match line with
  | .tray _ => sendPresence x b line
  | .slot _ | .bay _ => if x then sendPresence x b line else b

/-- All eighteen debouncers have a reported level. -/
def scanTaken (b : Tb) : Bool :=
  b.slots.toList.all (fun d => d.reported.isSome) && b.bays.toList.all (fun d => d.reported.isSome)
    && b.trays.toList.all (fun d => d.reported.isSome)

/-- R157: the HLI is told once that the scan is taken. -/
def tellScan (c : At Tb) : At Tb :=
  if scanTaken c.own ∧ !c.own.scanTold then
    { own := { c.own with scanTold := true }, bus := { c.bus with toHli := c.bus.toHli ++ [.tb] } }
  else c

/-- R156, R157: the pending timer of a line expires with the line at level x. -/
def debounced (line : PresenceLine) (x : Bool) (c : At Tb) : At Tb :=
  let d := debouncer c.own line
  let own := setDebouncer c.own { reported := some x, timer := .stopped } line
  match d.reported with
  | some _ => { own := own, bus := sendPresence x c.bus line }
  | none => tellScan { own := own, bus := sendScan x c.bus line }

/-- R56, R157: a bay that the scan finds present counts among those the start-up hold waits for. -/
def awaitBay (line : PresenceLine) (x : Bool) (first : Bool) (b : Pbu) : Pbu :=
  match line with
  | .bay k => if x && first then { b with awaited := setAt b.awaited k true } else b
  | _ => b

/-- R160: the HLI takes one of the two reports. -/
def startUpTaken (src : StartUpSource) (c : At HostSide) : At HostSide :=
  let h := match src with
    | .lcu => { c.own.hli with lcuReported := true }
    | .tb => { c.own.hli with tbReported := true }
  let ready := h.lcuReported && h.tbReported
  { own := { c.own with hli := { h with ready := h.ready || ready } }
    bus := c.bus.markIf (ready && !h.ready) .header }

/-! ### The meanings -/

/-- PRESENCE_LINE_CHANGE (R156): without effect when the line already has the level. -/
def execPresenceLineChange (line : PresenceLine) (x : Bool) (s : State) : Host.Outcome State Fault Refusal :=
  if lineLevel s.pins line = x then .next s
  else
    .next { s with
      pins := setLine s.pins x line
      tb := setDebouncer s.tb (bounce x (debouncer s.tb line)) line }

/-- PENDING_TIMER_EXPIRY (R156, R157): without effect when the timer is stopped. -/
def execPendingTimerExpiry (line : PresenceLine) (s : State) : Host.Outcome State Fault Refusal :=
  let d := debouncer s.tb line
  match d.timer with
  | .running _ =>
    let x := lineLevel s.pins line
    let s := { s with pbu := awaitBay line x d.reported.isNone s.pbu }
    .next (s.onTb (debounced line x))
  | _ => .next s

/-- START_UP_REPORT (R160). -/
def execStartUpReport (src : StartUpSource) (s : State) : Host.Outcome State Fault Refusal :=
  match takeFirst (· == src) s.bus.toHli with
  | none => .next s
  | some (_, rest) => .next ((s.withBus { s.bus with toHli := rest }).onHost (startUpTaken src))

end Sys2Proof.Machine
end

