-- ==== Sys2Proof/Machine/Tasks.lean ====
section
/-! DEFINITION. Where the AE and the serving blocks meet: data that has moved or stopped moving, host memory faults, and
HALT (R170, R172, R173). -/

namespace Sys2Proof.Machine

open Sys2Proof

/-- The bytes moved for the word of an anchor. -/
def movedOf (h : HostSide) (a : Fin 16) : Nat :=
  match h.anchors[a].move with
  | none => 0
  | some m => m.moved

/-- A block is told that the delivery of its data has stopped; it ends its task as its own chapter states (R172). -/
def blockStopped (v : Server) (moved : Nat) (s : State) : State :=
  match v with
  | .lcu => s.onLcu (lcuStopped moved)
  | .pbu => s.onPbu pbuStopped
  | .clc => s.onClc clcStopped
  | .znu => s.onZnu (znuStopped moved)
  | .ptu | .sls | .atu => s

/-- A block's output data has been written, or is full: the task ends (R30, R116, R118, R173). -/
def outputDone (v : Server) (moved : Nat) (s : State) : State :=
  match v with
  | .lcu => s.onLcu (lcuReportEnd .normal moved)
  | .znu => s.onZnu (znuOutputEnd moved)
  | .ptu | .pbu | .sls | .clc | .atu => s

/-- More than the zone records of the longest data. -/
def settleFuel : Nat := 4096

/-- What has already arrived at the ZNU is judged first (R107, R117). -/
def settle (v : Server) (s : State) : State :=
  match v with
  | .znu => s.onZnu (znuSettle settleFuel)
  | _ => s

/-- R172: the AE ends the chain during movement: it keeps class, reason and address, and the block ends its task. -/
def stopDelivery (a : Fin 16) (v : Server) (f : MoveFailure) (s : State) : State :=
  let s := settle v s
  if s.bus.servingOf a = some v then
    let host := { s.host with anchors := updAt s.host.anchors a (fun x => { x with failure := some f }) }
    blockStopped v (movedOf host a) { s with host := host }
  else s

/-- What a step of the movement leads to. An input task whose bytes have all arrived is judged by its block's own
command. -/
def finishMove (a : Fin 16) (v : Server) (input : Bool) (r : MoveResult) (s : State) : State :=
  match r with
  | .going => s
  | .done => if input then s else outputDone v (movedOf s.host a) s
  | .failed f => stopDelivery a v f s

/-- A step of the movement for the task of an anchor. -/
def withMove (a : Fin 16) (s : State)
    (f : Server → Service → Movement → At HostSide → At HostSide × MoveResult) : State :=
  match s.bus.servingOf a, s.host.anchors[a].move with
  | some v, some m =>
    match s.bus.service v with
    | some sv =>
      let x := f v sv m { own := s.host, bus := s.bus }
      finishMove a v m.input x.2 { s with host := x.1.own, bus := x.1.bus }
    | none => s
  | _, _ => s

/-- R173: an access of the AE has failed. -/
def accessFailed (a : Fin 16) (x : Access) (s : State) : State :=
  let now := s.tb.seconds
  match x.kind with
  | .anchorRead | .wordFetch =>
    s.onHost (fun c =>
      if c.own.anchors[a].haltRequest then endChain now a .notStarted c else endChain now a (.memoryFault x.addr) c)
  | .pieceFetch | .dataRead | .dataWrite =>
    match s.bus.servingOf a with
    | some v => stopDelivery a v { reason := none, address := x.addr } s
    | none => s
  | .record => s.onHost (recordEnded a true)
  | .page => s

/-- R173: a host memory access has failed and is reported to its requester. -/
def hostAccessFault (r : Requester) (s : State) : State :=
  match r with
  | .spw => pageWriteFault s
  | .anchor a =>
    match s.bus.takeAccess (.anchor a) (fun _ => true) with
    | none => s
    | some (x, b) => accessFailed a x (s.withBus b)

/-- R170: the block at which the task of an anchor is in service is told of the halt; an APPLY before its bank switch
is abandoned (R114), every other task runs to its end. -/
def haltBlock (a : Fin 16) (s : State) : State :=
  if s.bus.servingOf a = some .znu then abandonApply s else s

/-- R4, R170: where the halt has taken the word at the front of the PTU's intake queue, the PTU holds no word. -/
def ptuUnqueued (before after : State) : State :=
  if (before.bus.station .ptu).queue.head? = (after.bus.station .ptu).queue.head? then after
  else { after with ptu := after.ptu.forgetTask }

/-! ### The meanings -/

/-- PIECE_FETCH_DONE (R172). -/
def execPieceFetchDone (a : Fin 16) (bytes : Vector Byte 16) (s : State) : Host.Outcome State Fault Refusal :=
  match s.bus.takeAccess (.anchor a) (· == .pieceFetch) with
  | none => .next s
  | some (x, b) =>
    .next (withMove a (s.withBus b) (fun v sv m => pieceArrived a v sv m x.addr (dataPieceOf bytes.toList)))

/-- DATA_READ_DONE (R172, R173): the bytes of the whole access. -/
def execDataReadDone (a : Fin 16) (bytes : List Byte) (s : State) : Host.Outcome State Fault Refusal :=
  match s.bus.takeAccess (.anchor a) (· == .dataRead) with
  | none => .next s
  | some (x, b) =>
    if bytes.length = x.len then .next (withMove a (s.withBus b) (fun v sv m => bytesArrived a v sv m bytes))
    else .next s

/-- DATA_WRITE_DONE (R172, R173). -/
def execDataWriteDone (a : Fin 16) (s : State) : Host.Outcome State Fault Refusal :=
  match s.bus.takeAccess (.anchor a) (· == .dataWrite) with
  | none => .next s
  | some (x, b) => .next (withMove a (s.withBus b) (fun v sv m => bytesWritten a v sv m x.len))

/-- HOST_ACCESS_FAILED (R173): an unsuccessful completion. -/
def execHostAccessFailed (r : Requester) (s : State) : Host.Outcome State Fault Refusal := .next (hostAccessFault r s)

/-- HOST_ACCESS_TIMEOUT (R173): no completion within 50 ms. -/
def execHostAccessTimeout (r : Requester) (s : State) : Host.Outcome State Fault Refusal := .next (hostAccessFault r s)

/-- HALT (R163, R170, R114). -/
def execHalt (w : Word) (s : State) : Host.Outcome State Fault Refusal :=
  let t := ptuUnqueued s (s.onHost (runAction .halt w (aeHalt s.tb.seconds)))
  match judgeAction s.host.hli w with
  | .anchor .halt a =>
    if s.host.anchors[a].state = .active ∧ s.host.anchors[a].outstanding = .inService then .next (haltBlock a t)
    else .next t
  | _ => .next t

end Sys2Proof.Machine
end

