-- ==== Sys2Proof/Machine/Resets.lean ====
section
/-! DEFINITION. The three resets and the loss of power (R176, and the reset values that each block states). -/

namespace Sys2Proof.Machine

open Sys2Proof

/-- R176: every intake queue is emptied, and every task in service is detached from its anchor. -/
def detachTasks (b : Bus) : Bus :=
  { b with
    stations := b.stations.map (fun st =>
      { queue := [], service := st.service.map (fun sv => { sv with anchor := none }) })
    outcomes := b.outcomes.map (fun o => { o with anchor := none }) }

/-- R173, R176: the accesses of the AE are acted on no more. -/
def dropAeAccesses (b : Bus) : Bus := { b with accesses := b.accesses.filter (fun x => x.req == .spw) }

/-- R176: data movement stops at once. A task whose input has all arrived keeps it and is judged by its block (R46,
R83); every other task whose data was moving ends as its chapter states. -/
def stopMoving (v : Server) (s : State) : State :=
  let s := settle v s
  match s.bus.service v with
  | none => s
  | some sv =>
    match taskKindOf sv.word.code with
    | none => s
    | some k => if readsInput k && sv.complete then s else blockStopped v 0 s

/-- R161, R164, R176: registers, contexts, queues, tasks in service and accesses, and the base 0 for the SPW (R149). -/
def resetHostSide (s : State) : State :=
  let s := abandonApply s
  let s := { s with bus := dropAeAccesses (detachTasks s.bus), ptu := s.ptu.forgetTask }
  let s := stopMoving .znu (stopMoving .clc (stopMoving .pbu (stopMoving .lcu s)))
  let host : HostSide := { hli := hliRegistersReset s.host.hli, anchors := Vector.replicate 16 anchorPowerOn }
  { s with host := host }.onSpw (spwNewBase 0)

/-- R22, R33: what a management reset does to the LCU. -/
def lcuManagementReset (l : Lcu) : Lcu := { l with freeze := false, failedInstalls := 0 }

/-- R105: what a management reset does to the ZNU; the copy waits for a task in service. -/
def znuManagementReset (s : State) : State :=
  let s := { s with znu := { s.znu with findBuffer := [] } }
  if s.bus.serviceFree .znu then s.onZnu stagedCopy else { s with znu := { s.znu with copyDue := true } }

/-! ### The meanings -/

/-- POWER_ON_RESET: every block at its power-on values; the Licence Store, the lines and the waiting commands stay. -/
def execPowerOnReset (s : State) : Host.Outcome State Fault Refusal :=
  .next (State.powerOn s.lcu.lst s.pins s.bus.freeUsed s.pending)

/-- MANAGEMENT_RESET (R176, R22, R105). -/
def execManagementReset (s : State) : Host.Outcome State Fault Refusal :=
  let s := resetHostSide s
  .next (znuManagementReset { s with lcu := lcuManagementReset s.lcu })

/-- LINK_RESET (R176). -/
def execLinkReset (s : State) : Host.Outcome State Fault Refusal := .next (resetHostSide s)

/-- POWER_LOSS (R20, R159): a write or erase in progress is cut short and leaves its cell as it was, queued ones are
lost, and so is the part of an hour. What else is lost shows only after the power-on reset that follows
(log entry 24). -/
def execPowerLoss (s : State) : Host.Outcome State Fault Refusal :=
  .next { s with
    lcu := { s.lcu with storeQueue := [], lst := { s.lcu.lst with busy := none } }
    tb := { s.tb with hourCount := 0 } }

end Sys2Proof.Machine
end

