-- ==== Sys2Proof/Machine/Dispatch.lean ====
section
/-! DEFINITION. exec: one arm per command, each one direct call of its meaning. -/

namespace Sys2Proof.Machine

open Sys2Proof

/-- The effect of a command on everything but the queue of waiting commands. -/
def exec (i : Instr) (s : State) : Host.Outcome State Fault Refusal :=
  match i with
  | .powerOnReset => Sys2Proof.Machine.execPowerOnReset s
  | .managementReset => Sys2Proof.Machine.execManagementReset s
  | .linkReset => Sys2Proof.Machine.execLinkReset s
  | .areaBaseLowWrite v => Sys2Proof.Machine.execAreaBaseLowWrite v s
  | .areaBaseHighWrite v => Sys2Proof.Machine.execAreaBaseHighWrite v s
  | .interruptMaskWrite v => Sys2Proof.Machine.execInterruptMaskWrite v s
  | .readOnlyRegisterWrite r v => Sys2Proof.Machine.execReadOnlyRegisterWrite r v s
  | .start w => Sys2Proof.Machine.execStart w s
  | .resume w => Sys2Proof.Machine.execResume w s
  | .halt w => Sys2Proof.Machine.execHalt w s
  | .accept w => Sys2Proof.Machine.execAccept w s
  | .pageSeen w => Sys2Proof.Machine.execPageSeen w s
  | .anchorReadDone a bytes => Sys2Proof.Machine.execAnchorReadDone a bytes s
  | .wordFetchDone a bytes => Sys2Proof.Machine.execWordFetchDone a bytes s
  | .taskOutcome b => Sys2Proof.Machine.execTaskOutcome b s
  | .recordWriteDone a => Sys2Proof.Machine.execRecordWriteDone a s
  | .pieceFetchDone a bytes => Sys2Proof.Machine.execPieceFetchDone a bytes s
  | .dataReadDone a bytes => Sys2Proof.Machine.execDataReadDone a bytes s
  | .dataWriteDone a => Sys2Proof.Machine.execDataWriteDone a s
  | .hostAccessFailed r => Sys2Proof.Machine.execHostAccessFailed r s
  | .hostAccessTimeout r => Sys2Proof.Machine.execHostAccessTimeout r s
  | .portEnable => Sys2Proof.Machine.execPortEnable s
  | .portDisable => Sys2Proof.Machine.execPortDisable s
  | .claimAnswer => Sys2Proof.Machine.execClaimAnswer s
  | .slotOnlineReport => Sys2Proof.Machine.execSlotOnlineReport s
  | .slotLeftOnlineReport => Sys2Proof.Machine.execSlotLeftOnlineReport s
  | .identificationSweep => Sys2Proof.Machine.execIdentificationSweep s
  | .zoneCount => Sys2Proof.Machine.execZoneCount s
  | .grantReport => Sys2Proof.Machine.execGrantReport s
  | .withdrawal => Sys2Proof.Machine.execWithdrawal s
  | .licenceCellReadDone => Sys2Proof.Machine.execLicenceCellReadDone s
  | .licenceInstall => Sys2Proof.Machine.execLicenceInstall s
  | .licenceRemove => Sys2Proof.Machine.execLicenceRemove s
  | .licenceFreeze => Sys2Proof.Machine.execLicenceFreeze s
  | .licenceReport => Sys2Proof.Machine.execLicenceReport s
  | .storeWriteDone good => Sys2Proof.Machine.execStoreWriteDone good s
  | .hourTick => Sys2Proof.Machine.execHourTick s
  | .withdrawalAnswer => Sys2Proof.Machine.execWithdrawalAnswer s
  | .bayPresenceGained => Sys2Proof.Machine.execBayPresenceGained s
  | .bayPresenceLost => Sys2Proof.Machine.execBayPresenceLost s
  | .moduleInventoryAnswer => Sys2Proof.Machine.execModuleInventoryAnswer s
  | .moduleRetryTimer b => Sys2Proof.Machine.execModuleRetryTimer b s
  | .moduleLineChange b line level => Sys2Proof.Machine.execModuleLineChange b line level s
  | .telemetryAnswer => Sys2Proof.Machine.execTelemetryAnswer s
  | .powerPolicy => Sys2Proof.Machine.execPowerPolicy s
  | .portClaim => Sys2Proof.Machine.execPortClaim s
  | .tierClaim => Sys2Proof.Machine.execTierClaim s
  | .wakeClaimJudged => Sys2Proof.Machine.execWakeClaimJudged s
  | .slotClaim => Sys2Proof.Machine.execSlotClaim s
  | .portRelease => Sys2Proof.Machine.execPortRelease s
  | .tierReturn => Sys2Proof.Machine.execTierReturn s
  | .standbyStepDown => Sys2Proof.Machine.execStandbyStepDown s
  | .slotRelease => Sys2Proof.Machine.execSlotRelease s
  | .dutyReport => Sys2Proof.Machine.execDutyReport s
  | .priorityUpdate => Sys2Proof.Machine.execPriorityUpdate s
  | .startupHoldRelease => Sys2Proof.Machine.execStartupHoldRelease s
  | .graceTimerExpiry => Sys2Proof.Machine.execGraceTimerExpiry s
  | .intervalTimerExpiry => Sys2Proof.Machine.execIntervalTimerExpiry s
  | .shedAnswer => Sys2Proof.Machine.execShedAnswer s
  | .slotPresenceGained => Sys2Proof.Machine.execSlotPresenceGained s
  | .slotPresenceLost => Sys2Proof.Machine.execSlotPresenceLost s
  | .slotInventoryAnswer => Sys2Proof.Machine.execSlotInventoryAnswer s
  | .slotRetryTimer j => Sys2Proof.Machine.execSlotRetryTimer j s
  | .sweepDone => Sys2Proof.Machine.execSweepDone s
  | .slotClaimAnswer => Sys2Proof.Machine.execSlotClaimAnswer s
  | .railGoodRise j rail => Sys2Proof.Machine.execRailGoodRise j rail s
  | .railTimerExpiry j => Sys2Proof.Machine.execRailTimerExpiry j s
  | .settleTimerExpiry j => Sys2Proof.Machine.execSettleTimerExpiry j s
  | .railGoodFall j rail => Sys2Proof.Machine.execRailGoodFall j rail s
  | .useNoticeTaken => Sys2Proof.Machine.execUseNoticeTaken s
  | .idleTimeUpdate => Sys2Proof.Machine.execIdleTimeUpdate s
  | .idleTimerExpiry j => Sys2Proof.Machine.execIdleTimerExpiry j s
  | .wakeRequest => Sys2Proof.Machine.execWakeRequest s
  | .slotPowerOn => Sys2Proof.Machine.execSlotPowerOn s
  | .slotPowerOff => Sys2Proof.Machine.execSlotPowerOff s
  | .slotConfig => Sys2Proof.Machine.execSlotConfig s
  | .shedOrder => Sys2Proof.Machine.execShedOrder s
  | .thermalOffOrder => Sys2Proof.Machine.execThermalOffOrder s
  | .hotFlagReport => Sys2Proof.Machine.execHotFlagReport s
  | .cycleTick => Sys2Proof.Machine.execCycleTick s
  | .sensorAnswer => Sys2Proof.Machine.execSensorAnswer s
  | .thermalProfile => Sys2Proof.Machine.execThermalProfile s
  | .tachEdge r => Sys2Proof.Machine.execTachEdge r s
  | .stallTimerExpiry r => Sys2Proof.Machine.execStallTimerExpiry r s
  | .spinupTimerExpiry t => Sys2Proof.Machine.execSpinupTimerExpiry t s
  | .holdTimerExpiry z => Sys2Proof.Machine.execHoldTimerExpiry z s
  | .trayPresenceLost => Sys2Proof.Machine.execTrayPresenceLost s
  | .trayPresenceGained => Sys2Proof.Machine.execTrayPresenceGained s
  | .trayInventoryAnswer => Sys2Proof.Machine.execTrayInventoryAnswer s
  | .trayRetryTimer t => Sys2Proof.Machine.execTrayRetryTimer t s
  | .zoneStage => Sys2Proof.Machine.execZoneStage s
  | .zoneStageRecord => Sys2Proof.Machine.execZoneStageRecord s
  | .zoneDrop => Sys2Proof.Machine.execZoneDrop s
  | .zoneCommitVerify => Sys2Proof.Machine.execZoneCommitVerify s
  | .zoneCommitApply => Sys2Proof.Machine.execZoneCommitApply s
  | .switchSent => Sys2Proof.Machine.execSwitchSent s
  | .committed => Sys2Proof.Machine.execCommitted s
  | .failed => Sys2Proof.Machine.execFailed s
  | .abandoned => Sys2Proof.Machine.execAbandoned s
  | .stagedCopy => Sys2Proof.Machine.execStagedCopy s
  | .zoneRead => Sys2Proof.Machine.execZoneRead s
  | .zoneFindLoad => Sys2Proof.Machine.execZoneFindLoad s
  | .zoneFind => Sys2Proof.Machine.execZoneFind s
  | .acknowledgement frame => Sys2Proof.Machine.execAcknowledgement frame s
  | .ackTimerExpiry => Sys2Proof.Machine.execAckTimerExpiry s
  | .probeTimerExpiry => Sys2Proof.Machine.execProbeTimerExpiry s
  | .recomputeAddition => Sys2Proof.Machine.execRecomputeAddition s
  | .buildRequest => Sys2Proof.Machine.execBuildRequest s
  | .activeSetReplaced => Sys2Proof.Machine.execActiveSetReplaced s
  | .raise kind object => Sys2Proof.Machine.execRaise kind object s
  | .clear kind object => Sys2Proof.Machine.execClear kind object s
  | .alarmAcknowledge => Sys2Proof.Machine.execAlarmAcknowledge s
  | .dirtyMark r => Sys2Proof.Machine.execDirtyMark r s
  | .batchBegin => Sys2Proof.Machine.execBatchBegin s
  | .batchTimerExpiry => Sys2Proof.Machine.execBatchTimerExpiry s
  | .pageWriteDone => Sys2Proof.Machine.execPageWriteDone s
  | .pageWriteFailed => Sys2Proof.Machine.execPageWriteFailed s
  | .mlcRequest who => Sys2Proof.Machine.execMlcRequest who s
  | .transactionBegin => Sys2Proof.Machine.execTransactionBegin s
  | .requestSent => Sys2Proof.Machine.execRequestSent s
  | .answerFrame bytes => Sys2Proof.Machine.execAnswerFrame bytes s
  | .answerTimerExpiry => Sys2Proof.Machine.execAnswerTimerExpiry s
  | .lineActivity => Sys2Proof.Machine.execLineActivity s
  | .recoveryIdle bitTimes => Sys2Proof.Machine.execRecoveryIdle bitTimes s
  | .presenceLineChange line present => Sys2Proof.Machine.execPresenceLineChange line present s
  | .pendingTimerExpiry line => Sys2Proof.Machine.execPendingTimerExpiry line s
  | .startUpReport src => Sys2Proof.Machine.execStartUpReport src s
  | .powerLoss => Sys2Proof.Machine.execPowerLoss s

end Sys2Proof.Machine
end

