-- ==== Sys2Proof/Safety.lean ====
section
/-! DEFINITION. What counts as a sound state of each block, in the book's own terms: the figures that always agree, the
lists that never repeat, the machines that are in one of their states. The claims are stated with these. -/

namespace Sys2Proof.Machine

open Sys2Proof

/-! ### The Port Table Unit (R1, R34 to R36) -/

/-- A seat of tier k would do for a port that asks for tier r, by the counts (R35). -/
def Ptu.fits (p : Ptu) (r k : Tier) : Bool := decide (tierNum r ≤ tierNum k) && decide (p.held.get k < p.granted.get k)

/-- What the seat rule must answer: the lowest tier that would do, none when no tier would (R35). -/
def Ptu.lowestFit (p : Ptu) (r : Tier) : Option Tier → Bool
  | none => tiers.all (fun k => !p.fits r k)
  | some k => p.fits r k && tiers.all (fun j => !p.fits r j || decide (tierNum k ≤ tierNum j))

/-- R35: the seat rule for tier r, with the tiers of `out` excluded (R39). -/
def Ptu.seatFor (p : Ptu) (r : Tier) (out : List Tier) : Option Tier := [Tier.t1, .t2, .t3].find? (fun k => p.fits r k && !out.contains k)

/-- R37: the oldest-first scan's next entry: it takes the seat it finds and leaves the list, or keeps its place. -/
def Ptu.waiterServed (p : Ptu) (q : Port) : Ptu :=
  let r := p.ports[q]
  match p.seatFor r.reqTier [] with
  | none => p
  | some k =>
    { p with
      ports := setAt p.ports q { r with
        seat := some k, reason := .seatGranted
        state := if p.view[slotOf q].state = .online then .inService else .parked }
      held := p.held.set k (p.held.get k + 1)
      waitList := p.waitList.filter (fun o => o ≠ q) }

/-- R39: one port of the pass for tier k: re-seated on the tier that the rule finds with k excluded, else unseated. -/
def Ptu.seatReclaimed (k : Tier) (p : Ptu) (q : Port) : Ptu :=
  let r := p.ports[q]
  let freed := p.held.set k (p.held.get k - 1)
  match p.seatFor r.reqTier [k] with
  | some j =>
    { p with
      ports := setAt p.ports q { r with seat := some j, reason := .reseated }
      held := freed.set j (freed.get j + 1) }
  | none =>
    { p with
      ports := setAt p.ports q { r with seat := none, state := .unseated, reason := .lapsed }
      held := freed, waitList := p.waitList ++ [q] }

/-- R39: the pass for tier k deals with the first Hk − Gk of the ports that hold a tier-k seat, highest number first. -/
def Ptu.tierReclaimed (p : Ptu) (k : Tier) : Ptu :=
  (((List.finRange 256).filter (fun q => p.ports[q].seat = some k)).reverse.take (p.held.get k - p.granted.get k)).foldl
    (Ptu.seatReclaimed k) p

/-- How many ports hold a tier-k seat. -/
def Ptu.holders (p : Ptu) (k : Tier) : Nat := (indices 256).countP (fun q => p.ports[q].seat = some k)

/-- R1, R34 and R36: what holds of the port table in every state of the PTU. -/
structure Ptu.Sound (p : Ptu) : Prop where
  /-- Hk is the number of ports that hold a tier-k seat -/
  held_counts : ∀ k, p.held.get k = p.holders k
  /-- the wait list has no duplicates -/
  wait_nodup : p.waitList.Nodup
  /-- a port is on the list exactly while UNSEATED -/
  wait_unseated : ∀ q : Port, q ∈ p.waitList ↔ p.ports[q].state = .unseated
  /-- a port holds a seat exactly while IN_SERVICE or PARKED -/
  seat_state : ∀ q : Port, p.ports[q].seat.isSome ↔ (p.ports[q].state = .inService ∨ p.ports[q].state = .parked)
  /-- of a tier not below its requested tier -/
  seat_tier : ∀ (q : Port) (k : Tier), p.ports[q].seat = some k → tierNum p.ports[q].reqTier ≤ tierNum k
  /-- a seated port is IN_SERVICE exactly when its slot is ONLINE in the slot view -/
  service_online : ∀ q : Port, p.ports[q].seat.isSome →
    (p.ports[q].state = .inService ↔ p.view[slotOf q].state = .online)
  /-- a seat noted for a port claim is not below the tier asked for (R6) -/
  noted_tier : ∀ (q : Port) (t k : Tier), p.claim = some (.port q t (some k)) → tierNum t ≤ tierNum k
  /-- a port claim is made for a DISABLED port, a tier claim for an admin-enabled one (R5, R6, R8) -/
  port_claim : ∀ (q : Port) (t : Tier) (k : Option Tier), p.claim = some (.port q t k) → p.ports[q].state = .disabled
  tier_claim : ∀ (q : Port) (t : Tier) (w : Bool), p.claim = some (.tier q t w) → p.ports[q].state ≠ .disabled

/-- The command that takes a held input once no claim is outstanding (R4). -/
def PtuHeld.command (s : State) : PtuHeld → Instr
  | .sls (.report _ .online _) => .slotOnlineReport
  | .sls (.report _ _ _) => .slotLeftOnlineReport
  | .sls (.sweep _ _ _) => .identificationSweep
  | .lcu (.grant _) => .grantReport
  | .lcu (.withdrawal _) => .withdrawal
  | .task => if (s.bus.station .ptu).queue.head?.any (fun e => e.2.is .portEnable) then .portEnable else .portDisable

/-- The state with a held input back at the front of its channel; a held task word still stands in the intake queue. -/
def PtuHeld.back (s : State) : PtuHeld → State
  | .sls m => { s with bus := { s.bus with slsPtu := m :: s.bus.slsPtu } }
  | .lcu m => { s with bus := { s.bus with lcuPtu := m :: s.bus.lcuPtu } }
  | .task => s

/-- R4: the held inputs taken one after another, each as its own command takes it, until one makes a new claim; the rest
stay held. -/
def afterHeld : List PtuHeld → State → Option State
  | [], s => some s
  | h :: rest, s =>
    if s.ptu.claim.isSome then some { s with ptu := { s.ptu with heldInputs := h :: rest } }
    else
      match exec (h.command s) (h.back s) with
      | .next t => afterHeld rest t
      | _ => none

/-! ### The Licence Unit (R22, R24, R25) -/

/-- A write or an erase waits in the store write queue or is at the LST. -/
def Lcu.stores (l : Lcu) (e : StoreEntry) : Bool := l.storeQueue.contains e || l.lst.busy == some e

/-- R22, R24 and R25: what holds of the licence table and the store write queue in every state of the LCU. -/
structure Lcu.Sound (l : Lcu) : Prop where
  /-- no cell appears twice in the store write queue -/
  queue_cells : (l.storeQueue.map (fun e => e.cell)).Nodup
  /-- Gk is the sum of the seats of the VALID cells of tier k, once the start-up read is done -/
  granted_sums : l.startRead = 32 → ∀ k, l.granted.get k = seatsOf l.cells (fun _ => true) k
  /-- and lies in 0–8192 -/
  granted_range : l.startRead = 32 → ∀ k, l.granted.get k ≤ 8192
  /-- a VALID cell holds a well-formed record -/
  valid_well_formed : ∀ i : Fin 32, l.cells[i].state = .valid → licenceWellFormed l.cells[i].record = true
  /-- so does the record of an install that waits for its write -/
  installing_well_formed : ∀ (i : Fin 32) (r : LicenceRecord), l.task = .installing i r → licenceWellFormed r = true
  /-- the failed-install count is 0–5 -/
  failed_range : l.failedInstalls ≤ 5

/-! ### The Power Budget Unit (R47, R48, R50, R51, R56, R57) -/

/-- What holds of the budget in every state of the PBU. -/
structure Pbu.Sound (b : Pbu) : Prop where
  /-- available watts follow state, Wr and Tin (R47) -/
  available_right : ∀ i : Fin 4, b.modules[i].available = availableOf b.modules[i]
  /-- U follows the available watts and the mode (R48) -/
  usable_right : b.usable = usableOf b.policy.mode b.modules
  /-- D always equals its sum (R51) -/
  demand_right : b.demand = b.policy.wb + (b.trays.toList.map trayReservation).sum +
    (b.slots.toList.map (slotWatts b.policy.port)).sum
  /-- the REDUNDANCY_LOST condition is the one of the last U (R48) -/
  redundancy_right : b.redundancyLost = redundancyLostOf b.policy.mode b.modules
  /-- WITHIN holds exactly while H ≥ 0, and throughout the start-up hold (R56, R57) -/
  within_right : b.budget = .within ↔ b.hold = true ∨ 0 ≤ b.headroom
  /-- the grace timer runs in GRACE alone, the interval timer in SHEDDING alone (R57) -/
  grace_timer : b.graceTimer ≠ .stopped ↔ b.budget = .grace
  interval_timer : b.intervalTimer ≠ .stopped ↔ b.budget = .shedding
  /-- a port list names ports of its slot, each once (R50) -/
  ports_once : ∀ i : Slot, (b.slots[i].ports.map (fun e => e.1)).Nodup
  ports_here : ∀ i : Slot, ∀ e ∈ b.slots[i].ports, slotOf e.1 = i
  /-- the policy's figures are in their ranges, and port watts never fall as the tier rises (R45) -/
  policy_range : b.policy.wb ≤ 1000 ∧ b.policy.port.t1 ≤ b.policy.port.t2 ∧ b.policy.port.t2 ≤ b.policy.port.t3 ∧
    b.policy.port.t3 ≤ 30 ∧ b.policy.grace ≤ 60 ∧ b.policy.idle ≤ 240
  /-- Wsb is never above Ws (R54) -/
  standby_below : ∀ i : Slot, b.slots[i].wsb ≤ b.slots[i].ws

/-- The command that takes a claim (R53, R54); none for a message that is no claim. -/
def HeldClaim.command : HeldClaim → Option Instr
  | .ptu (.portClaim _ _) => some .portClaim
  | .ptu (.tierClaim _ _ _) => some .tierClaim
  | .ptu (.wakeClaim _) => some .wakeClaimJudged
  | .ptu (.portRelease _) | .ptu (.tierReturn _ _) => none
  | .sls _ _ _ => some .slotClaim

/-- The claims of the PTU and of the SLS among the held ones, each in its order. -/
def ptuClaimsOf (l : List HeldClaim) : List PtuToPbu :=
  l.filterMap (fun c => match c with
    | .ptu m => some m
    | .sls _ _ _ => none)

def slsClaimsOf (l : List HeldClaim) : List SlsToPbu :=
  l.filterMap (fun c => match c with
    | .ptu _ => none
    | .sls i ws wsb => some (.slotClaim i ws wsb))

/-- The state after commands that all answer a next state, one after another. -/
def afterAll : List Instr → State → Option State
  | [], s => some s
  | c :: cs, s =>
    match exec c s with
    | .next t => afterAll cs t
    | _ => none

/-! ### The Slot Sequencer (R61, R62, R68, R70, R71) -/

/-- R68: the ramp's place once every rail of `todo` that is already high has been confirmed: it waits for the first that is
low, with its 100 ms timer, and the rails up to it are enabled; with none low it settles for 200 ms. -/
def rampPlace (good : Vector Bool 3) (waking : Bool) (todo : List (Fin 3)) (r : SlotRec) : SlotRec :=
  match todo.find? (fun n => !good[n]) with
  | some n =>
    { r with
      ramp := some { phase := .railWait n, waking := waking }, rampTimer := .running 100
      railEn := Vector.ofFn (fun j => decide (j ≤ n)) }
  | none =>
    { r with
      ramp := some { phase := .settle, waking := waking }, rampTimer := .running 200
      railEn := Vector.replicate 3 true }

/-- The rails that a slot drives (R62, R68): none, those of the ramp so far, all three, or the standby rail alone. -/
def railsDue (r : SlotRec) : Vector Bool 3 :=
  match r.state, r.ramp with
  | .powering, some { phase := .railWait n, .. } => Vector.ofFn (fun j => decide (j ≤ n))
  | .powering, _ | .online, _ => Vector.replicate 3 true
  | .standby, _ => Vector.ofFn (fun j => decide (j = 0))
  | _, _ => Vector.replicate 3 false

/-- What holds of one slot record in every state of the SLS. -/
structure SlotRec.Sound (minutes : Nat) (r : SlotRec) : Prop where
  /-- the fault cause is NONE in every state but FAULT (R61) -/
  cause_fault : r.cause ≠ .none ↔ r.state = .fault
  /-- the ramp context is present only in POWERING, and its timer with it (R61) -/
  ramp_powering : r.ramp.isSome = true ↔ r.state = .powering
  ramp_timer : r.rampTimer ≠ .stopped → r.state = .powering
  /-- the identification context is present only in IDENTIFYING (R61) -/
  ident_identifying : r.ident.isSome = true ↔ r.state = .identifying
  retry_timer : r.retryTimer ≠ .stopped → r.state = .identifying
  /-- the rails are those of the state (R62) -/
  rails_right : r.railEn = railsDue r
  /-- the idle timer runs while the three conditions hold together (R71) -/
  idle_right : r.idleTimer ≠ .stopped ↔ r.state = .online ∧ r.inUse = false ∧ minutes ≠ 0
  /-- its expiry takes the slot to STANDBY, so that it is never found run out (R72) -/
  idle_not_out : r.idleTimer ≠ .runOut
  /-- a claim was made from a state from which an admission can be made (R66) -/
  claim_from : r.claim.all (fun k => k.fromState == .off || k.fromState == .shed || k.fromState == .thermalOff
    || k.fromState == .fault || k.fromState == .standby) = true

/-- Every slot record is sound. -/
def Sls.Sound (u : Sls) : Prop := ∀ i : Slot, u.slots[i].Sound u.idleMinutes

/-! ### The Cooling Controller (R81, R85, R88 to R92, R94, R97, R100) -/

/-- The boost condition of R89: a rotor of a zone tray SLOW or STALLED, or a zone tray ABSENT or IDENTIFYING. -/
def Clc.mustBoost (c : Clc) (z : Fin 3) : Prop :=
  ∃ t : Fin 6, zoneOfTray t = z ∧ (c.trays[t].state = .absent ∨ c.trays[t].state = .identifying ∨
    ∃ k : Fin 12, trayOfRotor k = t ∧ (c.rotors[k].state = .slow ∨ c.rotors[k].state = .stalled))

/-- What holds of the cooling records in every state of the CLC. -/
structure Clc.Sound (c : Clc) : Prop where
  /-- the profile's figures are in their ranges and order (R82, R83) -/
  profile_order : ∀ z : Fin 3, c.profile[z].tlow < c.profile[z].thigh ∧ c.profile[z].twarn < c.profile[z].tcrit
  profile_duty : ∀ z : Fin 3, 20 ≤ c.profile[z].dmin ∧ c.profile[z].dmin ≤ c.profile[z].dmax ∧ c.profile[z].dmax ≤ 100
  /-- a sensor is ABSENT exactly while it is masked out (R85) -/
  sensor_mask : ∀ n : Fin 8, c.sensors[n].state = .absent ↔ c.mask.getLsbD n.val = false
  /-- a zone is boosted exactly while the condition of R89 holds, and its duty is then 100 (R88) -/
  boosted_right : ∀ z : Fin 3, c.zones[z].boosted = true ↔ c.mustBoost z
  boosted_duty : ∀ z : Fin 3, c.zones[z].boosted = true → c.zones[z].duty = 100
  /-- the zone duty lies between Dmin and 100 (R88) -/
  zone_duty : ∀ z : Fin 3, c.profile[z].dmin ≤ c.zones[z].duty ∧ c.zones[z].duty ≤ 100
  /-- a present tray's duty lies between its zone's Dmin and 100; it is 100 in spin-up, in identification, when ABSENT and
  while its zone is boosted (R90, R91) -/
  tray_duty : ∀ t : Fin 6, c.zones[zoneOfTray t].duty ≤ c.trays[t].duty ∧ c.trays[t].duty ≤ 100
  tray_full : ∀ t : Fin 6, c.trays[t].state ≠ .running → c.trays[t].duty = 100
  /-- the width latch is 10 × the commanded duty (R91) -/
  latch_right : ∀ t : Fin 6, c.trays[t].pwmLatch = 10 * c.trays[t].duty
  /-- a rotor's state goes with its tray's, and its stall timer is armed in RUNNING alone (R92, R94, R97) -/
  rotor_tray : ∀ k : Fin 12, match c.trays[trayOfRotor k].state with
    | .absent | .identifying => c.rotors[k].state = .absent
    | .spinup => c.rotors[k].state = .spinup
    | .running => c.rotors[k].state = .ok ∨ c.rotors[k].state = .slow ∨ c.rotors[k].state = .stalled
  rotor_armed : ∀ k : Fin 12, c.rotors[k].armed = true ↔ c.trays[trayOfRotor k].state = .running
  /-- the hold timer runs in HOLDING alone (R100) -/
  hold_timer : ∀ z : Fin 3, c.zones[z].holdTimer ≠ .stopped ↔ c.zones[z].thermal = .holding

/-! ### The Zoning Unit (R102) -/

/-- The limits that every zone set keeps. -/
structure ZoneSet.Sound (x : ZoneSet) : Prop where
  /-- at most 64 zones -/
  zones_limit : x.zones.length ≤ 64
  /-- in ascending order of zone id, no id twice -/
  ids_ascend : (x.zones.map (fun z => z.id)).Pairwise (· < ·)
  /-- ids 0–1023 -/
  ids_range : ∀ z ∈ x.zones, z.id ≤ 1023
  /-- member lists of 1–256 ports -/
  members_some : ∀ z ∈ x.zones, z.members ≠ []
  /-- ascending, no duplicates -/
  members_ascend : ∀ z ∈ x.zones, z.members.Pairwise (· < ·)
  /-- at most 2048 memberships -/
  total_limit : membershipTotal x.zones ≤ 2048

/-- R102 and R117: what holds of the zone sets and the find buffer in every state of the ZNU. -/
structure Znu.Sound (z : Znu) : Prop where
  active_sound : z.active.Sound
  staged_sound : z.staged.Sound
  /-- the probe is a list of ascending ports -/
  buffer_ascends : z.findBuffer.Pairwise (· < ·)

/-- A zone's length in the data of a ZONE STAGE or ZONE READ: 20 + 2n bytes, 2 of padding when n is odd (section 6.3). -/
def recordLength (n : Nat) : Nat := 20 + 2 * n + (if n % 2 = 1 then 2 else 0)

/-- R118: whether a zone is a hit, by the code of the condition. -/
def findHit (code : Nat) (probe : List Port) (z : Zone) : Bool :=
  if code = 1 then probe.head?.any (fun p => z.members.contains p)
  else if code = 2 then z.members == probe
  else if code = 3 then z.members.all (fun p => probe.contains p)
  else z.members.any (fun p => probe.contains p)

/-- The number of zones of a list that hold a port (R110, R112). -/
def holdingZones (zones : List Zone) (p : Port) : Nat := zones.countP (fun z => z.members.contains p)

/-! ### The first access of a task's data (R172) -/

/-- An input task: its first piece is fetched, or its one area is read. -/
def firstRead (a : Fin 16) (w : TaskWord) : Access :=
  { req := .anchor a, kind := if w.list then .pieceFetch else .dataRead, addr := w.addr
    len := if w.list then 16 else w.count.toNat, data := [] }

/-- An output task: its first piece is fetched, or the bytes that fit its one area are written. -/
def firstWrite (a : Fin 16) (w : TaskWord) (out : List Byte) : Access :=
  let bytes := out.take w.count.toNat
  { req := .anchor a, kind := if w.list then .pieceFetch else .dataWrite, addr := w.addr
    len := if w.list then 16 else bytes.length, data := if w.list then [] else bytes }

/-- The host side once the data of the word of anchor a, just taken, is moving. -/
def HostSide.moving (h : HostSide) (a : Fin 16) (input : Bool) (w : TaskWord) : HostSide :=
  { h with
    anchors := setAt h.anchors a { h.anchors[a] with
      outstanding := .inService
      move := some { input := input, list := w.list, next := w.addr, piece := w.addr, sum := 0, moved := 0
                     last := false, jumped := false, truncated := false } } }

/-! ### The Matrix Writer (R121, R122) -/

/-- R122, R124 to R127: what holds of the MXW in every state. -/
structure Mxw.Sound (m : Mxw) : Prop where
  /-- the recompute set has no duplicates -/
  recompute_nodup : m.recompute.Nodup
  /-- the build cursor is 0–256 -/
  cursor_range : m.cursor ≤ 256
  /-- a build row that awaits its acknowledgement is one of the 256 (R131) -/
  row_in_range : ∀ b p mask n retry, m.outstanding = some { msg := .rowWrite b p mask, number := n, retry := retry } →
    m.fore = .none → m.back = .build → m.cursor < 256
  /-- with the link DOWN a full refresh is due and no work is in hand or waits -/
  down_idle : m.linkUp = false → m.fullRefresh = true ∧ m.recompute = [] ∧ m.fore = .none ∧ m.back = .none
  /-- with the link DOWN only a probe is outstanding -/
  down_probes : m.linkUp = false → ∀ o, m.outstanding = some o → o.msg = .probe
  /-- with the link UP the active bank is known, the lost mark is clear and nothing is probed -/
  up_known : m.linkUp = true → m.activeBank.isSome = true ∧ m.lost = false ∧ m.probeDue = false ∧
    (∀ ms, m.probeTimer ≠ .running ms) ∧ ∀ o, m.outstanding = some o → o.msg ≠ .probe
  /-- an item has at most 256 rows in each bank (R130) -/
  item_rows : ∀ rows, m.fore = .item rows → rows.length ≤ 512
  /-- the acknowledgement timer runs exactly while a message is outstanding -/
  ack_timer : m.ackTimer = if m.outstanding.isSome then .running 1 else .stopped

/-- R124: a new message is sent, with the current number and a fresh timer. -/
def Mxw.sending (m : Mxw) (msg : FabricMsg) : Mxw :=
  { m with
    outstanding := some { msg := msg, number := m.number, retry := false }, number := m.number + 1
    ackTimer := .running 1 }

/-- The bank other than b. -/
def bankBeside (b : Fin 2) : Fin 2 := 1 - b

/-- Row p of bank b of the shadows holds what a computed row asks for. -/
def Mxw.holds (m : Mxw) (b : Fin 2) (p : Port) (row : PortMask) : Prop := m.shadows[b][p] = some row

/-- R130: the rows of the item of port x, each with whether it is the active bank's: the affected rows under the active
set and, with a build in hand at the cursor c, those under the staged set below c. -/
def rowsDue (z : Znu) (building : Bool) (c : Nat) (x : Port) : List (Bool × Port) :=
  let affected := fun (s : ZoneSet) => (indices 256).filter (fun q => q = x ∨ (reach s x).getLsbD q.val = true)
  (affected z.active).map (fun q => (true, q)) ++
    (if building = true then ((affected z.staged).filter (fun q => q.val < c)).map (fun q => (false, q)) else [])

/-- R145: marks that bring the zoning summary into the dirty set when a figure of it has changed, and none else. -/
def SummaryMarked (old new : List PageRecord) (changed : Prop) : Prop :=
  ∃ marks, new = old ++ marks ∧ (∀ r ∈ marks, r = .zoningSummary) ∧ (changed → .zoningSummary ∈ new) ∧
    (¬ changed → marks = [])

/-- R135: what the zoning summary shows of the MXW differs. -/
def Mxw.shownApart (m n : Mxw) : Prop :=
  m.linkUp ≠ n.linkUp ∨ m.recompute.length ≠ n.recompute.length ∨ m.cursor ≠ n.cursor

/-- R120: what the zoning summary shows of the ZNU, or its commit phase, differs. -/
def Znu.shownApart (z y : Znu) : Prop :=
  z.active.gen ≠ y.active.gen ∨ z.staged.gen ≠ y.staged.gen ∨ z.active.zones.length ≠ y.active.zones.length ∨
    z.staged.zones.length ≠ y.staged.zones.length ∨ z.phase ≠ y.phase

/-- R127 to R133: nothing is in hand and nothing waits. -/
structure Mxw.Resting (m : Mxw) : Prop where
  up : m.linkUp = true
  quiet : m.outstanding = none
  fresh : m.fullRefresh = false
  caught_up : m.recompute = []
  no_item : m.fore = .none
  no_build : m.back = .none
  no_abandon : m.abandon = false

/-! ### The Alarm Table Unit (R136, R143) -/

/-- R143: the outputs follow the table. -/
structure Atu.OutputsRight (a : Atu) : Prop where
  relay_right : a.relay = true ↔ ∃ (i : Fin 64) (r : AlarmRec), a.table[i] = some r ∧ r.state = .activeUnacked ∧
    r.severity ≠ .warning
  crit_right : a.ledCrit = true ↔ ∃ (i : Fin 64) (r : AlarmRec), a.table[i] = some r ∧ r.state ≠ .clearedUnacked ∧
    r.severity = .critical
  maj_right : a.ledMaj = true ↔ ∃ (i : Fin 64) (r : AlarmRec), a.table[i] = some r ∧ r.state ≠ .clearedUnacked ∧
    r.severity = .major

/-- The number of places that hold a record for which q holds. -/
def placesWith (t : Vector (Option AlarmRec) 64) (q : AlarmRec → Bool) : Nat :=
  (indices 64).countP (fun i => t[i].any q)

/-- R136, R137, R140 and R143: what holds of the alarm table in every state of the ATU. -/
structure Atu.Sound (a : Atu) : Prop where
  /-- at most one record per kind and object -/
  one_record : ∀ (i j : Fin 64) (r q : AlarmRec), a.table[i] = some r → a.table[j] = some q →
    r.kind = q.kind → r.object = q.object → i = j
  /-- at most 63 records of kinds other than ALARM_TABLE_FULL -/
  room_kept : placesWith a.table (fun r => r.kind != .alarmTableFull) ≤ 63
  /-- the severity is the kind's -/
  severity_fixed : ∀ (i : Fin 64) (r : AlarmRec), a.table[i] = some r → r.severity = alarmSeverity r.kind
  /-- the raise count is 1–255 -/
  count_range : ∀ (i : Fin 64) (r : AlarmRec), a.table[i] = some r → 1 ≤ r.raiseCount ∧ r.raiseCount ≤ 255
  /-- the dropped count is 0–65535 -/
  dropped_range : a.dropped ≤ 65535
  outputs : a.OutputsRight

/-- i is the lowest-numbered empty place. -/
def FirstEmpty (t : Vector (Option AlarmRec) 64) (i : Fin 64) : Prop :=
  t[i] = none ∧ ∀ j : Fin 64, j < i → t[j].isSome

/-- A record just made: ACTIVE_UNACKED, raised once (R138). -/
def freshAlarm (now : Word) (k : AlarmKind) (o : Nat) : AlarmRec :=
  { kind := k, object := o, severity := alarmSeverity k, state := .activeUnacked, raiseCount := 1
    firstRaised := now, lastChange := now }

/-- A record raised once more (R138). -/
def AlarmRec.raisedAgain (r : AlarmRec) (now : Word) : AlarmRec :=
  if r.state = .clearedUnacked then
    { r with state := .activeUnacked, raiseCount := min (r.raiseCount + 1) 255, lastChange := now }
  else r

/-- What a clear leaves of a record (R139). -/
def AlarmRec.cleared (r : AlarmRec) (now : Word) : Option AlarmRec :=
  match r.state with
  | .activeUnacked => some { r with state := .clearedUnacked, lastChange := now }
  | .activeAcked => none
  | .clearedUnacked => some r

/-- What an acknowledgement leaves of a record (R142). -/
def AlarmRec.acked (r : AlarmRec) (now : Word) : Option AlarmRec :=
  match r.state with
  | .activeUnacked => some { r with state := .activeAcked, lastChange := now }
  | .activeAcked => some r
  | .clearedUnacked => none

/-- R141: the table after a removal has left t: an active ALARM_TABLE_FULL record is cleared when fewer than 56 records
remain. -/
def afterRemoval (now : Word) (t u : Vector (Option AlarmRec) 64) : Prop :=
  let full := fun (i : Fin 64) => t[i].any (fun r => r.kind == .alarmTableFull && r.state != .clearedUnacked)
  if placesWith t (fun _ => true) < 56 ∧ ∃ i, full i = true then
    ∃ (i : Fin 64) (r : AlarmRec), full i = true ∧ (∀ j, j < i → full j = false) ∧ t[i] = some r ∧
      u = setAt t i (r.cleared now)
  else u = t

/-- R144: marks for the places whose record has changed, and for the alarm summary when the number of records, the dropped
count or an output has. -/
def AlarmsMarked (old new : List PageRecord) (a b : Atu) : Prop :=
  ∃ marks, new = old ++ marks ∧ (∀ r ∈ marks, r = .alarmSummary ∨ ∃ i, r = .alarmPlace i) ∧
    (∀ i : Fin 64, .alarmPlace i ∈ marks ↔ a.table[i] ≠ b.table[i]) ∧
    (.alarmSummary ∈ marks ↔ placesWith a.table (fun _ => true) ≠ placesWith b.table (fun _ => true) ∨
      a.dropped ≠ b.dropped ∨ a.relay ≠ b.relay ∨ a.ledCrit ≠ b.ledCrit ∨ a.ledMaj ≠ b.ledMaj)

/-! ### The Status Page Writer (R145 to R147) -/

/-- In ascending page order, without duplicates. -/
def PageAscending (l : List PageRecord) : Prop := (l.map pageIndex).Pairwise (· < ·)

/-- R145, R146 and R147: what holds of the SPW in every state. -/
structure Spw.Sound (p : Spw) : Prop where
  /-- the dirty set has no duplicates and is kept in page order -/
  dirty_ascends : PageAscending p.dirty
  /-- the records of a batch are written in page order -/
  batch_ascends : match p.batch with
    | some (.oddGeneration l) | some (.records l) => PageAscending l
    | _ => True
  /-- the page generation is odd exactly in steps 1 and 2 of a batch -/
  generation_parity : p.gen.getLsbD 0 = match p.batch with
    | some (.oddGeneration _) | some (.records _) => true
    | _ => false
  /-- a batch is in progress only in ACTIVE -/
  batch_active : p.batch.isSome → p.area = .active

/-! ### The Module Line Controller (R151, R153 to R155) -/

/-- R151: what holds of the MLC in every state. -/
structure Mlc.Sound (m : Mlc) : Prop where
  /-- at most 24 entries wait -/
  queue_limit : m.queue.length ≤ 24
  /-- no two of them for the same device and command -/
  entries_differ : (m.queue.map (fun e => (e.dev, e.cmd))).Nodup
  /-- each with a request -/
  entries_serve : ∀ e ∈ m.queue, e.requests ≠ []
  /-- a transaction is in progress exactly in SENDING and AWAITING -/
  current_line : m.current.isSome ↔ m.line = .sending ∨ m.line = .awaiting
  /-- the answer timer runs exactly in AWAITING -/
  timer_line : m.answerTimer = if m.line = .awaiting then .running 5 else .stopped
  /-- a complete frame has been judged -/
  received_short : ∀ e, m.current = some e → m.received.length < 3 + answerLength e.dev e.cmd
  /-- RECOVERY ends at the tenth idle bit time -/
  idle_bits : m.idleBits < 10

/-! ### The Host Link Interface and the Anchor Engine (R166, R174) -/

/-- R166: the count that each task allows. -/
def CountRule (k : TaskKind) (n : Nat) : Prop :=
  match k with
  | .licenceInstall => n = 64
  | .powerPolicy => n = 32
  | .thermalProfile => n = 48
  | .zoneStage => n % 4 = 0
  | .zoneFindLoad => n % 2 = 0 ∧ 2 ≤ n ∧ n ≤ 512
  | .licenceReport | .zoneRead | .zoneFind => True
  | _ => n = 0

/-- A context whose chain has ended, its closing record on the way (R167, R174). -/
def AnchorCtx.ended (x : AnchorCtx) : AnchorCtx :=
  { x with
    state := .statusPending, outstanding := .record, resumePending := false, haltRequest := false, move := none
    failure := none, afterJump := false, afterRecord := .notice }

/-- The write of a closing record into bytes 16–63 of an anchor (R174). -/
def recordWrite (h : HostSide) (a : Fin 16) (r : ClosingRecord) : Access :=
  { req := .anchor a, kind := .record, addr := h.hli.base + BitVec.ofNat 64 (64 * a.val) + 16, len := 48
    data := closingBytes r }

/-- The record of a chain that ends at a word of which no data has moved. -/
def plainRecord (cls : RecordClass) (reason : Nat) (code : Byte) (completed : Word) (address : Addr) (seconds : Word)
    (d : Details) (fault : Addr) : ClosingRecord :=
  { cls := cls, reason := reason, truncated := false, code := code, completed := completed, address := address
    residual := 0, seconds := seconds, details := d, fault := fault }

/-- The fetch of the task word at an address (R166). -/
def fetchAccess (a : Fin 16) (addr : Addr) : Access :=
  { req := .anchor a, kind := .wordFetch, addr := addr, len := 16, data := [] }

/-- A context that fetches the word at an address (R166). -/
def AnchorCtx.fetching (x : AnchorCtx) (addr : Addr) (jumped : Bool) : AnchorCtx :=
  { x with
    word := some { addr := addr, content := none }, outstanding := .fetch, afterJump := jumped, move := none
    failure := none }

/-- The host side with one context replaced. -/
def HostSide.withAnchor (h : HostSide) (a : Fin 16) (x : AnchorCtx) : HostSide :=
  { h with anchors := setAt h.anchors a x }

/-- R175: the interrupt stands for the PENDING bits that the mask and the options let through. -/
def HostSide.InterruptRight (h : HostSide) : Prop :=
  h.hli.interrupt = true ↔ (h.hli.pageChanged = true ∧ h.hli.mask.getLsbD 16 = true) ∨
    ∃ a : Fin 16, h.anchors[a].notice ≠ .none ∧ h.hli.mask.getLsbD a.val = true ∧
      h.anchors[a].options.interruptOnClose = true

/-! ### Every block -/

/-- Every block is sound. -/
structure State.Sound (s : State) : Prop where
  ptu : s.ptu.Sound
  lcu : s.lcu.Sound
  pbu : s.pbu.Sound
  sls : s.sls.Sound
  clc : s.clc.Sound
  znu : s.znu.Sound
  mxw : s.mxw.Sound
  atu : s.atu.Sound
  spw : s.spw.Sound
  mlc : s.mlc.Sound
  interrupt : s.host.InterruptRight

end Sys2Proof.Machine
end

