-- ==== Sys2Proof/Certificates/Slice0/Obligations.lean ====
section
/-! DEFINITION. The statements for the provers. -/

open Sys2Proof Sys2Proof.Machine

/-! ### The machine -/

/-- A step takes the command at the front of the queue and runs it with the queue's rest; with no command waiting the part
idles, which is the model's choice (log entry 2). -/
def Obligations.StepRunsTheFrontCommand : Prop :=
  (∀ (s : State) (c : Instr) (rest : List Instr),
    s.pending = c :: rest → step s = exec c { s with pending := rest }) ∧
  ∀ s : State, s.pending = [] → step s = .next s

/-- Every command completes in every state, and none changes the queue of the commands that wait: the book gives each event
that the part takes an effect, and one whose message or timer is absent has none (log entry 1). -/
def Obligations.EveryCommandCompletes : Prop :=
  ∀ (c : Instr) (s : State), ∃ t, exec c s = .next t ∧ t.pending = s.pending

/-- After power-on reset (R2, R34, R40, R45, R50, R51, R56, R61, R81, R82, R91, R102, R117, R122, R126, R136, R146, R151,
R156, R158, R160, R161 and R164) every block is sound and holds the values the book states: no port enabled, no slot,
bay or tray seen, D at the default Wb, every duty 100, both zone sets empty, the link DOWN with a first PROBE sent, the
table of alarms empty, every anchor IDLE. The Licence Store and the lines are the model's choice (log entry 4). -/
def Obligations.ResetIsSoundAndHoldsTheStatedValues : Prop :=
  let s := State.reset
  s.Sound ∧
  (∀ q : Port, s.ptu.ports[q] =
    { state := .disabled, reqTier := .t1, seat := none, reason := .hostDisable, zoneCount := 0 }) ∧
  s.ptu.waitList = [] ∧ s.ptu.claim = none ∧ s.ptu.held = { t1 := 0, t2 := 0, t3 := 0 } ∧
  s.ptu.granted = { t1 := 0, t2 := 0, t3 := 0 } ∧
  (∀ i : Slot, s.ptu.view[i] = { state := .empty, maxTier := none }) ∧
  s.lcu.freeze = false ∧ s.lcu.failedInstalls = 0 ∧ s.lcu.withdrawal = .idle ∧ s.lcu.storeQueue = [] ∧
  (∀ b : Fin 4, s.pbu.modules[b].state = .absent ∧ s.pbu.modules[b].available = 0) ∧
  s.pbu.policy = { mode := .nPlus1, wb := 150, port := { t1 := 4, t2 := 5, t3 := 7 }, grace := 5, idle := 0 } ∧
  (∀ i : Slot, s.pbu.slots[i] =
    { standing := .unpowered, ws := 0, wsb := 0, priority := 4, shedPending := false, ports := [] }) ∧
  s.pbu.usable = 0 ∧ s.pbu.demand = 150 ∧ s.pbu.hold = true ∧ s.pbu.budget = .within ∧
  (∀ i : Slot, s.sls.slots[i].state = .empty ∧ s.sls.slots[i].inventory = none ∧ s.sls.slots[i].priority = 4 ∧
    s.sls.slots[i].autoOn = true ∧ s.sls.slots[i].inUse = false ∧ s.sls.slots[i].cause = .none ∧
    s.sls.slots[i].railEn = Vector.replicate 3 false) ∧
  (∀ z : Fin 3, s.clc.profile[z] = { tlow := 30, thigh := 50, dmin := 30, dmax := 90, twarn := 55, tcrit := 65 } ∧
    s.clc.zones[z] = { tz := none, duty := 100, boosted := true, high := false, thermal := .clear, holdTimer := .stopped }) ∧
  (∀ n : Fin 8, s.clc.sensors[n] = { state := .ok, value := 25, readOutstanding := false, staleReads := 0 }) ∧
  (∀ t : Fin 6, s.clc.trays[t].state = .absent ∧ s.clc.trays[t].pwmLatch = 1000) ∧
  s.znu.active = { access := .none, gen := 0, zones := [] } ∧ s.znu.staged = s.znu.active ∧ s.znu.findBuffer = [] ∧
  s.znu.phase = .idle ∧
  s.mxw.linkUp = false ∧ s.mxw.lost = false ∧ s.mxw.activeBank = none ∧ s.mxw.fullRefresh = true ∧
  (∀ (b : Fin 2) (p : Port), s.mxw.shadows[b][p] = none) ∧
  s.mxw.outstanding = some { msg := .probe, number := 0, retry := false } ∧
  (∀ i : Fin 64, s.atu.table[i] = none) ∧ s.atu.dropped = 0 ∧
  s.spw.dirty = [] ∧ s.spw.gen = 0 ∧ s.spw.area = .unset ∧
  s.mlc.line = .idle ∧ s.mlc.queue = [] ∧
  s.tb.seconds = 0 ∧ s.tb.hourCount = 0 ∧ (∀ i : Fin 8, s.tb.slots[i].reported = none) ∧
  s.host.hli.ready = false ∧ s.host.hli.base = 0 ∧ s.host.hli.mask = 0 ∧ s.host.hli.interrupt = false ∧
  ∀ a : Fin 16, s.host.anchors[a].state = .idle ∧ s.host.anchors[a].notice = .none ∧ s.host.anchors[a].completed = 0

/-! ### What every step keeps -/

/-- R1, R5, R34 to R36, R22, R24 and R25. In every state that a step reaches from a sound one the held counts are the
numbers of seated ports, the wait list is exactly the UNSEATED ports, each once, a port is seated exactly while
IN_SERVICE or PARKED, with a seat not below its tier, and IN_SERVICE exactly where its slot is ONLINE; no cell waits
twice for the store, and Gk is the sum of the seats of the VALID cells. -/
def Obligations.EveryStepKeepsPortsAndLicencesSound : Prop :=
  ∀ s t : State, step s = .next t → (s.ptu.Sound → t.ptu.Sound) ∧ (s.lcu.Sound → t.lcu.Sound)

/-- R47, R48, R50, R51, R54 and R57. In every state that a step reaches from a sound one the available watts, U and D are
the figures of their rules, WITHIN holds exactly while H ≥ 0 or the start-up hold stands, the two timers of the
over-budget machine run in their states alone, and each port list names ports of its own slot, once. -/
def Obligations.EveryStepKeepsTheBudgetSound : Prop :=
  ∀ s t : State, s.pbu.Sound → step s = .next t → t.pbu.Sound

/-- R61, R62, R66, R68 and R71. In every state that a step reaches from a sound one each slot drives the rails of its state,
ramps only in POWERING, identifies only in IDENTIFYING, holds a fault cause only in FAULT, and runs its idle timer
exactly while it is ONLINE, not in use and the idle time is not 0. -/
def Obligations.EveryStepKeepsTheSlotsSound : Prop :=
  ∀ s t : State, s.sls.Sound → step s = .next t → t.sls.Sound

/-- R81 to R83, R85, R88 to R92, R94, R97 and R100. In every state that a step reaches from a sound one the profile is in
range and order, a zone is boosted exactly while the condition of R89 holds and its duty is then 100, no duty falls
below Dmin, each width latch holds 10 × its duty, and rotors and stall timers follow their trays. -/
def Obligations.EveryStepKeepsTheCoolingSound : Prop :=
  ∀ s t : State, s.clc.Sound → step s = .next t → t.clc.Sound

/-- R102, R117, R122 and R124 to R127. In every state that a step reaches from a sound one both zone sets keep their limits
and their order, the probe ascends, the recompute set has no duplicates, the link is UP only with a known active bank,
nothing but a PROBE is sent while it is DOWN, and the acknowledgement timer runs exactly while a message is outstanding. -/
def Obligations.EveryStepKeepsZonesAndMatrixSound : Prop :=
  ∀ s t : State, step s = .next t → (s.znu.Sound → t.znu.Sound) ∧ (s.mxw.Sound → t.mxw.Sound)

/-- R136, R140, R143, R145 to R147, R151, R153, R154 and R175. In every state that a step reaches from a sound one the alarm
table holds at most one record for each kind and object and keeps the place of ALARM_TABLE_FULL, the relay and the LEDs
follow it, the page generation is odd exactly in steps 1 and 2 of a batch, the module line serves each device and command
once, and the interrupt stands for the PENDING bits. -/
def Obligations.EveryStepKeepsAlarmsPageLineAndInterruptSound : Prop :=
  ∀ s t : State, step s = .next t → (s.atu.Sound → t.atu.Sound) ∧ (s.spw.Sound → t.spw.Sound) ∧
    (s.mlc.Sound → t.mlc.Sound) ∧ (s.host.InterruptRight → t.host.InterruptRight)

/-! ### Host Link Interface and Anchor Engine -/

/-- R161, R162, R149, R163, R171 and R175: a base write is answered BUSY unless every anchor is IDLE; that of the high
half makes the base known to the SPW; a mask write takes effect at once; a write to a read-only register does nothing;
an action is judged by part state, code and anchor; PAGE SEEN clears the page-changed bit, and ACCEPT a notice. That the
code and not the command's name decides is the model's reading (log entry 16), and so are the even generation of a batch
cut short (log entry 25) and the current word that an ACCEPT of a closing notice clears (log entry 18). -/
def Obligations.RegisterWritesAreTaken : Prop :=
  (∀ (s : State) (v : Word) (r : ReadOnlyRegister),
    let h := s.host.hli
    let answer := fun (x : Hli) (o : ActionOutcome) => { x with result := { code := 0, anchor := 0, result := o } }
    let idle := ∀ a : Fin 16, s.host.anchors[a].state = .idle
    let base : Addr := v ++ h.areaLow
    exec (.readOnlyRegisterWrite r v) s = .next s ∧
    (¬ idle → exec (.areaBaseLowWrite v) s = .next { s with host := { s.host with hli := answer h .busy } } ∧
      exec (.areaBaseHighWrite v) s = .next { s with host := { s.host with hli := answer h .busy } }) ∧
    (idle → exec (.areaBaseLowWrite v) s = .next { s with
        host := { s.host with hli := answer { h with areaLow := v &&& 0xFFFFC000 } .done } } ∧
      exec (.areaBaseHighWrite v) s = .next { s with
        host := { s.host with hli := answer { h with areaHigh := v, base := base } .done }
        spw := { s.spw with
          batch := none, dirty := allPageRecords, area := if base = 0 then .unset else .active
          gen := if s.spw.batch.isSome ∧ s.spw.gen.getLsbD 0 = true then s.spw.gen + 1 else s.spw.gen }
        bus := { s.bus with accesses := s.bus.accesses.filter (fun x => x.req != .spw) } }) ∧
    (∃ t, exec (.interruptMaskWrite v) s = .next t ∧
      t = { s with host := { s.host with
        hli := { h with mask := v.setWidth 17, interrupt := t.host.hli.interrupt } } } ∧ t.host.InterruptRight)) ∧
  (∀ (s : State) (w : Word),
    let h := s.host.hli
    let code := w.toNat % 256
    let number := w.toNat / 256 % 256
    let answer := fun (o : ActionOutcome) =>
      { h with result := { code := BitVec.ofNat 8 code, anchor := BitVec.ofNat 8 number, result := o } }
    let answered := fun (o : ActionOutcome) => { s with host := { s.host with hli := answer o } }
    (∀ c ∈ [Instr.start w, .resume w, .halt w, .accept w, .pageSeen w],
      (h.ready = false → exec c s = .next (answered .notReady)) ∧
      (h.ready = true → (code = 0 ∨ 5 < code) → exec c s = .next (answered .badAction)) ∧
      (h.ready = true → 1 ≤ code → code ≤ 4 → 16 ≤ number → exec c s = .next (answered .badAnchor))) ∧
    (h.ready = true → code = 5 → ∃ t, exec (.pageSeen w) s = .next t ∧ t = { s with host := { s.host with
      hli := { answer .done with pageChanged := false, interrupt := t.host.hli.interrupt } } } ∧
      t.host.InterruptRight) ∧
    (h.ready = true → code = 4 → ∀ a : Fin 16, number = a.val →
      let x := s.host.anchors[a]
      let o := if x.notice = .none then ActionOutcome.noStatus else if x.recordLost then .recordLost else .done
      (x.notice = .none → exec (.accept w) s = .next (answered o)) ∧
      (x.notice ≠ .none → ∃ t, exec (.accept w) s = .next t ∧ t = { s with host := {
        hli := { answer o with interrupt := t.host.hli.interrupt }
        anchors := setAt s.host.anchors a (if x.notice = .closing
          then { x with notice := .none, recordLost := false, state := .idle, word := none }
          else { x with notice := .none, recordLost := false }) } } ∧ t.host.InterruptRight)))

/-- R165, R169 and R170: START of an IDLE anchor with a base reads its request bytes; RESUME of a SUSPENDED one fetches
its word again and of a running one sets resume-pending; HALT ends a waiting or suspended word with a HALTED record that
says NOT_STARTED, makes one in service HALTING, and sets the halt request of one being fetched; an APPLY before its bank
switch is told to abandon, once, also while its build request is still on its way. Log entries 17, 18, 21, 46 and 55 name
the model's choices: RESUME while the suspension record is being written, what START clears, the fields of a record
without a fetched word, the abandon request that waits for its build request, and that a word taken from the PTU's queue
keeps no place among the inputs that the PTU holds. -/
def Obligations.StartResumeAndHaltActByTheState : Prop :=
  ∀ (s : State) (w : Word) (a : Fin 16), s.host.hli.ready = true → w.toNat / 256 % 256 = a.val →
    let code := w.toNat % 256
    let x := s.host.anchors[a]
    let answer := fun (o : ActionOutcome) =>
      { s.host.hli with result := { code := BitVec.ofNat 8 code, anchor := BitVec.ofNat 8 a.val, result := o } }
    let answered := fun (o : ActionOutcome) (y : AnchorCtx) =>
      { s with host := { hli := answer o, anchors := setAt s.host.anchors a y } }
    let with' := fun (t : State) (y : AnchorCtx) (b : Bus) => t = { s with
      host := { hli := { answer .done with interrupt := t.host.hli.interrupt }, anchors := setAt s.host.anchors a y }
      bus := b }
    let notStarted := fun (word : CurrentWord) (c : TaskWord) => recordWrite s.host a
      (plainRecord .halted 0 c.code x.completed word.addr s.tb.seconds (details 7 0 0 0) 0)
    (code = 1 →
      (x.state ≠ .idle → exec (.start w) s = .next (answered .busy x)) ∧
      (x.state = .idle → s.host.hli.base = 0 → exec (.start w) s = .next (answered .noArea x)) ∧
      (x.state = .idle → s.host.hli.base ≠ 0 → exec (.start w) s = .next { answered .done { x with
          state := .active, completed := 0, resumePending := false, haltRequest := false, outstanding := .fetch
          word := none, move := none, failure := none, afterJump := false, afterRecord := .notice } with
        bus := { s.bus with accesses := s.bus.accesses ++ [{
          req := .anchor a, kind := .anchorRead, addr := s.host.hli.base + BitVec.ofNat 64 (64 * a.val), len := 16
          data := [] }] } })) ∧
    (code = 2 →
      (x.state = .idle ∨ x.state = .statusPending → exec (.resume w) s = .next (answered .notSuspended x)) ∧
      (x.state = .active ∨ x.state = .halting →
        exec (.resume w) s = .next (answered .done { x with resumePending := true })) ∧
      (∀ word, x.state = .suspended → x.word = some word → ∃ t, exec (.resume w) s = .next t ∧
        (x.outstanding = .record →
          with' t { x with state := .active, notice := .none, afterRecord := .refetch } s.bus) ∧
        (x.outstanding ≠ .record →
          with' t { x with state := .active, notice := .none, outstanding := .fetch, afterRecord := .notice }
            { s.bus with accesses := s.bus.accesses ++ [fetchAccess a word.addr] }))) ∧
    (code = 3 →
      (x.state = .halting ∨ x.state = .idle ∨ x.state = .statusPending →
        exec (.halt w) s = .next (answered .noEffect x)) ∧
      (x.state = .active → x.outstanding = .fetch →
        exec (.halt w) s = .next (answered .done { x with haltRequest := true })) ∧
      (x.state = .active → x.outstanding = .inService → s.bus.servingOf a ≠ some .znu →
        exec (.halt w) s = .next (answered .done { x with state := .halting })) ∧
      (x.state = .active → x.outstanding = .inService → s.bus.servingOf a = some .znu →
        s.znu.phase ≠ .building ∨ s.znu.abandonSent = true →
        exec (.halt w) s = .next (answered .done { x with state := .halting })) ∧
      (x.state = .active → x.outstanding = .inService → s.bus.servingOf a = some .znu → s.znu.phase = .building →
        s.znu.abandonSent = false → s.mxw.outstanding ≠ none ∨ s.mxw.linkUp = false ∨ s.mxw.Resting →
        exec (.halt w) s = .next { answered .done { x with state := .halting } with
          znu := { s.znu with abandonSent := true }
          mxw := { s.mxw with
            abandon := s.mxw.abandon || decide (s.mxw.back = .build ∨ ZnuToMxw.build ∈ s.bus.znuMxw) } }) ∧
      (∀ word c, x.word = some word → word.content = some c → x.move = none →
        (x.state = .active → x.outstanding = .queued → exec (.halt w) s = .next { answered .done x.ended with
          ptu := { s.ptu with heldInputs :=
            if (s.bus.station .ptu).queue.head?.map (fun e => e.1) = some a
            then s.ptu.heldInputs.filter (fun h => h ≠ .task) else s.ptu.heldInputs }
          bus := { s.bus with
            stations := s.bus.stations.map (fun st => { st with queue := st.queue.filter (fun e => e.1 != a) })
            accesses := s.bus.accesses ++ [notStarted word c] } }) ∧
        (x.state = .suspended → x.outstanding = .none → ∃ t, exec (.halt w) s = .next t ∧
          with' t { x.ended with notice := .none }
            { s.bus with accesses := s.bus.accesses ++ [notStarted word c] })))

/-- R165, R166, R167 and R168: the request bytes give the options and the chain address; a fetched word is judged by its
SUSPEND flag, its code, its count and its address, in that order; JUMP and NOTE are served at once, and every other word
joins the intake queue of its block. The zero code and address of a record without a fetched word, the wrap of
addresses, and that a JUMP fetched as the target of a JUMP is not judged by its own data address, are the model's (log
entries 21, 36 and 59). -/
def Obligations.FetchedWordsAreJudgedInOrder : Prop :=
  (∀ (s : State) (a : Fin 16) (bytes : Vector Byte 16) (acc : Access) (pre post : List Access),
    s.bus.accesses = pre ++ acc :: post → acc.req = .anchor a → acc.kind = .anchorRead →
    (∀ y ∈ pre, y.req ≠ .anchor a) → s.host.anchors[a].word = none → s.host.anchors[a].outstanding = .fetch →
    s.host.anchors[a].move = none →
    let chain : Addr := BitVec.ofNat 64 (field bytes.toList 0 8)
    let x := { s.host.anchors[a] with
      outstanding := InFlight.none
      options := {
        interruptOnClose := bytes[8].getLsbD 0, suspendAllowed := bytes[8].getLsbD 1
        quietSuspend := bytes[8].getLsbD 2 } }
    let becomes := fun (y : AnchorCtx) (next : Access) => ∃ t, exec (.anchorReadDone a bytes) s = .next t ∧ t = { s with
      host := { hli := { s.host.hli with interrupt := t.host.hli.interrupt }, anchors := setAt s.host.anchors a y }
      bus := { s.bus with accesses := pre ++ post ++ [next] } } ∧ t.host.InterruptRight
    let ends := fun (cls : RecordClass) (reason : Nat) (d : Details) =>
      becomes x.ended (recordWrite s.host a (plainRecord cls reason 0 x.completed 0 s.tb.seconds d 0))
    (x.haltRequest = true → ends .halted 0 (details 7 0 0 0)) ∧
    (x.haltRequest = false → chain.toNat % 16 ≠ 0 → ends .format (reasonCode .misaligned) .zero) ∧
    (x.haltRequest = false → chain.toNat % 16 = 0 → becomes (x.fetching chain false) (fetchAccess a chain))) ∧
  (∀ (s : State) (a : Fin 16) (bytes : Vector Byte 16) (acc : Access) (pre post : List Access) (at' : CurrentWord),
    s.bus.accesses = pre ++ acc :: post → acc.req = .anchor a → acc.kind = .wordFetch →
    (∀ y ∈ pre, y.req ≠ .anchor a) → s.host.anchors[a].word = some at' → s.host.anchors[a].outstanding = .fetch →
    s.host.anchors[a].move = none →
    let w := taskWordOf bytes.toList
    let n := w.count.toNat
    let x := { s.host.anchors[a] with word := some { at' with content := some w }, outstanding := InFlight.none }
    let bus := { s.bus with accesses := pre ++ post }
    let becomes := fun (y : AnchorCtx) (b : Bus) =>
      exec (.wordFetchDone a bytes) s = .next { s with host := s.host.withAnchor a y, bus := b }
    let more := fun (l : List Access) => { bus with accesses := pre ++ post ++ l }
    let record := fun (cls : RecordClass) (reason : Nat) (completed : Word) (d : Details) =>
      recordWrite s.host a (plainRecord cls reason w.code completed at'.addr s.tb.seconds d 0)
    let fails := fun (r : Reason) => becomes x.ended (more [record .format (reasonCode r) x.completed .zero])
    (x.haltRequest = true → becomes x.ended (more [record .halted 0 x.completed (details 7 0 0 0)])) ∧
    (x.haltRequest = false → w.suspend = true → x.resumePending = false →
      (x.options.suspendAllowed = false → fails .suspendNotAllowed) ∧
      (x.options.suspendAllowed = true → x.options.quietSuspend = true → becomes { x with state := .suspended } bus) ∧
      (x.options.suspendAllowed = true → x.options.quietSuspend = false →
        becomes { x with state := .suspended, outstanding := .record, afterRecord := .notice }
          (more [record .suspended 0 x.completed .zero]))) ∧
    (x.haltRequest = false → w.suspend = false ∨ x.resumePending = true →
      let y := { x with resumePending := if w.suspend = true then false else x.resumePending }
      let counted := { y with completed := y.completed + 1 }
      (taskKindOf w.code = none → fails .unknownTask) ∧
      (∀ k, taskKindOf w.code = some k →
        (¬ CountRule k n → fails .countInvalid) ∧
        (CountRule k n → n ≠ 0 → w.list = true → w.addr.toNat % 16 ≠ 0 → fails .misaligned) ∧
        (CountRule k n → n ≠ 0 → w.list = false → 4096 < w.addr.toNat % 4096 + n → fails .areaCrosses) ∧
        (CountRule k n →
          (n = 0 ∨ (w.list = true ∧ w.addr.toNat % 16 = 0) ∨ (w.list = false ∧ w.addr.toNat % 4096 + n ≤ 4096)) →
          (k = .jump →
            (x.afterJump = true → fails .jumpToJump) ∧
            (x.afterJump = false → w.addr.toNat % 16 ≠ 0 → fails .misaligned) ∧
            (x.afterJump = false → w.addr.toNat % 16 = 0 → x.completed ≠ 0xFFFFFFFF →
              becomes (counted.fetching w.addr true) (more [fetchAccess a w.addr]))) ∧
          (k = .note → x.completed ≠ 0xFFFFFFFF →
            (w.chain = true →
              becomes (counted.fetching (at'.addr + 16) false) (more [fetchAccess a (at'.addr + 16)])) ∧
            (w.chain = false → becomes counted.ended
              (more [record .normal 0 counted.completed { w0 := w.param, w1 := 0, w2 := 0, w3 := 0 }]))) ∧
          (∀ v, serverOf k = some v → becomes { y with outstanding := .queued, afterJump := false }
            (bus.setStation v { s.bus.station v with queue := (s.bus.station v).queue ++ [(a, w)] }))))))

/-- R167, R170, R173 and R174: a NORMAL outcome counts the word and goes on to the next one under CHAIN, and ends the
chain without; a refusal and a failed movement end it uncounted; in HALTING every outcome ends it HALTED; a detached
outcome is discarded. The end of a record's write sets the notice, and a failed one the record lost mark with it; a
failed fetch ends the chain with MEMORY_FAULT. The residual is the count less the bytes moved, which are those that the
block had taken where it ended the task before its data was used up (R173). The residual of a word whose data no block
moved, the fields of a record without a fetched word and the wrap of addresses are the model's (log entries 20, 21 and
36). -/
def Obligations.OutcomesAndRecordsEndTheChain : Prop :=
  (∀ (s : State) (v : Server) (o : OutcomeMsg) (pre post : List OutcomeMsg),
    s.bus.outcomes = pre ++ o :: post → o.server = v → (∀ q ∈ pre, q.server ≠ v) →
    let bus := { s.bus with outcomes := pre ++ post }
    (o.anchor = none → exec (.taskOutcome v) s = .next { s with bus := bus }) ∧
    (∀ (a : Fin 16) (at' : Addr) (w : TaskWord), o.anchor = some a →
      s.host.anchors[a].word = some { addr := at', content := some w } →
      s.host.anchors[a].outstanding = .inService → s.host.anchors[a].completed ≠ 0xFFFFFFFF →
      let x := s.host.anchors[a]
      let counted := { x with completed := if o.cls = OutcomeClass.normal ∧ x.failure = none then x.completed + 1 else x.completed }
      let ends := fun (cls : RecordClass) (reason : Nat) (d : Details) (fault : Addr) =>
        exec (.taskOutcome v) s = .next { s with
          host := s.host.withAnchor a counted.ended
          bus := { bus with accesses := s.bus.accesses ++ [recordWrite s.host a {
            cls := cls, reason := reason, code := w.code, completed := counted.completed, address := at'
            truncated := x.move.any (fun m => m.truncated)
            residual := (x.move.map (fun m => w.count.toNat - o.taken.getD m.moved)).getD 0
            seconds := s.tb.seconds, details := d, fault := fault }] } }
      (x.state = .active → x.failure = none → o.cls = .normal →
        (w.chain = true → exec (.taskOutcome v) s = .next { s with
          host := s.host.withAnchor a (counted.fetching (at' + 16) false)
          bus := { bus with accesses := s.bus.accesses ++ [fetchAccess a (at' + 16)] } }) ∧
        (w.chain = false → ends .normal 0 o.details 0)) ∧
      (∀ r, x.state = .active → x.failure = none → o.cls = .refused r → ends .refused (reasonCode r) o.details 0) ∧
      (∀ r addr, x.state = .active → x.failure = some { reason := some r, address := addr } →
        ends .format (reasonCode r) o.details addr) ∧
      (∀ addr, x.state = .active → x.failure = some { reason := none, address := addr } →
        ends .memoryFault 0 o.details addr) ∧
      (x.state = .halting → x.failure = none →
        (o.cls = .normal → ends .halted 0 { o.details with w0 := 0 } 0) ∧
        (∀ r, o.cls = .refused r → ends .halted (reasonCode r) { o.details with w0 := 1 } 0) ∧
        (o.cls = .abandoned → ends .halted 0 { o.details with w0 := 6 } 0)))) ∧
  (∀ (s : State) (a : Fin 16) (c : Instr) (acc : Access) (pre post : List Access),
    s.bus.accesses = pre ++ acc :: post → acc.req = .anchor a → (∀ y ∈ pre, y.req ≠ .anchor a) →
    let x := s.host.anchors[a]
    let lost := c = .hostAccessFailed (.anchor a) ∨ c = .hostAccessTimeout (.anchor a)
    (c = .recordWriteDone a ∨ lost → acc.kind = .record → x.afterRecord = .notice →
      x.state = .statusPending ∨ x.state = .suspended → ∃ t, exec c s = .next t ∧ t = { s with
        host := {
          hli := { s.host.hli with interrupt := t.host.hli.interrupt }
          anchors := setAt s.host.anchors a { x with
            outstanding := .none, recordLost := x.recordLost || decide lost
            notice := if x.state = .suspended then .suspension else .closing } }
        bus := { s.bus with accesses := pre ++ post } } ∧ t.host.InterruptRight) ∧
    (lost → acc.kind = .wordFetch → x.outstanding = .fetch → x.move = none → ∀ at' : CurrentWord, x.word = some at' →
      at'.content = none → exec c s = .next { s with
        host := s.host.withAnchor a x.ended
        bus := { s.bus with accesses := pre ++ post ++ [recordWrite s.host a (if x.haltRequest = true
          then plainRecord .halted 0 0 x.completed 0 s.tb.seconds (details 7 0 0 0) 0
          else plainRecord .memoryFault 0 0 x.completed 0 s.tb.seconds .zero acc.addr)] } }))

/-- R172 and R173: a transferring piece of 1 to 4096 bytes within a page and within the count moves its bytes, a SKIP
passes over output, and a JUMP gives control to the piece at its target. Bytes read are handed to the block; bytes written
leave the rest; the next piece is fetched while data remains. An output that is written or passed over whole, or that has
reached its count, ends its task NORMAL, with the details of LICENCE REPORT (R30), ZONE READ (R116) or ZONE FIND (R119), and
TRUNCATED set when data was left. The delivery stops at an access that fails or is not completed, at a piece that breaks a
rule (a count or an area out of range, a sum above the count, a JUMP to a JUMP, with a count or a flag or to no multiple of
16, a SKIP of input), and at the end of a LAST piece with the count not reached; the anchor keeps the reason and the
address, and the block ends its task: a LICENCE INSTALL with no check made (R26), a POWER POLICY (R46) and a THERMAL PROFILE
(R83) with nothing changed, a ZONE STAGE with the records applied kept (R108), a ZONE FIND LOAD with the find buffer as it
was (R117), a ZONE FIND with the hits delivered counted (R119), a LICENCE REPORT and a ZONE READ with the details for what
was moved. Which of two broken rules of one piece is reported, the wrap of addresses, that bytes passed over count in
details, the details of a stopped report or read, those of a stopped install, and the zones that a stopped search has
examined are the model's (log entries 19, 66, 36, 49, 7 and 9). -/
def Obligations.DataMovesPieceByPiece : Prop :=
  ∀ (s : State) (a : Fin 16) (v : Server) (sv : Service) (m : Movement) (acc : Access) (pre post : List Access),
    s.bus.accesses = pre ++ acc :: post → acc.req = .anchor a → (∀ y ∈ pre, y.req ≠ .anchor a) →
    s.bus.servingOf a = some v → s.bus.service v = some sv → s.host.anchors[a].move = some m →
    let count := sv.word.count.toNat
    let station := fun (b : Bus) (sv' : Service) => b.setStation v { s.bus.station v with service := some sv' }
    let bus := fun (l : List Access) => { s.bus with accesses := pre ++ post ++ l }
    let moving := fun (m' : Movement) => s.host.withAnchor a { s.host.anchors[a] with move := some m' }
    let fetch := fun (addr : Addr) =>
      ({ req := .anchor a, kind := .pieceFetch, addr := addr, len := 16, data := [] } : Access)
    let broken := fun (d : DataPiece) =>
      let n := d.count.toNat
      if d.jump then
        if m.jumped then some Reason.jumpToJump
        else if n ≠ 0 ∨ d.last = true ∨ d.skip = true then some .pieceInvalid
        else if d.addr.toNat % 16 ≠ 0 then some .misaligned else none
      else if d.skip then
        if m.input then some .skipOnInput else if n = 0 then some .pieceInvalid
        else if count < m.sum + n then some .pieceOverrun else none
      else if n = 0 ∨ 4096 < n ∨ 4096 < d.addr.toNat % 4096 + n then some .pieceInvalid
      else if count < m.sum + n then some .pieceOverrun else none
    let reportWords := fun (n moved : Nat) =>
      details n (moved / 72) s.lcu.failedInstalls (if s.lcu.freeze then 1 else 0)
    let readWords := fun (n : SetName) (moved : Nat) =>
      let x := if n = .active then s.znu.active else s.znu.staged
      let whole := fun (j : Nat) => 16 + ((x.zones.take (j + 1)).map (fun z => recordLength z.members.length)).sum
      ({ w0 := x.gen, w1 := BitVec.ofNat 32 x.zones.length, w2 := BitVec.ofNat 32 (membershipTotal x.zones)
         w3 := BitVec.ofNat 32 ((List.range x.zones.length).countP (fun j => decide (whole j ≤ moved))) } : Details)
    let findWords := fun (start zones n hits : Nat) =>
      details n hits (if n = 0 then 65535 else start + n - 1) (if zones ≤ start + n then 1 else 0)
    (∀ bytes : Vector Byte 16, acc.kind = .pieceFetch →
      let d := dataPieceOf bytes.toList
      let n := d.count.toNat
      let m' := { m with piece := acc.addr, next := acc.addr + 16, last := d.last }
      broken d = none →
      (d.jump = false → d.skip = false → m.input = true → exec (.pieceFetchDone a bytes) s = .next { s with
        host := moving { m' with sum := m.sum + n }
        bus := bus [{ req := .anchor a, kind := .dataRead, addr := d.addr, len := n, data := [] }] }) ∧
      (d.jump = false → d.skip = false → m.input = false → exec (.pieceFetchDone a bytes) s = .next { s with
        host := moving { m' with sum := m.sum + n }
        bus := bus [{
          req := .anchor a, kind := .dataWrite, addr := d.addr, len := (sv.output.take n).length
          data := sv.output.take n }] }) ∧
      (d.jump = true → exec (.pieceFetchDone a bytes) s = .next { s with
        host := moving { m' with next := d.addr, jumped := true }, bus := bus [fetch d.addr] }) ∧
      (d.jump = false → d.skip = true → n < sv.output.length → d.last = false → m.moved + n < count →
        exec (.pieceFetchDone a bytes) s = .next { s with
          host := moving { m' with sum := m.sum + n, moved := m.moved + n, jumped := false }
          bus := station (bus [fetch (acc.addr + 16)]) { sv with output := sv.output.drop n } })) ∧
    (∀ bytes : List Byte, acc.kind = .dataRead → bytes.length = acc.len → m.input = true →
      let m' := { m with moved := m.moved + bytes.length }
      let sv' := { sv with input := sv.input ++ bytes }
      (count ≤ m'.moved → exec (.dataReadDone a bytes) s = .next { s with
        host := moving m', bus := station (bus []) sv' }) ∧
      (m'.moved < count → m.last = false → exec (.dataReadDone a bytes) s = .next { s with
        host := moving { m' with jumped := false }, bus := station (bus [fetch m.next]) sv' })) ∧
    (acc.kind = .dataWrite → m.input = false →
      let m' := { m with moved := m.moved + acc.len }
      let rest := sv.output.drop acc.len
      rest ≠ [] → m'.moved < count → m.last = false → exec (.dataWriteDone a) s = .next { s with
        host := moving { m' with jumped := false }
        bus := station (bus [fetch m.next]) { sv with output := rest } }) ∧
    (∀ (c : Instr) (k : Nat) (m' : Movement), m.input = false →
      (c = .dataWriteDone a ∧ acc.kind = .dataWrite ∧ k = acc.len ∧ m' = { m with moved := m.moved + k }) ∨
        (∃ bytes : Vector Byte 16, c = .pieceFetchDone a bytes ∧ acc.kind = .pieceFetch ∧
          let d := dataPieceOf bytes.toList
          d.jump = false ∧ d.skip = true ∧ broken d = none ∧ k = d.count.toNat ∧
          m' = { m with
            piece := acc.addr, next := acc.addr + 16, last := d.last, sum := m.sum + k
            moved := m.moved + min k sv.output.length }) →
      let rest := sv.output.drop k
      rest = [] ∨ count ≤ m'.moved →
      let ends := fun (u : State) (words : Details) => exec c s = .next { u with
        host := moving { m' with truncated := m.truncated || decide (rest ≠ []) }
        bus := (bus []).closeNormal v words }
      (∀ n, v = .lcu → s.lcu.task = .reporting n →
        ends { s with lcu := { s.lcu with task := .idle } } (reportWords n m'.moved)) ∧
      (∀ n, v = .znu → s.znu.task = .reading n →
        ends { s with znu := { s.znu with task := .idle } } (readWords n m'.moved)) ∧
      (∀ start zones examined places, v = .znu → s.znu.task = .finding start zones examined places →
        ends { s with znu := { s.znu with task := .idle } } (findWords start zones examined places.length))) ∧
    (∀ (c : Instr) (reason : Option Reason) (addr : Addr) (moved : Nat) (input : List Byte),
      ((c = .hostAccessFailed (.anchor a) ∨ c = .hostAccessTimeout (.anchor a)) ∧
          (acc.kind = .pieceFetch ∨ acc.kind = .dataRead ∨ acc.kind = .dataWrite) ∧
          reason = none ∧ addr = acc.addr ∧ moved = m.moved ∧ input = sv.input) ∨
        (∃ bytes : Vector Byte 16, c = .pieceFetchDone a bytes ∧ acc.kind = .pieceFetch ∧ addr = acc.addr ∧
          input = sv.input ∧
          let d := dataPieceOf bytes.toList
          let n := d.count.toNat
          (broken d ≠ none ∧ reason = broken d ∧ moved = m.moved) ∨
            (broken d = none ∧ d.jump = false ∧ d.skip = true ∧ d.last = true ∧ n < sv.output.length ∧
              m.moved + n < count ∧ m.sum + n < count ∧ reason = some .pieceShort ∧ moved = m.moved + n)) ∨
        (∃ bytes : List Byte, c = .dataReadDone a bytes ∧ acc.kind = .dataRead ∧ bytes.length = acc.len ∧
          m.input = true ∧ m.last = true ∧ m.moved + acc.len < count ∧ m.sum < count ∧
          reason = some .pieceShort ∧ addr = m.piece ∧ moved = m.moved + acc.len ∧ input = sv.input ++ bytes) ∨
        (c = .dataWriteDone a ∧ acc.kind = .dataWrite ∧ m.input = false ∧ m.last = true ∧
          acc.len < sv.output.length ∧ m.moved + acc.len < count ∧ m.sum < count ∧
          reason = some .pieceShort ∧ addr = m.piece ∧ moved = m.moved + acc.len ∧ input = sv.input) →
      let stopped := fun (t : State) (u : State) (words : Details) => exec c s = .next t ∧
        t = { u with host := t.host, bus := t.bus } ∧
        t.host = s.host.withAnchor a { s.host.anchors[a] with
          failure := some { reason := reason, address := addr }, move := t.host.anchors[a].move } ∧
        t.host.anchors[a].move.map (fun y => y.moved) = some moved ∧
        t.bus = { (bus []).endTask v .stopped words with toSpw := t.bus.toSpw, freeUsed := t.bus.freeUsed }
      let here := fun (k : Nat) => input.drop k
      let entries := (List.range (input.length / 2)).map (fun k => field input (2 * k) 2)
      (v = .lcu → s.lcu.task = .collecting →
        ∃ t words, stopped t { s with lcu := { s.lcu with task := .idle } } words) ∧
      (∀ n, v = .lcu → s.lcu.task = .reporting n →
        ∃ t, stopped t { s with lcu := { s.lcu with task := .idle } } (reportWords n moved)) ∧
      (v = .pbu → ∃ t, stopped t s {
        w0 := BitVec.ofNat 32 s.pbu.usable, w1 := BitVec.ofNat 32 s.pbu.demand, w2 := signedWord s.pbu.headroom
        w3 := 0 }) ∧
      (v = .clc → ∃ t, stopped t s
        (details 0 3 s.clc.mask.toNat ((indices 8).countP (fun n => s.clc.mask.getLsbD n.val)))) ∧
      (∀ before applied used, v = .znu → s.znu.task = .staging before applied used →
        (if count - used < 20 then (here used).length < count - used
          else (here used).length < 20 ∨ ∃ k, k = field (here used) 2 2 ∧ 1 ≤ k ∧ k ≤ 256 ∧
            recordLength k ≤ count - used ∧ (here used).length < recordLength k) →
        let same := before.access = s.znu.staged.access ∧ before.zones = s.znu.staged.zones
        let y : ZoneSet := { s.znu.staged with gen := s.znu.staged.gen + (if same then 0 else 1) }
        ∃ t, stopped t { s with znu := { s.znu with staged := y, task := .idle } }
          { w0 := y.gen, w1 := BitVec.ofNat 32 applied, w2 := BitVec.ofNat 32 y.zones.length
            w3 := BitVec.ofNat 32 (membershipTotal y.zones) }) ∧
      (v = .znu → s.znu.task = .loading → input.length ≠ count →
        (∀ k, k < entries.length → entries.getD k 0 < 256 ∧ (k ≠ 0 → entries.getD (k - 1) 0 < entries.getD k 0)) →
        ∃ t, stopped t { s with znu := { s.znu with task := .idle } }
          (details s.znu.findBuffer.length entries.length ((s.znu.findBuffer.head?.map (·.val)).getD 0)
            ((s.znu.findBuffer.getLast?.map (·.val)).getD 0))) ∧
      (∀ n, v = .znu → s.znu.task = .reading n →
        ∃ t, stopped t { s with znu := { s.znu with task := .idle } } (readWords n moved)) ∧
      (∀ start zones examined places, v = .znu → s.znu.task = .finding start zones examined places →
        (∀ p ∈ places, p ≤ examined) →
        ∃ t n, stopped t { s with znu := { s.znu with task := .idle } } (findWords start zones n (moved / 2)) ∧
          n ≤ examined ∧ (moved / 2 ≠ 0 → places.getD (moved / 2 - 1) examined ≤ n)))

/-- R176, R105, R22, R164, R20 and the blocks' own reset rules: the power-on reset leaves the Licence Store, with any
write cut short, and the lines; the other two reset the registers, the contexts and the queues, make the base 0 known to
the SPW, drop the accesses and leave the other blocks as they are; a task in service at the PTU, the SLS or the ATU, and
one of the LCU, the PBU or the CLC whose data is not moving or has all arrived, runs on without its anchor, and one whose
data was moving ends as stopped; a management reset also clears freeze, failed installs and the find buffer and copies the
active set; a loss of power loses the writes of the store and the part of an hour. What POWER_LOSS shows at once, what
POWER_ON_RESET keeps of the model's own fields, the place of the copy, that a held word's place at the PTU goes with the
word, that a task whose input has all arrived is still judged, and that every page record is marked, are the model's (log
entries 24, 25, 30, 37, 43, 54 and 55). -/
def Obligations.ResetsKeepWhatTheyMust : Prop :=
  (∀ (s : State), exec .powerOnReset s = .next { State.reset with
    lcu := { State.reset.lcu with lst := { s.lcu.lst with busy := none }, serialCopy := s.lcu.lst.serial }
    pins := s.pins, pending := s.pending, bus := { State.reset.bus with freeUsed := s.bus.freeUsed } }) ∧
  (∀ (s : State), s.bus.service .znu = none → s.znu.phase = .idle →
    (∀ sv, s.bus.service .lcu = some sv → (s.lcu.task ≠ .collecting ∧ ∀ n, s.lcu.task ≠ .reporting n) ∨
      (sv.word.is .licenceInstall = true ∧ sv.complete = true)) →
    (∀ sv, s.bus.service .pbu = some sv → sv.word.is .powerPolicy = true ∧ sv.complete = true) →
    (∀ sv, s.bus.service .clc = some sv → sv.word.is .thermalProfile = true ∧ sv.complete = true) →
    let reset : State := { s with
      host := {
        hli := { s.host.hli with
          areaLow := 0, areaHigh := 0, base := 0, result := { code := 0, anchor := 0, result := .none }, mask := 0
          pageChanged := false, interrupt := false }
        anchors := State.reset.host.anchors }
      spw := { s.spw with
        batch := none, dirty := allPageRecords, area := .unset
        gen := if s.spw.batch.isSome ∧ s.spw.gen.getLsbD 0 = true then s.spw.gen + 1 else s.spw.gen }
      ptu := { s.ptu with heldInputs := s.ptu.heldInputs.filter (fun h => h ≠ .task) }
      bus := { s.bus with
        accesses := []
        stations := s.bus.stations.map (fun st =>
          { queue := [], service := st.service.map (fun sv => { sv with anchor := none }) })
        outcomes := s.bus.outcomes.map (fun o => { o with anchor := none }) } }
    let x := s.znu.staged
    let y : ZoneSet := { x with access := s.znu.active.access, zones := s.znu.active.zones }
    exec .linkReset s = .next reset ∧
    ∃ t, exec .managementReset s = .next t ∧ t = { reset with
      lcu := { s.lcu with freeze := false, failedInstalls := 0 }
      znu := { s.znu with
        findBuffer := [], copyDue := false, staged := { y with gen := x.gen + (if y = x then 0 else 1) } }
      bus := { reset.bus with toSpw := t.bus.toSpw } }) ∧
  (∀ (s : State) (c : Instr) (sv : Service), c = .linkReset ∨ c = .managementReset → s.bus.service .znu = some sv →
    s.znu.task = .applying → s.znu.phase = .building → s.znu.abandonSent = false → s.mxw.outstanding ≠ none →
    s.mxw.back = .build →
    ∃ t, exec c s = .next t ∧ t.mxw = { s.mxw with abandon := true } ∧ t.znu.abandonSent = true ∧
      t.znu.task = .applying ∧ t.znu.staged = s.znu.staged ∧ t.znu.active = s.znu.active ∧
      t.znu.copyDue = (s.znu.copyDue || decide (c = .managementReset)) ∧
      t.bus.service .znu = some { sv with anchor := none }) ∧
  (∀ (s : State) (c : Instr) (v : Server) (sv : Service), c = .linkReset ∨ c = .managementReset →
    s.bus.service v = some sv → (∀ u, u ≠ v → s.bus.service u = none) → s.znu.phase = .idle →
    (v = .lcu ∧ s.lcu.task = .collecting ∧ sv.word.is .licenceInstall = true ∧ sv.complete = false) ∨
      (v = .lcu ∧ (∃ n, s.lcu.task = .reporting n) ∧ sv.word.is .licenceReport = true) ∨
      (v = .pbu ∧ sv.word.is .powerPolicy = true ∧ sv.complete = false) ∨
      (v = .clc ∧ sv.word.is .thermalProfile = true ∧ sv.complete = false) →
    let cleared := decide (c = .managementReset)
    ∃ t words, exec c s = .next t ∧ (∀ u, t.bus.service u = none) ∧
      t.bus.outcomes = s.bus.outcomes.map (fun o => { o with anchor := none }) ++ [{
        server := v, anchor := none, cls := .stopped, details := words }] ∧
      t.pbu = s.pbu ∧ t.clc = s.clc ∧ t.lcu = { s.lcu with
        task := if v = .lcu then .idle else s.lcu.task, freeze := s.lcu.freeze && !cleared
        failedInstalls := if cleared then 0 else s.lcu.failedInstalls }) ∧
  (∀ (s : State), exec .powerLoss s = .next { s with
    lcu := { s.lcu with storeQueue := [], lst := { s.lcu.lst with busy := none } }
    tb := { s.tb with hourCount := 0 } })

/-! ### Port Table Unit -/

/-- R6, R8 and R12. Where the checks pass, a PORT ENABLE of a DISABLED port notes the seat that the seat rule finds,
without taking it, and sends a port claim; one that changes the tier of an admin-enabled port sends a tier claim; neither
changes any port record. A PORT ENABLE whose first failing check is the one named is refused with its reason, a port or a
tier out of range with BAD_PARAMETER, and one that asks for the tier that the port already has closes NORMAL; the port
table does not change. While a claim is outstanding a task word of the PTU is held in its place among the inputs and
nothing else changes (R4). That a view without a maximum tier fails check 2, and the place of a held word, are the
model's readings (log entries 56 and 55). -/
def Obligations.PortEnableClaimsOrIsRefused : Prop :=
  (∀ (s : State) (a : Fin 16) (w : TaskWord) (rest : List (Fin 16 × TaskWord)) (p : Port) (t m : Tier),
      s.bus.station .ptu = { queue := (a, w) :: rest, service := none } → s.ptu.claim = none →
      w.is .portEnable = true → w.bits 0 16 = p.val → w.bits 16 8 = tierNum t →
      s.ptu.view[slotOf p].state ≠ .empty → s.ptu.view[slotOf p].state ≠ .identifying →
      s.ptu.view[slotOf p].state ≠ .fault → s.ptu.view[slotOf p].maxTier = some m → tierNum t ≤ tierNum m →
      (∀ seat : Option Tier, s.ptu.ports[p].state = .disabled → s.ptu.lowestFit t seat →
        (seat = none → w.bits 24 1 = 1) →
        exec .portEnable s = .next { s.takeWord .ptu with
          ptu := { s.ptu with claim := some (.port p t seat) }
          bus := { (s.takeWord .ptu).bus with ptuPbu := s.bus.ptuPbu ++ [.portClaim p t] } }) ∧
      (s.ptu.ports[p].state ≠ .disabled → t ≠ s.ptu.ports[p].reqTier →
        exec .portEnable s = .next { s.takeWord .ptu with
          ptu := { s.ptu with claim := some (.tier p t (w.bits 24 1 == 1)) }
          bus := { (s.takeWord .ptu).bus with
            ptuPbu := s.bus.ptuPbu ++ [.tierClaim p s.ptu.ports[p].reqTier t] } })) ∧
  (∀ (s : State) (a : Fin 16) (w : TaskWord) (rest : List (Fin 16 × TaskWord)) (p : Port) (t : Tier),
      s.bus.station .ptu = { queue := (a, w) :: rest, service := none } → s.ptu.claim = none →
      w.is .portEnable = true → w.bits 0 16 = p.val → w.bits 16 8 = tierNum t → s.ptu.ports[p].state = .disabled →
      let v := s.ptu.view[slotOf p]
      let refusedWith := fun r => exec .portEnable s = .next { s.takeWord .ptu with
        bus := (s.takeWord .ptu).bus.refuse .ptu r (portDetails s.ptu p 0) }
      let shut := v.state = .empty ∨ v.state = .identifying ∨ v.state = .fault
      let low := ∃ m, v.maxTier = some m ∧ tierNum t ≤ tierNum m
      (shut → refusedWith .noSlot) ∧
      (¬ shut → ¬ low → refusedWith .tierUnsupported) ∧
      (¬ shut → low → s.ptu.lowestFit t none → w.bits 24 1 = 0 → refusedWith .noSeat)) ∧
  (∀ (s : State) (a : Fin 16) (w : TaskWord) (rest : List (Fin 16 × TaskWord)),
      s.bus.station .ptu = { queue := (a, w) :: rest, service := none } → s.ptu.claim = none →
      w.is .portEnable = true →
      let taken := (s.takeWord .ptu).bus
      let ends := fun (b : Bus) => exec .portEnable s = .next { s.takeWord .ptu with bus := b }
      (256 ≤ w.bits 0 16 → ends (taken.refuse .ptu .badParameter .zero)) ∧
      ∀ p : Port, w.bits 0 16 = p.val →
        let words := portDetails s.ptu p 0
        (w.bits 16 8 = 0 ∨ 3 < w.bits 16 8 → ends (taken.refuse .ptu .badParameter words)) ∧
        ∀ t, w.bits 16 8 = tierNum t → s.ptu.ports[p].state ≠ .disabled →
          let v := s.ptu.view[slotOf p]
          let shut := v.state = .empty ∨ v.state = .identifying ∨ v.state = .fault
          let low := ∃ m, v.maxTier = some m ∧ tierNum t ≤ tierNum m
          (t = s.ptu.ports[p].reqTier → ends (taken.closeNormal .ptu words)) ∧
          (t ≠ s.ptu.ports[p].reqTier → shut → ends (taken.refuse .ptu .noSlot words)) ∧
          (t ≠ s.ptu.ports[p].reqTier → ¬ shut → ¬ low → ends (taken.refuse .ptu .tierUnsupported words))) ∧
  (∀ (s : State) (a : Fin 16) (w : TaskWord) (rest : List (Fin 16 × TaskWord)) (c : Instr),
      (s.bus.station .ptu).queue = (a, w) :: rest → s.ptu.claim ≠ none →
      (c = .portEnable ∧ w.is .portEnable = true) ∨ (c = .portDisable ∧ w.is .portDisable = true) →
      exec c s = .next { s with ptu := { s.ptu with
        heldInputs := if .task ∈ s.ptu.heldInputs then s.ptu.heldInputs else s.ptu.heldInputs ++ [.task] } })

/-- R7: the answer to a port claim, granted: the port takes the noted seat or joins the tail of the wait list, its state
follows the slot view, the MXW, SLS, ATU and SPW are told, and the task closes NORMAL with the details of R12. A refused
port or tier claim is refused with NO_POWER and changes no port. A granted tier claim (R9, R10): a seat high enough is
kept; else the seat that the rule finds is taken and the old one released; without one the task is refused with NO_SEAT
and the claim returned, or under WAIT the port gives its seat up and joins the tail of the list; a waiting port keeps
its place, or takes the seat that its new tier finds where no other waiting port finds one. The answer to a wake claim
wakes the slot or sends nothing (R16). After the answer the inputs that were held are taken in the order they arrived,
each as its own command takes it, until one makes a new claim; those after it stay held (R4). -/
def Obligations.GrantedPortClaimEnablesThePort : Prop :=
  (∀ (s : State) (a : ClaimAnswer) (rest : List ClaimAnswer) (p : Port) (t : Tier) (seat : Option Tier),
    s.bus.pbuPtu = a :: rest → a.grant ≠ .refused → s.ptu.claim = some (.port p t seat) → s.ptu.heldInputs = [] →
    s.ptu.Sound → s.ptu.ports[p].state = .disabled →
    let i := slotOf p
    let online := s.ptu.view[i].state = .online
    let state := if seat = none then PortState.unseated else if online then .inService else .parked
    let u : Ptu := { s.ptu with
      claim := none
      ports := setAt s.ptu.ports p { s.ptu.ports[p] with
        state := state, reqTier := t, seat := seat, reason := .hostEnable }
      held := match seat with
        | none => s.ptu.held
        | some k => s.ptu.held.set k (s.ptu.held.get k + 1)
      waitList := if seat = none then s.ptu.waitList ++ [p] else s.ptu.waitList }
    let b : Bus := { s.bus with
      pbuPtu := rest
      ptuMxw := if state = .inService then s.bus.ptuMxw ++ [p] else s.bus.ptuMxw
      ptuSls := s.bus.ptuSls ++ (if a.grant = .grantedWithWake then [.wake i] else [])
        ++ (if ∃ q : Port, slotOf q = i ∧ s.ptu.ports[q].state ≠ .disabled then [] else [.useNotice i true])
      toSpw := s.bus.toSpw ++ [.port p, .licenceSummary]
      toAtu := if seat = none ∧ s.ptu.waitList = [] then
          s.bus.toAtu ++ [{ raised := true, kind := .portsUnseated, object := 0 }]
        else s.bus.toAtu }
    exec .claimAnswer s = .next { s with
      ptu := u
      bus := b.endTask .ptu .normal
        { w0 := BitVec.ofNat 32 (portStateCode state)
          w1 := BitVec.ofNat 32 (tierCode seat)
          w2 := BitVec.ofNat 32 (if seat = none then s.ptu.waitList.length + 1 else 0)
          w3 := signedWord a.amount } }) ∧
  (∀ (s : State) (a : ClaimAnswer) (rest : List ClaimAnswer) (c : PtuClaim) (p : Port) (t : Tier),
    s.bus.pbuPtu = a :: rest → a.grant = .refused → s.ptu.claim = some c → s.ptu.heldInputs = [] →
    (∃ seat, c = .port p t seat) ∨ (∃ wait, c = .tier p t wait) →
    exec .claimAnswer s = .next { s with
      ptu := { s.ptu with claim := none }
      bus := Bus.refuse { s.bus with pbuPtu := rest } .ptu .noPower (portDetails s.ptu p 0) }) ∧
  (∀ (s : State) (a : ClaimAnswer) (rest : List ClaimAnswer) (p : Port) (t : Tier) (wait : Bool),
    s.bus.pbuPtu = a :: rest → a.grant ≠ .refused → s.ptu.claim = some (.tier p t wait) → s.ptu.heldInputs = [] →
    s.ptu.Sound →
    let r := s.ptu.ports[p]
    let asks : PortRec := { r with reqTier := t, reason := .hostEnable }
    let bus : Bus := { s.bus with pbuPtu := rest }
    let words := fun (st : PortState) (seat : Option Tier) (place : Nat) => ({
      w0 := BitVec.ofNat 32 (portStateCode st), w1 := BitVec.ofNat 32 (tierCode seat), w2 := BitVec.ofNat 32 place
      w3 := signedWord a.amount } : Details)
    let closes := fun (u : State) (d : Details) => u = { s with ptu := u.ptu, bus := u.bus } ∧
      u.bus = { bus.closeNormal .ptu d with toSpw := u.bus.toSpw, toAtu := u.bus.toAtu, ptuMxw := u.bus.ptuMxw }
    let served := fun (v : Ptu) => v.waitList.foldl Ptu.waiterServed v
    (∀ k, r.seat = some k → tierNum t ≤ tierNum k → ∃ u, exec .claimAnswer s = .next u ∧
      closes u (words r.state (some k) 0) ∧
      u.ptu = { s.ptu with claim := none, ports := setAt s.ptu.ports p asks } ∧
      u.bus.ptuMxw = s.bus.ptuMxw ∧ u.bus.toAtu = s.bus.toAtu) ∧
    (∀ k, r.seat = some k → tierNum k < tierNum t →
      (∀ j, s.ptu.lowestFit t (some j) → ∃ u, exec .claimAnswer s = .next u ∧
        closes u (words r.state (some j) 0) ∧
        let freed := s.ptu.held.set k (s.ptu.held.get k - 1)
        u.ptu = served { s.ptu with
          claim := none, ports := setAt s.ptu.ports p { asks with seat := some j }
          held := freed.set j (freed.get j + 1) } ∧
        u.bus.ptuMxw = s.bus.ptuMxw ++ s.ptu.waitList.filter (fun q => u.ptu.ports[q].state = .inService) ∧
        u.bus.toAtu = s.bus.toAtu ++ (if s.ptu.waitList ≠ [] ∧ u.ptu.waitList = []
          then [{ raised := false, kind := .portsUnseated, object := 0 }] else [])) ∧
      (s.ptu.lowestFit t none →
        (wait = false → exec .claimAnswer s = .next { s with
          ptu := { s.ptu with claim := none }
          bus := Bus.refuse { bus with ptuPbu := s.bus.ptuPbu ++ [.tierReturn p r.reqTier] } .ptu .noSeat
            (portDetails s.ptu p 0) }) ∧
        (wait = true → ∃ u, exec .claimAnswer s = .next u ∧
          closes u (words .unseated none u.ptu.waitList.length) ∧
          u.ptu = served { s.ptu with
            claim := none, ports := setAt s.ptu.ports p { asks with seat := none, state := .unseated }
            held := s.ptu.held.set k (s.ptu.held.get k - 1), waitList := s.ptu.waitList ++ [p] } ∧
          u.ptu.ports[p] = { asks with seat := none, state := .unseated } ∧ u.ptu.waitList.getLast? = some p ∧
          u.bus.ptuMxw = s.bus.ptuMxw ++ (if r.state = .inService then [p] else []) ++
            s.ptu.waitList.filter (fun q => u.ptu.ports[q].state = .inService) ∧
          u.bus.toAtu = s.bus.toAtu ++
            (if s.ptu.waitList = [] then [{ raised := true, kind := .portsUnseated, object := 0 }] else [])))) ∧
    (r.seat = none → (∀ q ∈ s.ptu.waitList, q ≠ p → s.ptu.lowestFit s.ptu.ports[q].reqTier none) →
      (s.ptu.lowestFit t none → ∃ u, exec .claimAnswer s = .next u ∧
        closes u (words .unseated none (s.ptu.waitList.idxOf p + 1)) ∧
        u.ptu = { s.ptu with claim := none, ports := setAt s.ptu.ports p asks } ∧
        u.bus.ptuMxw = s.bus.ptuMxw ∧ u.bus.toAtu = s.bus.toAtu) ∧
      (∀ k, s.ptu.lowestFit t (some k) →
        let st := if s.ptu.view[slotOf p].state = .online then PortState.inService else .parked
        ∃ u, exec .claimAnswer s = .next u ∧ closes u (words st (some k) 0) ∧
          u.ptu = { s.ptu with
            claim := none
            ports := setAt s.ptu.ports p { asks with state := st, seat := some k, reason := .seatGranted }
            held := s.ptu.held.set k (s.ptu.held.get k + 1), waitList := s.ptu.waitList.filter (fun q => q ≠ p) } ∧
          u.bus.ptuMxw = s.bus.ptuMxw ++ (if st = .inService then [p] else []) ∧
          u.bus.toAtu = s.bus.toAtu ++
            (if s.ptu.waitList = [p] then [{ raised := false, kind := .portsUnseated, object := 0 }] else [])))) ∧
  (∀ (s : State) (a : ClaimAnswer) (rest : List ClaimAnswer) (i : Slot),
    s.bus.pbuPtu = a :: rest → s.ptu.claim = some (.wake i) → s.ptu.heldInputs = [] →
    exec .claimAnswer s = .next { s with
      ptu := { s.ptu with claim := none }
      bus := { s.bus with
        pbuPtu := rest
        ptuSls := s.bus.ptuSls ++ (if a.grant = .grantedWithWake then [.wake i] else []) } }) ∧
  (∀ (s : State) (a : ClaimAnswer) (rest : List ClaimAnswer), s.bus.pbuPtu = a :: rest → s.ptu.claim ≠ none →
    (∀ e ∈ (s.bus.station .ptu).queue, e.2.is .portEnable = true ∨ e.2.is .portDisable = true) →
    ∃ answered t, exec .claimAnswer { s with ptu := { s.ptu with heldInputs := [] } } = .next answered ∧
      answered.ptu.heldInputs = [] ∧ afterHeld s.ptu.heldInputs answered = some t ∧ exec .claimAnswer s = .next t)

/-- R11: a PORT DISABLE of an admin-enabled port. The port is DISABLED with no seat and keeps its requested tier, it is
on the wait list no more, the PBU is sent the release, and a port that was IN_SERVICE goes first to the MXW. When it
held a seat, wait-list service follows (R37): each waiting port in turn takes the seat that it finds, and those that enter
IN_SERVICE go to the MXW. When it held none no other port record changes. PORTS_UNSEATED is cleared when the wait list has
become empty (R36), and the use notice of R13 is sent when the slot has no admin-enabled port left. A DISABLED port closes
NORMAL with no change, and a port out of range is refused with BAD_PARAMETER. That the released watts are those of the PBU's
table is the model's reading (log entry 13). -/
def Obligations.PortDisableDisablesThePort : Prop :=
  (∀ (s : State) (a : Fin 16) (w : TaskWord) (rest : List (Fin 16 × TaskWord)) (p : Port),
    s.bus.station .ptu = { queue := (a, w) :: rest, service := none } → s.ptu.claim = none → s.ptu.Sound →
    w.is .portDisable = true → w.bits 0 16 = p.val → s.ptu.ports[p].state ≠ .disabled →
    ∃ t, exec .portDisable s = .next t ∧
      t = { s with ptu := t.ptu, host := (s.takeWord .ptu).host, bus := t.bus } ∧
      let r := s.ptu.ports[p]
      let off : Ptu := { s.ptu with
        ports := setAt s.ptu.ports p { r with state := .disabled, seat := none, reason := .hostDisable }
        held := match r.seat with
          | none => s.ptu.held
          | some k => s.ptu.held.set k (s.ptu.held.get k - 1)
        waitList := s.ptu.waitList.filter (fun q => q ≠ p) }
      t.ptu = (if r.seat = none then off else off.waitList.foldl Ptu.waiterServed off) ∧
      t.bus.ptuSls = s.bus.ptuSls ++
        (if ∀ q : Port, slotOf q = slotOf p → q ≠ p → s.ptu.ports[q].state = .disabled
          then [.useNotice (slotOf p) false] else []) ∧
      t.bus.toAtu = s.bus.toAtu ++ (if s.ptu.waitList ≠ [] ∧ t.ptu.waitList = []
        then [{ raised := false, kind := .portsUnseated, object := 0 }] else []) ∧
      t.ptu.ports[p] = { s.ptu.ports[p] with state := .disabled, seat := none, reason := .hostDisable } ∧
      p ∉ t.ptu.waitList ∧ t.ptu.waitList.Sublist s.ptu.waitList ∧
      t.ptu = { s.ptu with ports := t.ptu.ports, held := t.ptu.held, waitList := t.ptu.waitList } ∧
      (s.ptu.ports[p].seat = none → t.ptu.held = s.ptu.held ∧ t.ptu.waitList = s.ptu.waitList.filter (· ≠ p) ∧
        ∀ q : Port, q ≠ p → t.ptu.ports[q] = s.ptu.ports[q]) ∧
      (s.ptu.ports[p].seat ≠ none → ∀ q ∈ t.ptu.waitList, t.ptu.lowestFit t.ptu.ports[q].reqTier none) ∧
      (∀ q : Port, q ≠ p → s.ptu.ports[q].state ≠ .unseated → t.ptu.ports[q] = s.ptu.ports[q]) ∧
      t.bus.ptuPbu = s.bus.ptuPbu ++ [.portRelease p] ∧
      t.bus.ptuMxw = s.bus.ptuMxw ++ (if s.ptu.ports[p].state = .inService then [p] else [])
        ++ s.ptu.waitList.filter (fun q => t.ptu.ports[q].state = .inService) ∧
      (t.bus.station .ptu).queue = rest ∧ t.bus.service .ptu = none ∧
      t.bus.outcomes = s.bus.outcomes ++ [{
        server := .ptu, anchor := some a, cls := .normal
        details := { w0 := 1, w1 := 0, w2 := 0, w3 := signedWord (-(reservedWatts s.pbu p : Int)) } }]) ∧
  (∀ (s : State) (a : Fin 16) (w : TaskWord) (rest : List (Fin 16 × TaskWord)),
    s.bus.station .ptu = { queue := (a, w) :: rest, service := none } → s.ptu.claim = none → w.is .portDisable = true →
    let taken := (s.takeWord .ptu).bus
    (256 ≤ w.bits 0 16 → exec .portDisable s = .next { s.takeWord .ptu with
      bus := taken.refuse .ptu .badParameter .zero }) ∧
    ∀ p : Port, w.bits 0 16 = p.val → s.ptu.ports[p].state = .disabled →
      exec .portDisable s = .next { s.takeWord .ptu with bus := taken.closeNormal .ptu (portDetails s.ptu p 0) })

/-- R14: on the report that a slot has entered ONLINE each of its PARKED ports becomes IN_SERVICE with reason SLOT_UP and is
sent to the MXW in ascending port order, every other port record stands, and the use notice of R13 follows. R15 and R16:
on the report that it has entered another state each seated port of it takes the reason of the table of R15 and is
PARKED, those that were IN_SERVICE go to the MXW in ascending port order, every seat is kept, and a report of STANDBY for
a slot in use sends a wake claim. While a claim is outstanding a report is held behind the inputs held before it and
nothing else changes (R4). -/
def Obligations.SlotReportsServeOrParkThePorts : Prop :=
  (∀ (s : State) (i : Slot) (cause : ReportCause) (rest : List SlsToPtu),
      s.bus.slsPtu = .report i .online cause :: rest → s.ptu.claim = none → s.ptu.Sound →
      let moved := (portsOf i).filter (fun q => s.ptu.ports[q].state = .parked)
      ∃ t, exec .slotOnlineReport s = .next t ∧
        t = { s with ptu := t.ptu, bus := t.bus } ∧
        t.ptu = { s.ptu with
          ports := t.ptu.ports, view := setAt s.ptu.view i { s.ptu.view[i] with state := .online } } ∧
        (∀ q : Port, t.ptu.ports[q] = if slotOf q = i ∧ s.ptu.ports[q].state = .parked
          then { s.ptu.ports[q] with state := .inService, reason := .slotUp } else s.ptu.ports[q]) ∧
        t.bus = { s.bus with
          slsPtu := rest
          ptuMxw := s.bus.ptuMxw ++ moved
          toSpw := s.bus.toSpw ++ moved.map .port
          ptuSls := s.bus.ptuSls ++
            [.useNotice i (decide (∃ q : Port, slotOf q = i ∧ s.ptu.ports[q].state ≠ .disabled))] }) ∧
  (∀ (s : State) (i : Slot) (st : SlotState) (cause : ReportCause) (rest : List SlsToPtu),
      s.bus.slsPtu = .report i st cause :: rest → st ≠ .online → s.ptu.claim = none → s.ptu.Sound →
      let used := ∃ q : Port, slotOf q = i ∧ s.ptu.ports[q].state ≠ .disabled
      let wakes := st = .standby ∧ used
      let why := fun (old : PortReason) => match st with
        | .off | .standby | .fault => PortReason.slotDown
        | .shed => .slotShed
        | .thermalOff => .slotThermal
        | .empty => .slotRemoved
        | .identifying | .powering | .online => old
      ∃ t, exec .slotLeftOnlineReport s = .next t ∧
        t = { s with ptu := t.ptu, bus := t.bus } ∧
        t.ptu = { s.ptu with
          ports := t.ptu.ports
          view := setAt s.ptu.view i
            { state := st, maxTier := if st = .empty then none else s.ptu.view[i].maxTier }
          claim := if wakes then some (.wake i) else none } ∧
        (∀ q : Port, t.ptu.ports[q] = if slotOf q = i ∧ (s.ptu.ports[q].state = .inService ∨ s.ptu.ports[q].state = .parked)
          then { s.ptu.ports[q] with state := .parked, reason := why s.ptu.ports[q].reason } else s.ptu.ports[q]) ∧
        t.bus = { s.bus with
          slsPtu := rest
          ptuMxw := s.bus.ptuMxw ++ (portsOf i).filter (fun q => s.ptu.ports[q].state = .inService)
          toSpw := s.bus.toSpw ++ ((portsOf i).filter (fun q => t.ptu.ports[q] ≠ s.ptu.ports[q])).map .port
          ptuPbu := if wakes then s.bus.ptuPbu ++ [.wakeClaim i] else s.bus.ptuPbu }) ∧
  (∀ (s : State) (i : Slot) (st : SlotState) (cause : ReportCause) (rest : List SlsToPtu),
      s.bus.slsPtu = .report i st cause :: rest → s.ptu.claim ≠ none →
      exec (if st = .online then .slotOnlineReport else .slotLeftOnlineReport) s = .next { s with
        ptu := { s.ptu with heldInputs := s.ptu.heldInputs ++ [.sls (.report i st cause)] }
        bus := { s.bus with slsPtu := rest } })

/-- R17: the identification sweep writes the maximum tier into the slot view and disables exactly the admin-enabled ports of
the slot above it, with no seat and reason TIER_UNSUPPORTED. If one of them held a seat, wait-list service follows (R37):
each waiting port in turn takes the seat that it finds and those that enter IN_SERVICE go to the MXW; no other port record
changes. Unless the slot's view is ONLINE none of the ports disabled was IN_SERVICE. The PBU is sent a release for each in
ascending order, PORTS_UNSEATED is cleared when the wait list has become empty (R36), the use notice of R13 is sent when
the slot had admin-enabled ports and has none left, and the SLS is answered last. While a claim is outstanding the sweep
request is held and nothing else changes (R4). R112: a zone count is written whether or not a claim is outstanding and
changes nothing else of the port, and one that is already right changes nothing. The tag of a sweep is the model's own (log
entry 32). -/
def Obligations.SweepDisablesThePortsAboveTheTier : Prop :=
  (∀ (s : State) (i : Slot) (m : Tier) (tag : Nat) (rest : List SlsToPtu),
    s.bus.slsPtu = .sweep i m tag :: rest → s.ptu.claim = none → s.ptu.Sound →
    let above := fun (q : Port) =>
      decide (slotOf q = i ∧ s.ptu.ports[q].state ≠ .disabled ∧ tierNum m < tierNum s.ptu.ports[q].reqTier)
    let freed := fun (k : Tier) => (indices 256).countP (fun q => above q && decide (s.ptu.ports[q].seat = some k))
    let swept : Ptu := { s.ptu with
      view := setAt s.ptu.view i { s.ptu.view[i] with maxTier := some m }
      ports := Vector.ofFn (fun q : Port => if above q
        then { s.ptu.ports[q] with state := .disabled, seat := none, reason := .tierUnsupported } else s.ptu.ports[q])
      held := { t1 := s.ptu.held.t1 - freed .t1, t2 := s.ptu.held.t2 - freed .t2, t3 := s.ptu.held.t3 - freed .t3 }
      waitList := s.ptu.waitList.filter (fun q => !above q) }
    let victims := (portsOf i).filter above
    ∃ t, exec .identificationSweep s = .next t ∧
      t = { s with ptu := t.ptu, bus := t.bus } ∧
      t.ptu = (if ∃ q : Port, above q = true ∧ s.ptu.ports[q].seat ≠ none
        then swept.waitList.foldl Ptu.waiterServed swept else swept) ∧
      t.bus = { s.bus with
        slsPtu := rest
        ptuPbu := s.bus.ptuPbu ++ victims.map .portRelease
        ptuMxw := s.bus.ptuMxw ++ victims.filter (fun q => s.ptu.ports[q].state = .inService) ++
          swept.waitList.filter (fun q => t.ptu.ports[q].state = .inService)
        ptuSls := s.bus.ptuSls ++
          (if (∃ q : Port, slotOf q = i ∧ s.ptu.ports[q].state ≠ .disabled) ∧
              ∀ q : Port, slotOf q = i → t.ptu.ports[q].state = .disabled
            then [.useNotice i false] else []) ++ [.sweepDone i tag]
        toAtu := s.bus.toAtu ++ (if s.ptu.waitList ≠ [] ∧ t.ptu.waitList = []
          then [{ raised := false, kind := .portsUnseated, object := 0 }] else [])
        toSpw := t.bus.toSpw } ∧
      (∀ q : Port, above q = true → t.ptu.ports[q] =
        { s.ptu.ports[q] with state := .disabled, seat := none, reason := .tierUnsupported }) ∧
      (∀ q : Port, above q = false → q ∉ s.ptu.waitList → t.ptu.ports[q] = s.ptu.ports[q]) ∧
      t.ptu.waitList.Sublist (s.ptu.waitList.filter (fun q => !above q)) ∧
      (s.ptu.view[i].state ≠ .online → ∀ q ∈ victims, s.ptu.ports[q].state ≠ .inService)) ∧
  (∀ (s : State) (i : Slot) (m : Tier) (tag : Nat) (rest : List SlsToPtu),
    s.bus.slsPtu = .sweep i m tag :: rest → s.ptu.claim ≠ none →
    exec .identificationSweep s = .next { s with
      ptu := { s.ptu with heldInputs := s.ptu.heldInputs ++ [.sls (.sweep i m tag)] }
      bus := { s.bus with slsPtu := rest } }) ∧
  (∀ (s : State) (p : Port) (n : Nat) (rest : List (Port × Nat)), s.bus.znuPtu = (p, n) :: rest → s.ptu.Sound →
    (s.ptu.ports[p].zoneCount ≠ n → exec .zoneCount s = .next { s with
      ptu := { s.ptu with ports := setAt s.ptu.ports p { s.ptu.ports[p] with zoneCount := n } }
      bus := { s.bus with znuPtu := rest, toSpw := s.bus.toSpw ++ [.port p] } }) ∧
    (s.ptu.ports[p].zoneCount = n → exec .zoneCount s = .next { s with bus := { s.bus with znuPtu := rest } }))

/-- R37 and R38: a grant report replaces the copies of G1–G3 and runs wait-list service: no port left waiting finds a
seat, each port that left the list took a seat not below its tier with reason SEAT_GRANTED, the ports left keep their
order, no tier is filled beyond its copy, and no port that was not waiting changes. The scan runs from the oldest entry
to the newest. R39: a withdrawal makes the passes for tiers 1, 2, 3, each with the first Hk − Gk holders in descending
port number, and leaves every held count within its copy, deals with a seated port by a re-seat or by the tail of the
wait list alone, sends the PBU nothing, and answers the LCU. While a claim is outstanding either one is held and nothing
else changes (R4). -/
def Obligations.GrantsSeatAndWithdrawalsUnseat : Prop :=
  (∀ (s : State) (g : Counts) (rest : List LcuToPtu),
      s.bus.lcuPtu = .grant g :: rest → s.ptu.claim = none → s.ptu.Sound →
      ∃ t, exec .grantReport s = .next t ∧
        t = { s with ptu := t.ptu, bus := t.bus } ∧
        t.ptu.granted = g ∧ t.ptu.view = s.ptu.view ∧ t.ptu.claim = none ∧ t.ptu.heldInputs = s.ptu.heldInputs ∧
        t.ptu = s.ptu.waitList.foldl Ptu.waiterServed { s.ptu with granted := g } ∧
        t.bus = { s.bus with
          lcuPtu := rest
          ptuMxw := s.bus.ptuMxw ++ s.ptu.waitList.filter (fun q => t.ptu.ports[q].state = .inService)
          toSpw := t.bus.toSpw
          toAtu := t.bus.toAtu } ∧
        t.ptu.waitList.Sublist s.ptu.waitList ∧
        (∀ q ∈ t.ptu.waitList, t.ptu.ports[q] = s.ptu.ports[q] ∧ t.ptu.lowestFit t.ptu.ports[q].reqTier none) ∧
        (∀ q : Port, q ∈ s.ptu.waitList → q ∉ t.ptu.waitList →
          ∃ k, tierNum s.ptu.ports[q].reqTier ≤ tierNum k ∧ t.ptu.ports[q] = { s.ptu.ports[q] with
            seat := some k
            reason := .seatGranted
            state := if s.ptu.view[slotOf q].state = .online then .inService else .parked }) ∧
        (∀ q : Port, q ∉ s.ptu.waitList → t.ptu.ports[q] = s.ptu.ports[q]) ∧
        (∀ k, t.ptu.held.get k ≤ max (s.ptu.held.get k) (g.get k))) ∧
  (∀ (s : State) (g : Counts) (rest : List LcuToPtu),
      s.bus.lcuPtu = .withdrawal g :: rest → s.ptu.claim = none → s.ptu.Sound →
      ∃ t, exec .withdrawal s = .next t ∧
        t = { s with ptu := t.ptu, bus := t.bus } ∧
        t.ptu.granted = g ∧ t.ptu.view = s.ptu.view ∧ t.ptu.claim = none ∧ t.ptu.heldInputs = s.ptu.heldInputs ∧
        t.ptu = [Tier.t1, .t2, .t3].foldl Ptu.tierReclaimed { s.ptu with granted := g } ∧
        (∀ k, t.ptu.held.get k ≤ g.get k) ∧
        (∀ q : Port, t.ptu.ports[q] = s.ptu.ports[q] ∨
          (s.ptu.ports[q].seat ≠ none ∧ ∃ j, tierNum s.ptu.ports[q].reqTier ≤ tierNum j ∧
            t.ptu.ports[q] = { s.ptu.ports[q] with seat := some j, reason := .reseated }) ∨
          (s.ptu.ports[q].seat ≠ none ∧
            t.ptu.ports[q] = { s.ptu.ports[q] with seat := none, state := .unseated, reason := .lapsed })) ∧
        s.ptu.waitList <+: t.ptu.waitList ∧
        t.bus = { s.bus with
          lcuPtu := rest
          ptuLcu := s.bus.ptuLcu + 1
          ptuMxw := t.bus.ptuMxw
          toSpw := t.bus.toSpw
          toAtu := t.bus.toAtu } ∧
        ∃ gone, t.bus.ptuMxw = s.bus.ptuMxw ++ gone ∧
          ∀ q : Port, q ∈ gone ↔ s.ptu.ports[q].state = .inService ∧ t.ptu.ports[q].state = .unseated) ∧
  (∀ (s : State) (m : LcuToPtu) (rest : List LcuToPtu), s.bus.lcuPtu = m :: rest → s.ptu.claim ≠ none →
      let held : State := { s with
        ptu := { s.ptu with heldInputs := s.ptu.heldInputs ++ [.lcu m] }, bus := { s.bus with lcuPtu := rest } }
      (∀ g, m = .grant g → exec .grantReport s = .next held) ∧
      (∀ g, m = .withdrawal g → exec .withdrawal s = .next held))

/-! ### Licence Unit and Licence Store -/

/-- R23: each cell that the start-up read has read is judged: ERASED becomes EMPTY; a wrong check value, an ill-formed
record or an id already taken becomes DAMAGED with LICENCE_STORE_DAMAGED raised; a TRIAL takes the lesser of its hours
and is LAPSED with LICENCE_LAPSED raised at 0; every other becomes VALID. Cell 31 brings the granted counts, the grant
report and the start-up report. The hours of a DAMAGED cell are the model's (log entry 48). -/
def Obligations.StartUpReadJudgesEachCell : Prop :=
  ∀ (s : State) (i : Fin 32), s.lcu.startRead = i.val →
    let x := s.lcu.lst.cells[i]
    let bad := licenceCheckRight x.record = false ∨ licenceWellFormed x.record = false ∨
      ∃ j : Fin 32, (s.lcu.cells[j].state = .valid ∨ s.lcu.cells[j].state = .lapsed) ∧
        licenceId s.lcu.cells[j].record = licenceId x.record
    ∃ t, exec .licenceCellReadDone s = .next t ∧
      t = { s with lcu := t.lcu, bus := t.bus } ∧
      t.lcu = { s.lcu with
        cells := setAt s.lcu.cells i t.lcu.cells[i]
        startRead := i.val + 1
        granted := if i.val = 31 then grantedOf t.lcu.cells else s.lcu.granted } ∧
      (x.occupied = false → t.lcu.cells[i].state = .empty) ∧
      (x.occupied = true → bad → t.lcu.cells[i] =
        { state := .damaged, hours := x.hours, record := x.record, withdrawing := false }) ∧
      (x.occupied = true → ¬ bad → licenceKind x.record = some .trial →
        let h := min x.hours (licenceHours x.record)
        t.lcu.cells[i] =
          { state := if h = 0 then .lapsed else .valid, hours := h, record := x.record, withdrawing := false }) ∧
      (x.occupied = true → ¬ bad → licenceKind x.record ≠ some .trial → t.lcu.cells[i] =
        { state := .valid, hours := 0, record := x.record, withdrawing := false }) ∧
      t.bus = { s.bus with
        toAtu := s.bus.toAtu ++
          (if t.lcu.cells[i].state = .damaged then
            [{ raised := true, kind := .licenceStoreDamaged, object := i.val }]
          else if t.lcu.cells[i].state = .lapsed then
            [{ raised := true, kind := .licenceLapsed, object := i.val }]
          else [])
        lcuPtu := s.bus.lcuPtu ++ (if i.val = 31 then [.grant (sentOf t.lcu.cells)] else [])
        toHli := s.bus.toHli ++ (if i.val = 31 then [.lcu] else []) }

/-- R26: a LICENCE INSTALL that is taken has its first byte read or its first piece fetched. When its 64 bytes have
arrived, the first of the seven checks that fails refuses it, checks 3 and 4 alone count, and the table and the store
stand; where all pass, the write of the lowest EMPTY cell with the record and its trial hours is queued, and the cell
stays EMPTY. The two phases of a task with data are the model's (log entry 6). -/
def Obligations.LicenceInstallIsCheckedInOrder : Prop :=
  (∀ (s : State) (a : Fin 16) (w : TaskWord) (rest : List (Fin 16 × TaskWord)),
    s.bus.station .lcu = { queue := (a, w) :: rest, service := none } → w.is .licenceInstall = true →
    w.count.toNat ≠ 0 → exec .licenceInstall s = .next { s with
      host := s.host.moving a true w, lcu := { s.lcu with task := .collecting }
      bus := { (s.takeWord .lcu).bus with accesses := s.bus.accesses ++ [firstRead a w] } }) ∧
  ∀ (s : State) (sv : Service), s.bus.service .lcu = some sv → s.lcu.task = .collecting → sv.complete = true →
    let r := licenceOf sv.input
    let n := s.lcu.failedInstalls
    let refusedWith := fun (why : Reason) (count : Nat) => exec .licenceInstall s = .next { s with
      lcu := { s.lcu with task := .idle, failedInstalls := count }
      bus := s.bus.refuse .lcu why
        { w0 := 32
          w1 := BitVec.ofNat 32 count
          w2 := licenceId r
          w3 := BitVec.ofNat 32 (match licenceTier r with
            | none => 0
            | some k => s.lcu.granted.get k) } }
    let inTable := ∃ j : Fin 32, (s.lcu.cells[j].state = .valid ∨ s.lcu.cells[j].state = .lapsed) ∧
      licenceId s.lcu.cells[j].record = licenceId r
    (s.lcu.freeze = true → refusedWith .frozen n) ∧
    (s.lcu.freeze = false →
      (5 ≤ n → refusedWith .lockedOut n) ∧
      (n < 5 →
        (licenceCheckRight r = false → refusedWith .invalidLicence (n + 1)) ∧
        (licenceCheckRight r = true →
          (licenceBinding r ≠ s.lcu.serialCopy → refusedWith .wrongChassis (n + 1)) ∧
          (licenceBinding r = s.lcu.serialCopy →
            (licenceKind r = some .base ∨ licenceWellFormed r = false → refusedWith .badParameter n) ∧
            (licenceKind r ≠ some .base → licenceWellFormed r = true →
              (inTable → refusedWith .duplicate n) ∧
              (¬ inTable →
                ((∀ j : Fin 32, s.lcu.cells[j].state ≠ .empty) → refusedWith .tableFull n) ∧
                (∀ i : Fin 32, s.lcu.cells[i].state = .empty →
                  (∀ j : Fin 32, j < i → s.lcu.cells[j].state ≠ .empty) →
                  (∀ e ∈ s.lcu.storeQueue, e.cell ≠ i) →
                  let e : StoreEntry := { cell := i, content := .write (licenceHours r) r, who := .task }
                  let idle := s.lcu.lst.busy = none ∧ s.lcu.storeQueue = []
                  (s.lcu.lst.busy = none → s.lcu.storeQueue = []) →
                  exec .licenceInstall s = .next { s with lcu := { s.lcu with
                    task := .installing i r
                    storeQueue := if idle then [] else s.lcu.storeQueue ++ [e]
                    lst := { s.lcu.lst with busy := if idle then some e else s.lcu.lst.busy } } })))))))

/-- R20, R24, R27 and R28: the LST reports the end of a write or an erase. GOOD stores the content whole and clears
LICENCE_STORE_DAMAGED, FAILED raises it; the next entry goes to the LST; an install's GOOD write makes its cell VALID
with its trial hours, sends the grant report and closes NORMAL, a FAILED one is refused with STORE_FAILED and changes no
cell record; an erase closes NORMAL either way. -/
def Obligations.StoreWriteOutcomeReachesItsTask : Prop :=
  (∀ (s : State) (good : Bool) (e : StoreEntry), s.lcu.lst.busy = some e →
    ∃ t, exec (.storeWriteDone good) s = .next t ∧
      t = { s with lcu := t.lcu, bus := t.bus } ∧
      t.lcu.lst.busy = s.lcu.storeQueue.head? ∧ t.lcu.storeQueue = s.lcu.storeQueue.tail ∧
      t.lcu.lst.serial = s.lcu.lst.serial ∧
      (∀ j : Fin 32, j ≠ e.cell → t.lcu.lst.cells[j] = s.lcu.lst.cells[j]) ∧
      (good = true → match e.content with
        | .write h r => t.lcu.lst.cells[e.cell] = { occupied := true, hours := h, record := r }
        | .erase => t.lcu.lst.cells[e.cell].occupied = false) ∧
      (e.who = .hourBookkeeping → t.lcu = { s.lcu with lst := t.lcu.lst, storeQueue := t.lcu.storeQueue }) ∧
      t.bus.toAtu = s.bus.toAtu ++ [{ raised := !good, kind := .licenceStoreDamaged, object := e.cell.val }]) ∧
  (∀ (s : State) (good : Bool) (e : StoreEntry) (r : LicenceRecord) (sv : Service),
    s.lcu.lst.busy = some e → e.who = .task → s.lcu.task = .installing e.cell r → s.bus.service .lcu = some sv →
    ∃ t, exec (.storeWriteDone good) s = .next t ∧ t.lcu.task = .idle ∧
      (good = true →
        t.lcu.cells = setAt s.lcu.cells e.cell
          { state := .valid, hours := licenceHours r, record := r, withdrawing := false } ∧
        t.lcu.granted = grantedOf t.lcu.cells ∧
        t.bus.lcuPtu = s.bus.lcuPtu ++ [.grant (sentOf t.lcu.cells)] ∧
        t.bus.toSpw = s.bus.toSpw ++ [.licenceSummary]) ∧
      (good = false → t.lcu.cells = s.lcu.cells ∧ t.lcu.granted = s.lcu.granted ∧ t.bus.lcuPtu = s.bus.lcuPtu) ∧
      t.bus.service .lcu = none ∧
      t.bus.outcomes = s.bus.outcomes ++ [{
        server := .lcu, anchor := sv.anchor, cls := if good then .normal else .refused .storeFailed
        details :=
          { w0 := BitVec.ofNat 32 e.cell.val
            w1 := BitVec.ofNat 32 s.lcu.failedInstalls
            w2 := licenceId r
            w3 := BitVec.ofNat 32 (match licenceTier r with
              | none => 0
              | some k => t.lcu.granted.get k) } }]) ∧
  (∀ (s : State) (good : Bool) (e : StoreEntry) (was : CellState) (seats : Nat) (sv : Service),
    s.lcu.lst.busy = some e → e.who = .task → s.lcu.task = .erasing e.cell was seats → s.bus.service .lcu = some sv →
    ∃ t, exec (.storeWriteDone good) s = .next t ∧ t.lcu.task = .idle ∧ t.lcu.cells = s.lcu.cells ∧
      t.bus.service .lcu = none ∧
      t.bus.outcomes = s.bus.outcomes ++ [{
        server := .lcu, anchor := sv.anchor, cls := .normal
        details := details e.cell.val (cellStateCode was) seats (if good then 0 else 1) }])

/-- R28: a LICENCE REMOVE taken with no withdrawal outstanding and the freeze flag clear, whose id names cell i (a VALID
or LAPSED cell, or failing those the lowest DAMAGED one): a BASE record is refused with PROTECTED; a VALID cell is
marked and the withdrawal sent; a LAPSED or DAMAGED cell becomes EMPTY at once and its erase is queued. No cell of that
id: NOT_FOUND. R29 and R30: LICENCE FREEZE sets the flag and says whether it was set; LICENCE REPORT takes the copy of
the table and hands its entries, 72 bytes for each non-EMPTY cell in ascending order, to the output. The two phases of
LICENCE REPORT are the model's (log entry 6). -/
def Obligations.RemoveFreezeAndReportGoByTheTable : Prop :=
  (∀ (s : State) (a : Fin 16) (w : TaskWord) (rest : List (Fin 16 × TaskWord)),
      s.bus.station .lcu = { queue := (a, w) :: rest, service := none } → w.is .licenceRemove = true →
      s.lcu.withdrawal = .idle → s.lcu.freeze = false →
      let named := fun (i : Fin 32) => licenceId s.lcu.cells[i].record = w.param
      let live := fun (i : Fin 32) => s.lcu.cells[i].state = .valid ∨ s.lcu.cells[i].state = .lapsed
      let only := fun (i : Fin 32) => named i ∧ ((live i ∧ ∀ j, live j → named j → j = i) ∨
        (s.lcu.cells[i].state = .damaged ∧ (∀ j, live j → ¬ named j) ∧
          ∀ j, j < i → s.lcu.cells[j].state = .damaged → ¬ named j))
      let base := fun (i : Fin 32) => licenceKind s.lcu.cells[i].record = some .base
      let taken := s.takeWord .lcu
      ((∀ i, named i → s.lcu.cells[i].state = .empty) →
        exec .licenceRemove s = .next { taken with
          lcu := { s.lcu with task := .idle }
          bus := taken.bus.refuse .lcu .notFound (details 32 0 0 0) }) ∧
      (∀ i, only i → base i → s.lcu.cells[i].state ≠ .damaged →
        exec .licenceRemove s = .next { taken with
          lcu := { s.lcu with task := .idle }
          bus := taken.bus.refuse .lcu .protectedCell (details i.val (cellStateCode s.lcu.cells[i].state) 0 0) }) ∧
      (∀ i, only i → ¬ base i → s.lcu.cells[i].state = .valid →
        let cells := setAt s.lcu.cells i { s.lcu.cells[i] with withdrawing := true }
        exec .licenceRemove s = .next { taken with
          lcu := { s.lcu with task := .removeWithdrawing i, cells := cells, withdrawal := .removal i }
          bus := { taken.bus with lcuPtu := s.bus.lcuPtu ++ [.withdrawal (sentOf cells)] } }) ∧
      (∀ i, only i → (s.lcu.cells[i].state = .damaged ∨ (s.lcu.cells[i].state = .lapsed ∧ ¬ base i)) →
        ∃ t, exec .licenceRemove s = .next t ∧ t = { taken with lcu := t.lcu, bus := t.bus } ∧
          t.lcu = { s.lcu with
            task := .erasing i s.lcu.cells[i].state 0
            cells := t.lcu.cells, granted := grantedOf t.lcu.cells
            storeQueue := t.lcu.storeQueue, lst := { s.lcu.lst with busy := t.lcu.lst.busy } } ∧
          t.lcu.cells[i].state = .empty ∧ (∀ j, j ≠ i → t.lcu.cells[j] = s.lcu.cells[j]) ∧
          t.lcu.stores { cell := i, content := .erase, who := .task } ∧
          t.bus = { taken.bus with
            toSpw := s.bus.toSpw ++ [.licenceSummary]
            toAtu := s.bus.toAtu ++ (if s.lcu.cells[i].state = .lapsed then
              [{ raised := false, kind := .licenceLapsed, object := i.val }] else []) })) ∧
  (∀ (s : State) (a : Fin 16) (w : TaskWord) (rest : List (Fin 16 × TaskWord)),
      s.bus.station .lcu = { queue := (a, w) :: rest, service := none } →
      (w.is .licenceFreeze = true →
        exec .licenceFreeze s = .next { s.takeWord .lcu with
          lcu := { s.lcu with task := .idle, freeze := true }
          bus := (s.takeWord .lcu).bus.closeNormal .lcu (details (if s.lcu.freeze then 1 else 0) 0 0 0) }) ∧
      (w.is .licenceReport = true → w.count ≠ 0 → (∃ i : Fin 32, s.lcu.cells[i].state ≠ .empty) →
        ∃ t n, exec .licenceReport s = .next t ∧
          t = { s with lcu := { s.lcu with task := .reporting n }, host := t.host, bus := t.bus } ∧
          n = (indices 32).countP (fun i => s.lcu.cells[i].state ≠ .empty) ∧
          (t.bus.station .lcu).queue = rest ∧ t.bus.outcomes = s.bus.outcomes ∧
          ∃ sv, t.bus.service .lcu = some sv ∧ sv.anchor = some a ∧ sv.word = w ∧
            sv.output.length = 72 * n ∧
            sv.output = ((indices 32).filter (fun i => s.lcu.cells[i].state ≠ .empty)).flatMap
              (fun i => licenceEntryBytes i s.lcu.cells[i])))

/-- R31: an hour tick takes 1 hour from each VALID TRIAL cell that has hours and no withdrawing mark and queues a write of
each; the lapses due go out as one withdrawal when none is outstanding; nothing else of the table changes. R25, R28 and
R32, the answer to a withdrawal: withdrawn lapses become LAPSED with LICENCE_LAPSED raised for each; a withdrawn
removal empties its cell and queues the erase; the marks go, Gk is computed again and the licence summary is marked. R32
gives the LICENCE_LAPSED requests of one answer no order; the ascending cell order is the model's (log entry 62). -/
def Obligations.HoursLapseThroughAWithdrawal : Prop :=
  (∀ (s : State) (n : Nat), s.bus.hourTicks = n + 1 →
      let counts := fun (x : LicenceCell) =>
        x.state = .valid ∧ licenceKind x.record = some .trial ∧ 1 ≤ x.hours ∧ x.withdrawing = false
      let later := s.lcu.cells.map (fun x => if counts x then { x with hours := x.hours - 1 } else x)
      let due := fun (x : LicenceCell) =>
        x.state = .valid ∧ licenceKind x.record = some .trial ∧ x.hours = 0 ∧ x.withdrawing = false
      let sends := s.lcu.withdrawal = .idle ∧ ∃ i : Fin 32, due later[i]
      ∃ t, exec .hourTick s = .next t ∧ t = { s with lcu := t.lcu, bus := t.bus } ∧
        t.lcu = { s.lcu with
          cells := if sends then later.map (fun x => if due x then { x with withdrawing := true } else x) else later
          withdrawal := if sends then .lapse else s.lcu.withdrawal
          storeQueue := t.lcu.storeQueue
          lst := { s.lcu.lst with busy := t.lcu.lst.busy } } ∧
        (∀ i : Fin 32, counts s.lcu.cells[i] → ∃ e, t.lcu.stores e ∧ e.cell = i ∧
          e.content = .write (s.lcu.cells[i].hours - 1) s.lcu.cells[i].record) ∧
        t.bus = { s.bus with
          hourTicks := n
          lcuPtu := s.bus.lcuPtu ++ (if sends then [.withdrawal (sentOf t.lcu.cells)] else []) }) ∧
  (∀ (s : State) (n : Nat), s.bus.ptuLcu = n + 1 → s.lcu.withdrawal = .lapse →
    (∀ i : Fin 32, s.lcu.cells[i].withdrawing = false → lapseDue s.lcu.cells[i] = false) →
    (∀ id, s.lcu.task ≠ .removeWaiting id) →
    let cells := s.lcu.cells.map (fun x => if x.withdrawing then { x with state := .lapsed, withdrawing := false } else x)
    exec .withdrawalAnswer s = .next { s with
      lcu := { s.lcu with withdrawal := .idle, cells := cells, granted := grantedOf cells }
      bus := { s.bus with
        ptuLcu := n
        toAtu := s.bus.toAtu ++ ((indices 32).filter (fun i => s.lcu.cells[i].withdrawing)).map
          (fun i => { raised := true, kind := .licenceLapsed, object := i.val })
        toSpw := s.bus.toSpw ++ [.licenceSummary] } }) ∧
  (∀ (s : State) (n : Nat) (i : Fin 32), s.bus.ptuLcu = n + 1 → s.lcu.withdrawal = .removal i →
    (∀ j : Fin 32, j ≠ i → lapseDue s.lcu.cells[j] = false) →
    ∃ t, exec .withdrawalAnswer s = .next t ∧ t = { s with lcu := t.lcu, bus := t.bus } ∧
      t.lcu = { s.lcu with
        task := .erasing i .valid (licenceSeats s.lcu.cells[i].record)
        withdrawal := .idle
        cells := t.lcu.cells, granted := grantedOf t.lcu.cells
        storeQueue := t.lcu.storeQueue, lst := { s.lcu.lst with busy := t.lcu.lst.busy } } ∧
      t.lcu.cells[i].state = .empty ∧ (∀ j : Fin 32, j ≠ i → t.lcu.cells[j] = s.lcu.cells[j]) ∧
      t.lcu.stores { cell := i, content := .erase, who := .task } ∧
      t.bus = { s.bus with ptuLcu := n, toSpw := s.bus.toSpw ++ [.licenceSummary] })


/-! ### Power Budget Unit -/

/-- R52, R53 and R54, outside the start-up hold: a claim with need n is granted exactly when n is 0 or less or at most H; on
a grant the entry takes its new content, D changes by n, and the answer carries n; a refused claim changes nothing.
Where the fall of D brings H to 0 or above, the over-budget machine is WITHIN. -/
def Obligations.ClaimsAreJudgedByTheHeadroom : Prop :=
  ∀ (s : State), s.pbu.Sound → s.pbu.hold = false →
    let h := s.pbu.headroom
    let watts := s.pbu.policy.port
    let onList := fun (e : SlotEntry) => (e.ports.map (fun x => watts.get x.2)).sum
    let waking := fun (e : SlotEntry) => (e.ws : Int) - e.wsb + onList e
    let granted := fun (n : Int) => n ≤ 0 ∨ n ≤ h
    let after := fun (i : Slot) (n : Int) (e : SlotEntry) =>
      let back := 0 ≤ h - n
      { s.pbu with
        slots := setAt s.pbu.slots i e
        demand := (s.pbu.demand + n).toNat
        budget := if back then BudgetState.within else s.pbu.budget
        graceTimer := if back then Timer.stopped else s.pbu.graceTimer
        intervalTimer := if back then Timer.stopped else s.pbu.intervalTimer }
    let ptuJudged := fun (c : Instr) (rest : List PtuToPbu) (i : Slot) (n : Int) (e : SlotEntry) (g : Grant) =>
      ∃ t, exec c s = .next t ∧
        t = { s with pbu := if granted n then after i n e else s.pbu, bus := t.bus } ∧
        t.bus = { s.bus with
          ptuPbu := rest
          pbuPtu := s.bus.pbuPtu ++ [if granted n then { grant := g, amount := n } else { grant := .refused, amount := 0 }]
          toSpw := t.bus.toSpw
          toAtu := t.bus.toAtu }
    (∀ p t rest, s.bus.ptuPbu = .portClaim p t :: rest → (∀ x ∈ s.pbu.slots[slotOf p].ports, x.1 ≠ p) →
      let e := s.pbu.slots[slotOf p]
      let e' := { e with ports := e.ports ++ [(p, t)] }
      (e.standing = .powered → ptuJudged .portClaim rest (slotOf p) (watts.get t) e' .granted) ∧
      (e.standing = .standby → ptuJudged .portClaim rest (slotOf p) (waking e + watts.get t)
        { e' with standing := .powered } .grantedWithWake) ∧
      (e.standing = .unpowered → ptuJudged .portClaim rest (slotOf p) 0 e' .granted)) ∧
    (∀ p old new was rest, s.bus.ptuPbu = .tierClaim p old new :: rest → (p, was) ∈ s.pbu.slots[slotOf p].ports →
      let e := s.pbu.slots[slotOf p]
      let e' := { e with ports := e.ports.map (fun x => if x.1 = p then (p, new) else x) }
      ptuJudged .tierClaim rest (slotOf p)
        (if e.standing = .powered then (watts.get new : Int) - watts.get was else 0) e' .granted) ∧
    (∀ i rest, s.bus.ptuPbu = .wakeClaim i :: rest →
      let e := s.pbu.slots[i]
      (e.standing = .standby →
        ptuJudged .wakeClaimJudged rest i (waking e) { e with standing := .powered } .grantedWithWake) ∧
      (e.standing ≠ .standby → ptuJudged .wakeClaimJudged rest i 0 e .granted)) ∧
    (∀ i ws wsb rest, s.bus.slsPbu = .slotClaim i ws wsb :: rest →
      let e := s.pbu.slots[i]
      let n : Int := match e.standing with
        | .unpowered => (ws : Int) + onList e
        | .standby => waking e
        | .powered => 0
      let e' := match e.standing with
        | .unpowered => { e with ws := ws, wsb := min wsb ws, standing := Standing.powered }
        | .standby => { e with standing := Standing.powered }
        | .powered => e
      let yes := e.shedPending = false ∧ granted n
      ∃ t, exec .slotClaim s = .next t ∧
        t = { s with pbu := if yes then after i n e' else s.pbu, bus := t.bus } ∧
        t.bus = { s.bus with
          slsPbu := rest
          pbuSls := s.bus.pbuSls ++ [.claimAnswer i (decide yes) (if yes then n else 0)]
          toSpw := t.bus.toSpw
          toAtu := t.bus.toAtu })

/-- R49, R50, R55 and R60: releases, duty reports, priorities and shed answers take effect as they are taken, in the
start-up hold and out of it; D is the sum of R51 over the new table, and no release is answered. (A tier return to a
tier of no more watts, and a duty report that leaves H at 0 or above: ShedsTheLowestPriority says what follows else.) -/
def Obligations.ReleasesTakeEffectWhenTaken : Prop :=
  ∀ (s : State), s.pbu.Sound →
    let watts := s.pbu.policy.port
    let settled := fun (c : Instr) (b : Bus) (u : Pbu) =>
      let d := demandOf u.policy.wb u.policy.port u.trays u.slots
      let back := u.hold = false ∧ 0 ≤ (u.usable : Int) - d
      ∃ t, exec c s = .next t ∧
        t = { s with
          pbu := { u with
            demand := d
            budget := if back then BudgetState.within else u.budget
            graceTimer := if back then Timer.stopped else u.graceTimer
            intervalTimer := if back then Timer.stopped else u.intervalTimer }
          bus := t.bus } ∧
        t.bus = { b with toSpw := t.bus.toSpw, toAtu := t.bus.toAtu }
    let entry := fun (i : Slot) (e : SlotEntry) => { s.pbu with slots := setAt s.pbu.slots i e }
    (∀ p rest, s.bus.ptuPbu = .portRelease p :: rest →
      let e := s.pbu.slots[slotOf p]
      settled .portRelease { s.bus with ptuPbu := rest }
        (entry (slotOf p) { e with ports := e.ports.filter (fun x => x.1 ≠ p) })) ∧
    (∀ p was old rest, s.bus.ptuPbu = .tierReturn p old :: rest → (p, was) ∈ s.pbu.slots[slotOf p].ports →
      watts.get old ≤ watts.get was →
      let e := s.pbu.slots[slotOf p]
      settled .tierReturn { s.bus with ptuPbu := rest }
        (entry (slotOf p) { e with ports := e.ports.map (fun x => if x.1 = p then (p, old) else x) })) ∧
    (∀ i rest, s.bus.slsPbu = .stepDown i :: rest →
      let e := s.pbu.slots[i]
      settled .standbyStepDown { s.bus with slsPbu := rest }
        (entry i (if e.standing = .powered then { e with standing := .standby } else e))) ∧
    (∀ i rest, s.bus.slsPbu = .slotRelease i :: rest →
      settled .slotRelease { s.bus with slsPbu := rest }
        (entry i { s.pbu.slots[i] with standing := .unpowered })) ∧
    (∀ r rest, s.bus.clcPbu = r :: rest →
      let u := { s.pbu with
        trays := setAt s.pbu.trays r.tray { present := r.present, fmax := r.fmax, duty := r.duty } }
      0 ≤ (u.usable : Int) - demandOf u.policy.wb u.policy.port u.trays u.slots →
      settled .dutyReport { s.bus with clcPbu := rest } u) ∧
    (∀ i v rest, s.bus.slsPbu = .priority i v :: rest →
      exec .priorityUpdate s = .next { s with
        pbu := entry i { s.pbu.slots[i] with priority := v }, bus := { s.bus with slsPbu := rest } }) ∧
    (∀ i shed rest, s.bus.slsPbu = .shedAnswer i shed :: rest →
      exec .shedAnswer s = .next { s with
        pbu := entry i { s.pbu.slots[i] with shedPending := false }, bus := { s.bus with slsPbu := rest } })

/-- R58, R59 and R60: a duty report that takes H below 0 from WITHIN starts the grace of the policy, or with a grace figure
of 0 sheds at once; from another state it changes neither the state nor the timers. At the expiry of the grace or interval
timer the candidate of lowest priority value, and among equals of highest slot number, is shed:
UNPOWERED, marked, ordered off, D without it; the machine is then in SHEDDING with its 1 s timer, or WITHIN when H is
back. With no candidate it is EXHAUSTED. -/
def Obligations.ShedsTheLowestPriority : Prop :=
  (∀ (s : State) (r : DutyReport) (rest : List DutyReport), s.pbu.Sound → s.pbu.hold = false →
    s.bus.clcPbu = r :: rest → s.pbu.budget = .within → s.pbu.policy.grace ≠ 0 →
    let u := { s.pbu with
      trays := setAt s.pbu.trays r.tray { present := r.present, fmax := r.fmax, duty := r.duty } }
    let d := demandOf u.policy.wb u.policy.port u.trays u.slots
    (u.usable : Int) - d < 0 →
    exec .dutyReport s = .next { s with
      pbu := { u with demand := d, budget := .grace, graceTimer := .running (1000 * s.pbu.policy.grace) }
      bus := { s.bus with
        clcPbu := rest
        toSpw := s.bus.toSpw ++ [.header, .header]
        toAtu := s.bus.toAtu ++ [{ raised := true, kind := .overBudget, object := 0 }] } }) ∧
  (∀ (s : State) (r : DutyReport) (rest : List DutyReport), s.pbu.Sound → s.pbu.hold = false →
    s.bus.clcPbu = r :: rest →
    let u := { s.pbu with
      trays := setAt s.pbu.trays r.tray { present := r.present, fmax := r.fmax, duty := r.duty } }
    let d := demandOf u.policy.wb u.policy.port u.trays u.slots
    let raise : AlarmRequest := { raised := true, kind := .overBudget, object := 0 }
    (u.usable : Int) - d < 0 →
    (s.pbu.budget ≠ .within → exec .dutyReport s = .next { s with
      pbu := { u with demand := d }
      bus := { s.bus with
        clcPbu := rest, toSpw := s.bus.toSpw ++ (if d = s.pbu.demand then [] else [.header]) } }) ∧
    (s.pbu.budget = .within → s.pbu.policy.grace = 0 →
      ((∀ i : Slot, s.pbu.slots[i].standing = .unpowered) → exec .dutyReport s = .next { s with
        pbu := { u with demand := d, budget := .exhausted }
        bus := { s.bus with
          clcPbu := rest, toSpw := s.bus.toSpw ++ [.header, .header], toAtu := s.bus.toAtu ++ [raise] } }) ∧
      (∀ v : Slot, s.pbu.slots[v].standing ≠ .unpowered →
        (∀ i : Slot, s.pbu.slots[i].standing ≠ .unpowered → i ≠ v →
          s.pbu.slots[v].priority < s.pbu.slots[i].priority ∨
            (s.pbu.slots[v].priority = s.pbu.slots[i].priority ∧ i < v)) →
        let slots := setAt s.pbu.slots v { s.pbu.slots[v] with standing := .unpowered, shedPending := true }
        let less := demandOf u.policy.wb u.policy.port u.trays slots
        let back := 0 ≤ (u.usable : Int) - less
        ∃ t, exec .dutyReport s = .next t ∧
          t = { s with
            pbu := { u with
              slots := slots, demand := less, budget := if back then .within else .shedding
              intervalTimer := if back then .stopped else .running 1000 }
            bus := t.bus } ∧
          t.bus = { s.bus with
            clcPbu := rest
            pbuSls := s.bus.pbuSls ++ [.shedOrder v]
            toSpw := t.bus.toSpw
            toAtu := s.bus.toAtu ++ [raise] ++
              (if back then [{ raised := false, kind := .overBudget, object := 0 }] else []) }))) ∧
  (∀ (s : State) (c : Instr), s.pbu.Sound →
    (c = .graceTimerExpiry ∧ s.pbu.budget = .grace ∧ s.pbu.graceTimer ≠ .runOut) ∨
      (c = .intervalTimerExpiry ∧ s.pbu.budget = .shedding ∧ s.pbu.intervalTimer ≠ .runOut) →
    (∀ v : Slot, s.pbu.slots[v].standing ≠ .unpowered →
      (∀ i : Slot, s.pbu.slots[i].standing ≠ .unpowered → i ≠ v →
        s.pbu.slots[v].priority < s.pbu.slots[i].priority ∨
          (s.pbu.slots[v].priority = s.pbu.slots[i].priority ∧ i < v)) →
      let slots := setAt s.pbu.slots v { s.pbu.slots[v] with standing := .unpowered, shedPending := true }
      let d := demandOf s.pbu.policy.wb s.pbu.policy.port s.pbu.trays slots
      let back := 0 ≤ (s.pbu.usable : Int) - d
      ∃ t, exec c s = .next t ∧
        t = { s with
          pbu := { s.pbu with
            slots := slots
            demand := d
            budget := if back then .within else .shedding
            graceTimer := .stopped
            intervalTimer := if back then .stopped else .running 1000 }
          bus := t.bus } ∧
        t.bus = { s.bus with
          pbuSls := s.bus.pbuSls ++ [.shedOrder v]
          toSpw := t.bus.toSpw
          toAtu := s.bus.toAtu ++ (if back then [{ raised := false, kind := .overBudget, object := 0 }] else []) }) ∧
    ((∀ i : Slot, s.pbu.slots[i].standing = .unpowered) →
      exec c s = .next { s with
        pbu := { s.pbu with budget := .exhausted, graceTimer := .stopped, intervalTimer := .stopped }
        bus := { s.bus with toSpw := s.bus.toSpw ++ [.header] } }))

/-- R41 and R42: presence gained in ABSENT starts the inventory read; a failed first or second try waits 100 ms and is
made again; the third makes the module UNKNOWN_MODULE; a good try gives Wr, Tin 60 with HELD(3), the state of the lines
and a telemetry poll at once. The tags of the requests are the model's own (log entry 32), and that the alarm of the module
is asked for before those of the budget is its choice (log entry 63). -/
def Obligations.ModuleIdentificationMakesThreeTries : Prop :=
  (∀ (s : State) (b : Fin 4) (rest : List (Fin 4 × Bool)), s.bus.tbPbu = (b, true) :: rest → s.pbu.Sound →
    s.pbu.modules[b].state = .absent →
    let m := { s.pbu.modules[b] with state := ModuleState.identifying, tryNo := some 1, retryTimer := Timer.stopped }
    exec .bayPresenceGained s = .next { s with
      pbu := { s.pbu with modules := setAt s.pbu.modules b m }
      bus := { s.bus with
        tbPbu := rest
        toSpw := s.bus.toSpw ++ [.moduleBay b]
        toMlc := s.bus.toMlc ++
          [{ who := .pbu, dev := .moduleBay b, cmd := .inventory, tag := s.pbu.modules[b].epoch }] } }) ∧
  (∀ (s : State) (b : Fin 4) (ms : Nat), s.pbu.Sound → s.pbu.modules[b].retryTimer = .running ms →
    exec (.moduleRetryTimer b) s = .next { s with
      pbu := { s.pbu with modules := setAt s.pbu.modules b { s.pbu.modules[b] with retryTimer := .stopped } }
      bus := { s.bus with
        toSpw := s.bus.toSpw ++ [.moduleBay b]
        toMlc := s.bus.toMlc ++
          [{ who := .pbu, dev := .moduleBay b, cmd := .inventory, tag := s.pbu.modules[b].epoch }] } }) ∧
  (∀ (s : State) (b : Fin 4) (o : LineOutcome) (n : Nat) (rest : List MlcAnswer), s.pbu.Sound →
    let m := s.pbu.modules[b]
    s.bus.mlcPbu = { req := { who := .pbu, dev := .moduleBay b, cmd := .inventory, tag := m.epoch }, outcome := o } ::
      rest → m.state = .identifying → m.tryNo = some n → m.retryTimer = .stopped →
    let good := fun (w : Nat) => ∃ data, o = .ok data ∧ field data 0 2 = w ∧ 200 ≤ w ∧ w ≤ 4000
    ((∀ w, ¬ good w) → n < 3 → exec .moduleInventoryAnswer s = .next { s with
      pbu := { s.pbu with modules := setAt s.pbu.modules b { m with tryNo := some (n + 1), retryTimer := .running 100 } }
      bus := { s.bus with mlcPbu := rest, toSpw := s.bus.toSpw ++ [.moduleBay b] } }) ∧
    ((∀ w, ¬ good w) → 3 ≤ n → ∃ t, exec .moduleInventoryAnswer s = .next t ∧
      t = { s with pbu := t.pbu, bus := t.bus } ∧
      t.pbu.modules = setAt s.pbu.modules b { m with state := .unknownModule, wr := 0, tryNo := none } ∧
      t.pbu.finished = setAt s.pbu.finished b true ∧ t.pbu.usable = s.pbu.usable ∧ t.pbu.slots = s.pbu.slots ∧
      t.bus.toAtu = s.bus.toAtu ++ [{ raised := true, kind := .moduleUnknown, object := b.val }] ∧
      t.bus.toMlc = s.bus.toMlc) ∧
    (∀ w, good w → ∃ t, exec .moduleInventoryAnswer s = .next t ∧
      t = { s with pbu := t.pbu, bus := t.bus } ∧
      let st : ModuleState := if s.pins.inputOk[b] = false then .inputLost
        else if s.pins.outputOk[b] = false then .outputFault else .ok
      t.pbu.modules = setAt s.pbu.modules b { m with
        state := st, wr := w, tin := 60, telemetry := .held3, tryNo := none
        polls := m.polls ++ [m.epoch], available := if st = .ok then w * 500 / 1000 else 0 } ∧
      t.pbu.policy = s.pbu.policy ∧ t.pbu.trays = s.pbu.trays ∧
      t.bus.toMlc = s.bus.toMlc ++ [{ who := .pbu, dev := .moduleBay b, cmd := .telemetry, tag := m.epoch }] ∧
      s.bus.toAtu ++ (match st with
        | .inputLost => [{ raised := true, kind := .moduleInputLost, object := b.val }]
        | .outputFault => [{ raised := true, kind := .moduleFault, object := b.val }]
        | _ => []) <+: t.bus.toAtu))

/-- R41, R43 and R44: a live module takes the state of its lines with the alarms of R43; a poll's answer sets Tin,
output watts and the telemetry state; presence lost clears the record, its alarms and the tries. The available watts and
U follow each time. The tags of the requests are the model's own (log entry 32), and the order of the alarm requests of one
step is its choice (log entry 63). -/
def Obligations.ModuleFollowsLinesPollsAndPresence : Prop :=
  (∀ (s : State) (b : Fin 4) (line : ModuleLine) (level : Bool), s.pbu.Sound →
    (s.pbu.modules[b].state = .ok ∨ s.pbu.modules[b].state = .inputLost ∨ s.pbu.modules[b].state = .outputFault) →
    ∃ t, exec (.moduleLineChange b line level) s = .next t ∧
      t = { s with pbu := t.pbu, bus := t.bus, pins := t.pins } ∧
      t.pins = (match line with
        | .inputOk => { s.pins with inputOk := setAt s.pins.inputOk b level }
        | .outputOk => { s.pins with outputOk := setAt s.pins.outputOk b level }) ∧
      let old := s.pbu.modules[b]
      let st : ModuleState := if t.pins.inputOk[b] = false then .inputLost
        else if t.pins.outputOk[b] = false then .outputFault else .ok
      t.pbu.modules = setAt s.pbu.modules b { old with
        state := st
        available := if st = .ok then old.wr * (1000 - 25 * clampInt (old.tin - 40) 0 20).toNat / 1000 else 0 } ∧
      t.pbu.usable = usableOf s.pbu.policy.mode t.pbu.modules ∧
      (st ≠ old.state → s.bus.toAtu ++
        (if old.state = .inputLost then [{ raised := false, kind := .moduleInputLost, object := b.val }] else []) ++
        (if old.state = .outputFault then [{ raised := false, kind := .moduleFault, object := b.val }] else []) ++
        (if st = .inputLost then [{ raised := true, kind := .moduleInputLost, object := b.val }] else []) ++
        (if st = .outputFault then [{ raised := true, kind := .moduleFault, object := b.val }] else [])
          <+: t.bus.toAtu)) ∧
  (∀ (s : State) (b : Fin 4) (o : LineOutcome) (rest : List MlcAnswer), s.pbu.Sound →
    let m := s.pbu.modules[b]
    s.bus.mlcPbu = { req := { who := .pbu, dev := .moduleBay b, cmd := .telemetry, tag := m.epoch }, outcome := o } ::
      rest → (m.state = .ok ∨ m.state = .inputLost ∨ m.state = .outputFault) → m.polls = [m.epoch] →
    ∃ t, exec .telemetryAnswer s = .next t ∧ t = { s with pbu := t.pbu, bus := t.bus } ∧
      (∀ c : Fin 4, c ≠ b → t.pbu.modules[c] = s.pbu.modules[c]) ∧ t.pbu.finished = setAt s.pbu.finished b true ∧
      t.pbu.modules[b].state = m.state ∧ t.pbu.modules[b].wr = m.wr ∧ t.pbu.modules[b].polls = [] ∧
      t.pbu.modules[b].available = (if m.state = .ok
        then m.wr * (1000 - 25 * clampInt (t.pbu.modules[b].tin - 40) 0 20).toNat / 1000 else 0) ∧
      t.pbu.usable = usableOf s.pbu.policy.mode t.pbu.modules ∧
      t.bus.mlcPbu = rest ∧ t.bus.toMlc = s.bus.toMlc ∧
      (∀ data, o = .ok data → -40 ≤ signed16 (field data 0 2) → signed16 (field data 0 2) ≤ 150 →
        t.pbu.modules[b].tin = signed16 (field data 0 2) ∧ t.pbu.modules[b].outputWatts = field data 2 2 ∧
          t.pbu.modules[b].telemetry = .fresh) ∧
      ((∀ data, o = .ok data → signed16 (field data 0 2) < -40 ∨ 150 < signed16 (field data 0 2)) →
        t.pbu.modules[b].outputWatts = m.outputWatts ∧
        t.pbu.modules[b].telemetry = (match m.telemetry with
          | .fresh => .held1
          | .held1 => .held2
          | .held2 | .held3 => .held3) ∧
        t.pbu.modules[b].tin = (match m.telemetry with
          | .fresh | .held1 => m.tin
          | .held2 | .held3 => 60))) ∧
  (∀ (s : State) (b : Fin 4) (rest : List (Fin 4 × Bool)), s.bus.tbPbu = (b, false) :: rest →
    ∃ t, exec .bayPresenceLost s = .next t ∧ t = { s with pbu := t.pbu, bus := t.bus } ∧
      t.pbu.modules = setAt s.pbu.modules b { s.pbu.modules[b] with
        state := .absent, wr := 0, tin := 0, telemetry := .fresh, outputWatts := 0, available := 0
        tryNo := none, retryTimer := .stopped, epoch := s.pbu.modules[b].epoch + 1 } ∧
      t.pbu.usable = usableOf s.pbu.policy.mode t.pbu.modules ∧ t.pbu.finished = setAt s.pbu.finished b true ∧
      t.pbu.policy = s.pbu.policy ∧ t.pbu.trays = s.pbu.trays ∧ t.bus.tbPbu = rest ∧
      s.bus.toAtu ++ [{ raised := false, kind := .moduleInputLost, object := b.val },
        { raised := false, kind := .moduleFault, object := b.val },
        { raised := false, kind := .moduleUnknown, object := b.val }] <+: t.bus.toAtu)

/-- R46: a POWER POLICY that is taken, outside the start-up hold (R56), has its first byte read or its first piece fetched.
When its 32 bytes have arrived, the figures are clamped; a code that names no mode is refused with BAD_POLICY; a rise of D
above H is refused with NO_POWER; else the policy takes the figures, D and U follow, a new idle time goes to the SLS, and
the details give U, D and H after the task and the number of fields clamped. Where H falls below 0 from WITHIN the grace
runs, or with a grace figure of 0 one slot is shed at once (R58). The two phases of the task, and that the idle time goes
out before the shed order, are the model's (log entries 6 and 51). -/
def Obligations.PowerPolicyIsClampedAndJudged : Prop :=
  (∀ (s : State) (a : Fin 16) (w : TaskWord) (rest : List (Fin 16 × TaskWord)),
    s.bus.station .pbu = { queue := (a, w) :: rest, service := none } →
    (s.pbu.hold = true → exec .powerPolicy s = .next s) ∧
    (s.pbu.hold = false → w.is .powerPolicy = true → w.count.toNat ≠ 0 → exec .powerPolicy s = .next { s with
      host := s.host.moving a true w
      bus := { (s.takeWord .pbu).bus with accesses := s.bus.accesses ++ [firstRead a w] } })) ∧
  ∀ (s : State) (sv : Service), s.pbu.Sound → s.bus.service .pbu = some sv → sv.complete = true →
    let b := sv.input
    let wb := min (field b 2 2) 1000
    let t1 := min (field b 4 1) 30
    let t2 := max (min (field b 5 1) 30) t1
    let t3 := max (min (field b 6 1) 30) t2
    let grace := min (field b 7 1) 60
    let idle := min (field b 8 2) 240
    let clamped := [wb != field b 2 2, t1 != field b 4 1, t2 != field b 5 1, t3 != field b 6 1
      , grace != field b 7 1, idle != field b 8 2].countP id
    let port : Counts := { t1 := t1, t2 := t2, t3 := t3 }
    let d := demandOf wb port s.pbu.trays s.pbu.slots
    let words := fun (u d : Nat) (n : Nat) => ({
      w0 := BitVec.ofNat 32 u, w1 := BitVec.ofNat 32 d, w2 := signedWord ((u : Int) - d), w3 := BitVec.ofNat 32 n } :
      Details)
    let fits := (d : Int) - s.pbu.demand ≤ 0 ∨ (d : Int) - s.pbu.demand ≤ s.pbu.headroom
    (field b 0 1 = 0 ∨ 3 < field b 0 1 → exec .powerPolicy s = .next { s with
      bus := s.bus.refuse .pbu .badPolicy (words s.pbu.usable s.pbu.demand 0) }) ∧
    (1 ≤ field b 0 1 → field b 0 1 ≤ 3 → ¬ fits → exec .powerPolicy s = .next { s with
      bus := s.bus.refuse .pbu .noPower (words s.pbu.usable s.pbu.demand clamped) }) ∧
    (1 ≤ field b 0 1 → field b 0 1 ≤ 3 → fits →
      ∃ t, exec .powerPolicy s = .next t ∧ t = { s with pbu := t.pbu, bus := t.bus } ∧
        t.pbu.policy =
          { mode := if field b 0 1 = 1 then .combined else if field b 0 1 = 2 then .nPlus1 else .grid
            wb := wb, port := port, grace := grace, idle := idle } ∧
        t.pbu.usable = usableOf t.pbu.policy.mode s.pbu.modules ∧
        t.pbu.modules = s.pbu.modules ∧ t.pbu.trays = s.pbu.trays ∧
        let told := if idle = s.pbu.policy.idle then [] else [PbuToSls.idleTime idle]
        let falls := (t.pbu.usable : Int) - d < 0 ∧ s.pbu.budget = .within ∧ s.pbu.hold = false
        let bare := ∀ i : Slot, s.pbu.slots[i].standing = .unpowered
        (¬ falls ∨ grace ≠ 0 ∨ bare → t.pbu.slots = s.pbu.slots ∧ t.pbu.demand = d ∧
          t.bus.pbuSls = s.bus.pbuSls ++ told) ∧
        (falls → grace ≠ 0 → t.pbu.budget = .grace ∧ t.pbu.graceTimer = .running (1000 * grace)) ∧
        (falls → grace = 0 → bare → t.pbu.budget = .exhausted) ∧
        (falls → grace = 0 → ∀ v : Slot, s.pbu.slots[v].standing ≠ .unpowered →
          (∀ i : Slot, s.pbu.slots[i].standing ≠ .unpowered → i ≠ v →
            s.pbu.slots[v].priority < s.pbu.slots[i].priority ∨
              (s.pbu.slots[v].priority = s.pbu.slots[i].priority ∧ i < v)) →
          t.pbu.slots = setAt s.pbu.slots v { s.pbu.slots[v] with standing := .unpowered, shedPending := true } ∧
          t.pbu.demand = demandOf wb port s.pbu.trays t.pbu.slots ∧
          t.pbu.budget = (if 0 ≤ t.pbu.headroom then .within else .shedding) ∧
          t.pbu.intervalTimer = (if 0 ≤ t.pbu.headroom then .stopped else .running 1000) ∧
          t.bus.pbuSls = s.bus.pbuSls ++ told ++ [.shedOrder v]) ∧
        t.bus.service .pbu = none ∧
        t.bus.outcomes = s.bus.outcomes ++ [{
          server := .pbu, anchor := sv.anchor, cls := .normal
          details := words t.pbu.usable t.pbu.demand clamped }])

/-- R56: the start-up hold ends when every bay that the scan found present has finished: the machine takes H, and the
claims held, of every kind, are judged in the order they arrived, each against the headroom that those before it have
left: the outcome is that of their own commands, one after another. One slot claim held is judged as R54 says. (H at 0
or above; no POWER POLICY waits.) That one command ends the hold, in this order, is the model's reading (log entry 31).
-/
def Obligations.StartUpHoldReleasesHeldClaims : Prop :=
  (∀ (s : State) (i : Slot) (ws wsb : Nat), s.pbu.Sound → s.pbu.hold = true → s.tb.scanTold = true →
    (∀ b : Fin 4, s.pbu.awaited[b] = true → s.pbu.finished[b] = true) → 0 ≤ s.pbu.headroom →
    s.pbu.heldClaims = [.sls i ws wsb] → s.pbu.slots[i].standing = .unpowered → s.pbu.slots[i].shedPending = false →
    s.oldestWord .pbu = none →
    let e := s.pbu.slots[i]
    let n := ws + listWatts s.pbu.policy.port e.ports
    let free := { s.pbu with hold := false, heldClaims := [] }
    ∃ t, exec .startupHoldRelease s = .next t ∧ t = { s with pbu := t.pbu, bus := t.bus } ∧
      t.pbu = (if n ≤ s.pbu.headroom ∨ n = 0 then { free with
          slots := setAt s.pbu.slots i { e with ws := ws, wsb := min wsb ws, standing := .powered }
          demand := s.pbu.demand + n }
        else free) ∧
      t.bus = { s.bus with
        pbuSls := s.bus.pbuSls ++ [if n ≤ s.pbu.headroom ∨ n = 0 then .claimAnswer i true n else .claimAnswer i false 0]
        toSpw := t.bus.toSpw }) ∧
  (∀ s : State, s.pbu.Sound → s.pbu.hold = true → s.tb.scanTold = true →
    (∀ b : Fin 4, s.pbu.awaited[b] = true → s.pbu.finished[b] = true) → 0 ≤ s.pbu.headroom →
    (∀ c ∈ s.pbu.heldClaims, c.command.isSome = true) → s.oldestWord .pbu = none →
    let released : State := { s with
      pbu := { s.pbu with hold := false, heldClaims := [] }
      bus := { s.bus with ptuPbu := ptuClaimsOf s.pbu.heldClaims, slsPbu := slsClaimsOf s.pbu.heldClaims } }
    ∃ t u, exec .startupHoldRelease s = .next t ∧
      afterAll (s.pbu.heldClaims.filterMap HeldClaim.command) released = some u ∧
      u.bus.ptuPbu = [] ∧ u.bus.slsPbu = [] ∧
      t = { u with bus := { u.bus with ptuPbu := s.bus.ptuPbu, slsPbu := s.bus.slsPbu } })

/-! ### Slot Sequencer -/

/-- R63 and R64: presence gained in EMPTY starts identification; a good answer gives the inventory and sends the sweep;
a failed first or second try is made again after 100 ms; the third enters FAULT with cause INVENTORY and its alarm, and
refuses the SLOT POWER that started it with IDENTIFY_FAILED (R74). The tags of the requests are the model's own (log
entry 32). -/
def Obligations.SlotIdentificationMakesThreeTries : Prop :=
  (∀ (s : State) (i : Slot) (rest : List (Slot × Bool)), s.sls.Sound → s.bus.tbSls = (i, true) :: rest →
    s.sls.slots[i].state = .empty →
    let r := { s.sls.slots[i] with
      state := SlotState.identifying, ident := some { tryNo := 1, sweepPending := false, byTask := false } }
    exec .slotPresenceGained s = .next { s with
      sls := { s.sls with slots := setAt s.sls.slots i r }
      bus := { s.bus with
        tbSls := rest
        slsPtu := s.bus.slsPtu ++ [.report i .identifying .inserted]
        toSpw := s.bus.toSpw ++ [.slot i]
        toMlc := s.bus.toMlc ++ [{ who := .sls, dev := .slotMemory i, cmd := .inventory, tag := r.epoch }] } }) ∧
  (∀ (s : State) (i : Slot) (ms : Nat), s.sls.slots[i].retryTimer = .running ms →
    ∃ t, exec (.slotRetryTimer i) s = .next t ∧
      t = { s with
        sls := { s.sls with slots := setAt s.sls.slots i { s.sls.slots[i] with retryTimer := .stopped } }
        bus := { s.bus with
          toSpw := t.bus.toSpw
          toMlc := s.bus.toMlc ++
            [{ who := .sls, dev := .slotMemory i, cmd := .inventory, tag := s.sls.slots[i].epoch }] } }) ∧
  (∀ (s : State) (i : Slot) (o : LineOutcome) (x : Identification) (rest : List MlcAnswer), s.sls.Sound →
    let r := s.sls.slots[i]
    s.bus.mlcSls = { req := { who := .sls, dev := .slotMemory i, cmd := .inventory, tag := r.epoch }, outcome := o } ::
      rest → r.ident = some x → x.sweepPending = false → r.retryTimer = .stopped →
    let good := fun (v : Inventory) => ∃ data, o = .ok data ∧
      v.ws = field data 0 2 ∧ v.wsb = field data 2 1 ∧ tierNum v.maxTier = field data 3 1 ∧
      v.blade = BitVec.ofNat 8 (field data 4 1) ∧ 50 ≤ v.ws ∧ v.ws ≤ 800 ∧ v.wsb ≤ 100
    (∀ v, good v → ∃ t, exec .slotInventoryAnswer s = .next t ∧
      t = { s with
        sls := { s.sls with slots := setAt s.sls.slots i <|
          { r with inventory := some v, ident := some { x with sweepPending := true } } }
        bus := { s.bus with
          mlcSls := rest
          toSpw := t.bus.toSpw
          slsPtu := s.bus.slsPtu ++ [.sweep i v.maxTier r.epoch] } }) ∧
    ((∀ v, ¬ good v) → x.tryNo < 3 → ∃ t, exec .slotInventoryAnswer s = .next t ∧
      t = { s with
        sls := { s.sls with slots := setAt s.sls.slots i <|
          { r with ident := some { x with tryNo := x.tryNo + 1 }, retryTimer := .running 100 } }
        bus := { s.bus with mlcSls := rest, toSpw := t.bus.toSpw } }) ∧
    ((∀ v, ¬ good v) → 3 ≤ x.tryNo →
      let slots := setAt s.sls.slots i
        { r with state := .fault, cause := .inventory, inventory := none, ident := none, epoch := r.epoch + 1 }
      let bus : Bus := { s.bus with
        mlcSls := rest
        slsPtu := s.bus.slsPtu ++ [.report i .fault .identifyFailed]
        toSpw := s.bus.toSpw ++ [.slot i]
        toAtu := s.bus.toAtu ++ [{ raised := true, kind := .slotPowerFault, object := i.val }] }
      exec .slotInventoryAnswer s = .next { s with
        sls := { s.sls with slots := slots, taskSlot := if x.byTask = true then none else s.sls.taskSlot }
        bus := if x.byTask = true then
            bus.refuse .sls .identifyFailed (details 0 (slotStateCode .fault) 0 (faultCauseCode .inventory))
          else bus }))

/-- R65, R66 and R67: the sweep's answer takes the slot to OFF, and a SLOT POWER that started the identification, or
auto-on, sends the slot claim, deferred behind a withdrawn claim in flight; the answer to a claim made from the state the
slot is still in powers it, or leaves it with SLOT_POWER_DENIED; a granted claim that was withdrawn, made from a state
other than STANDBY, is given back. The answer to a TASK claim closes its task: ADMITTED, refused with NO_POWER, NO_CHANGE
in a slot that a wake request has woken, or refused with SLOT_CHANGED. A deferred admission is then sent where the slot
can be admitted, and else refuses its task with SLOT_CHANGED. That a grant clears the record of the state left (SLOT_SHED,
SLOT_THERMAL_OFF or SLOT_POWER_FAULT) before it clears SLOT_POWER_DENIED, and the tag of the sweep's answer with the count
of identifications ended, are the model's (log entries 63 and 32). -/
def Obligations.AdmissionFollowsTheClaimAnswer : Prop :=
  (∀ (s : State) (i : Slot) (x : Identification) (v : Inventory) (rest : List PtuToSls), s.sls.Sound →
    let r := s.sls.slots[i]
    s.bus.ptuSls = .sweepDone i r.epoch :: rest → r.ident = some x → x.sweepPending = true →
    r.inventory = some v → (∀ k, r.claim = some k → k.withdrawn = true) →
    let off := { r with state := SlotState.off, ident := none, retryTimer := Timer.stopped, epoch := r.epoch + 1 }
    let origin := if x.byTask = true then Origin.task else .autoOn
    let due := x.byTask = true ∨ r.autoOn = true
    exec .sweepDone s = .next { s with
      sls := { s.sls with slots := setAt s.sls.slots i <| { off with
        claim := if due ∧ r.claim = none then some { origin := origin, fromState := .off, withdrawn := false } else r.claim
        deferred := if due ∧ r.claim ≠ none then some origin else r.deferred } }
      bus := { s.bus with
        ptuSls := rest
        slsPtu := s.bus.slsPtu ++ [.report i .off .identified]
        slsPbu := s.bus.slsPbu ++ (if due ∧ r.claim = none then [.slotClaim i v.ws v.wsb] else [])
        toSpw := s.bus.toSpw ++ [.slot i] } }) ∧
  (∀ (s : State) (i : Slot) (k : ClaimInFlight) (granted : Bool) (watts : Int) (rest : List PbuToSls), s.sls.Sound →
    let r := s.sls.slots[i]
    s.bus.pbuSls = .claimAnswer i granted watts :: rest → r.claim = some k → k.origin = .autoOn →
    r.deferred = none → r.orphanTask = false →
    (k.withdrawn = false → k.fromState = r.state → granted = true →
      let waking := r.state = .standby
      let todo : List (Fin 3) := if waking then [1, 2] else [0, 1, 2]
      ∃ t, exec .slotClaimAnswer s = .next t ∧
        t = { s with
          sls := { s.sls with slots := setAt s.sls.slots i <|
            (rampPlace s.pins.railGood[i] (decide waking) todo { r with state := .powering, cause := .none, claim := none }) }
          bus := { s.bus with
            pbuSls := rest
            slsPtu := s.bus.slsPtu ++ [.report i .powering (if waking then .wake else .admitted)]
            toSpw := s.bus.toSpw ++ [.slot i]
            toAtu := s.bus.toAtu ++ (match r.state with
              | .shed => [{ raised := false, kind := .slotShed, object := i.val }]
              | .thermalOff => [{ raised := false, kind := .slotThermalOff, object := i.val }]
              | .fault => [{ raised := false, kind := .slotPowerFault, object := i.val }]
              | _ => []) ++ [{ raised := false, kind := .slotPowerDenied, object := i.val }] } }) ∧
    (k.withdrawn = false → k.fromState = r.state → granted = false → exec .slotClaimAnswer s = .next { s with
      sls := { s.sls with slots := setAt s.sls.slots i { r with claim := none } }
      bus := { s.bus with
        pbuSls := rest
        toAtu := s.bus.toAtu ++ [{ raised := true, kind := .slotPowerDenied, object := i.val }] } }) ∧
    (k.withdrawn = true ∨ k.fromState ≠ r.state → r.state ≠ .powering → r.state ≠ .online →
      exec .slotClaimAnswer s = .next { s with
        sls := { s.sls with slots := setAt s.sls.slots i { r with claim := none } }
        bus := { s.bus with
          pbuSls := rest
          slsPbu := s.bus.slsPbu ++
            (if granted = true ∧ k.fromState ≠ .standby then [.slotRelease i] else []) } })) ∧
  (∀ (s : State) (i : Slot) (k : ClaimInFlight) (granted : Bool) (watts : Int) (rest : List PbuToSls), s.sls.Sound →
    let r := s.sls.slots[i]
    let bus : Bus := { s.bus with pbuSls := rest }
    let words := fun (outcome : Nat) (st : SlotState) (cause : FaultCause) => ({
      w0 := BitVec.ofNat 32 outcome, w1 := BitVec.ofNat 32 (slotStateCode st), w2 := signedWord watts
      w3 := BitVec.ofNat 32 (faultCauseCode cause) } : Details)
    let ends := fun (x : SlotRec) (b : Bus) => exec .slotClaimAnswer s = .next { s with
      sls := { s.sls with taskSlot := none, slots := setAt s.sls.slots i x }, bus := b }
    s.bus.pbuSls = .claimAnswer i granted watts :: rest → r.claim = some k → k.origin = .task →
    r.deferred = none → r.orphanTask = false →
    (k.withdrawn = false → k.fromState = r.state → granted = true →
      let waking := r.state = .standby
      ends
        (rampPlace s.pins.railGood[i] (decide waking) (if waking then [1, 2] else [0, 1, 2])
          { r with state := .powering, cause := .none, claim := none })
        (Bus.closeNormal { bus with
          slsPtu := s.bus.slsPtu ++ [.report i .powering (if waking then .wake else .admitted)]
          toSpw := s.bus.toSpw ++ [.slot i]
          toAtu := s.bus.toAtu ++ (match r.state with
            | .shed => [{ raised := false, kind := .slotShed, object := i.val }]
            | .thermalOff => [{ raised := false, kind := .slotThermalOff, object := i.val }]
            | .fault => [{ raised := false, kind := .slotPowerFault, object := i.val }]
            | _ => []) ++ [{ raised := false, kind := .slotPowerDenied, object := i.val }] }
          .sls (words 2 .powering .none))) ∧
    (k.withdrawn = false → k.fromState = r.state → granted = false →
      ends { r with claim := none } (bus.refuse .sls .noPower (words 0 r.state r.cause))) ∧
    (r.state = .powering ∨ r.state = .online →
      ends { r with claim := none } (bus.closeNormal .sls (words 1 r.state .none))) ∧
    (k.withdrawn = true ∨ k.fromState ≠ r.state → r.state ≠ .powering → r.state ≠ .online →
      ends { r with claim := none }
        (Bus.refuse { bus with
          slsPbu := s.bus.slsPbu ++ (if granted = true ∧ k.fromState ≠ .standby then [.slotRelease i] else []) }
          .sls .slotChanged (words 0 r.state r.cause)))) ∧
  (∀ (s : State) (i : Slot) (k : ClaimInFlight) (o : Origin) (v : Inventory) (granted : Bool) (watts : Int)
      (rest : List PbuToSls), s.sls.Sound →
    let r := s.sls.slots[i]
    s.bus.pbuSls = .claimAnswer i granted watts :: rest → r.claim = some k → k.origin = .autoOn → k.withdrawn = true →
    r.deferred = some o → r.orphanTask = false → r.state ≠ .powering → r.state ≠ .online →
    let back : List SlsToPbu := if granted = true ∧ k.fromState ≠ .standby then [.slotRelease i] else []
    let bus : Bus := { s.bus with pbuSls := rest, slsPbu := s.bus.slsPbu ++ back }
    let quiet := { r with claim := none, deferred := none }
    let admissible := r.state ≠ .empty ∧ r.state ≠ .identifying ∧ r.cause ≠ .inventory
    (admissible → r.inventory = some v → exec .slotClaimAnswer s = .next { s with
      sls := { s.sls with slots := setAt s.sls.slots i <|
        { quiet with claim := some { origin := o, fromState := r.state, withdrawn := false } } }
      bus := { bus with slsPbu := s.bus.slsPbu ++ back ++ [.slotClaim i v.ws v.wsb] } }) ∧
    (¬ admissible → exec .slotClaimAnswer s = .next { s with
      sls := { s.sls with
        slots := setAt s.sls.slots i quiet, taskSlot := if o = .task then none else s.sls.taskSlot }
      bus := if o = .task then
          bus.refuse .sls .slotChanged (details 0 (slotStateCode r.state) 0 (faultCauseCode r.cause))
        else bus }))

/-- R68, R69 and R70: the rise of the rail waited for brings the ramp to its next place; the settle timer brings ONLINE;
the rail timer, and the fall of a confirmed rail, bring FAULT with that rail's cause, every rail low, the slot release
and SLOT_POWER_FAULT. That the confirmed rails are read from the slot's state is the model's (log entry 41). -/
def Obligations.RampsConfirmEachRail : Prop :=
  (∀ (s : State) (i : Slot) (n : Fin 3) (w : Bool), s.sls.Sound →
    let r := s.sls.slots[i]
    r.ramp = some { phase := .railWait n, waking := w } →
    ∃ t, exec (.railGoodRise i n) s = .next t ∧
      t.pins = { s.pins with railGood := setAt s.pins.railGood i (setAt s.pins.railGood[i] n true) } ∧
      t = { s with
        pins := t.pins
        sls := { s.sls with slots := setAt s.sls.slots i <|
          (rampPlace t.pins.railGood[i] w ((indices 3).filter (fun k => n < k)) r) }
        bus := { s.bus with toSpw := t.bus.toSpw } }) ∧
  (∀ (s : State) (i : Slot) (w : Bool), s.sls.Sound →
    let r := s.sls.slots[i]
    r.ramp = some { phase := .settle, waking := w } → r.rampTimer ≠ .stopped → r.rampTimer ≠ .runOut →
    exec (.settleTimerExpiry i) s = .next { s with
      sls := { s.sls with slots := setAt s.sls.slots i { r with
        state := .online, ramp := none, rampTimer := .stopped
        idleTimer := if r.inUse = false ∧ s.sls.idleMinutes ≠ 0 then .running (60000 * s.sls.idleMinutes) else .stopped } }
      bus := { s.bus with
        slsPtu := s.bus.slsPtu ++ [.report i .online .rampDone], toSpw := s.bus.toSpw ++ [.slot i] } }) ∧
  (∀ (s : State) (c : Instr) (i : Slot) (n : Fin 3), s.sls.Sound →
    let r := s.sls.slots[i]
    (c = .railTimerExpiry i ∧ r.rampTimer ≠ .stopped ∧ r.rampTimer ≠ .runOut ∧
        ∃ w, r.ramp = some { phase := .railWait n, waking := w }) ∨
      (c = .railGoodFall i n ∧ (r.state = .online ∨ (r.state = .standby ∧ n = 0) ∨
        (∃ w, r.ramp = some { phase := .settle, waking := w }) ∨
        ∃ k w, r.ramp = some { phase := .railWait k, waking := w } ∧ n < k)) →
    ∃ t, exec c s = .next t ∧
      t.pins = (if c = .railGoodFall i n then
        { s.pins with railGood := setAt s.pins.railGood i (setAt s.pins.railGood[i] n false) } else s.pins) ∧
      t = { s with
        pins := t.pins
        sls := { s.sls with slots := setAt s.sls.slots i { r with
          state := .fault, cause := .rail n, ramp := none, rampTimer := .stopped, idleTimer := .stopped
          railEn := Vector.replicate 3 false } }
        bus := { s.bus with
          slsPtu := s.bus.slsPtu ++ [.report i .fault .railFault]
          slsPbu := s.bus.slsPbu ++ [.slotRelease i]
          toSpw := s.bus.toSpw ++ [.slot i]
          toAtu := s.bus.toAtu ++ [{ raised := true, kind := .slotPowerFault, object := i.val }] } })

/-- R71, R72 and R73: use notices and a new idle time start and stop the idle timers; the expiry takes the slot to STANDBY on
its standby rail with a step-down and no release; a wake request brings STANDBY back by a wake ramp with no claim. -/
def Obligations.IdleSlotsSleepAndWake : Prop :=
  (∀ (s : State) (i : Slot) (used : Bool) (rest : List PtuToSls), s.sls.Sound →
    s.bus.ptuSls = .useNotice i used :: rest →
    let r := s.sls.slots[i]
    ∃ t, exec .useNoticeTaken s = .next t ∧
      t = { s with
        sls := { s.sls with slots := setAt s.sls.slots i { r with
          inUse := used
          idleTimer := if used = true then .stopped
            else if r.inUse = true ∧ r.state = .online ∧ s.sls.idleMinutes ≠ 0 then .running (60000 * s.sls.idleMinutes)
            else r.idleTimer } }
        bus := { s.bus with ptuSls := rest, toSpw := t.bus.toSpw } }) ∧
  (∀ (s : State) (m : Nat) (rest : List PbuToSls), s.bus.pbuSls = .idleTime m :: rest →
    exec .idleTimeUpdate s = .next { s with
      sls := { s.sls with
        idleMinutes := m
        slots := s.sls.slots.map (fun r => { r with
          idleTimer := if r.state = .online ∧ r.inUse = false ∧ m ≠ 0 then .running (60000 * m) else .stopped }) }
      bus := { s.bus with pbuSls := rest } }) ∧
  (∀ (s : State) (i : Slot) (ms : Nat), s.sls.Sound → s.sls.slots[i].idleTimer = .running ms →
    exec (.idleTimerExpiry i) s = .next { s with
      sls := { s.sls with slots := setAt s.sls.slots i { s.sls.slots[i] with
        state := .standby, idleTimer := .stopped, railEn := #v[true, false, false] } }
      bus := { s.bus with
        slsPtu := s.bus.slsPtu ++ [.report i .standby .idle]
        slsPbu := s.bus.slsPbu ++ [.stepDown i]
        toSpw := s.bus.toSpw ++ [.slot i] } }) ∧
  (∀ (s : State) (i : Slot) (rest : List PtuToSls), s.sls.Sound → s.bus.ptuSls = .wake i :: rest →
    (s.sls.slots[i].state = .standby → exec .wakeRequest s = .next { s with
      sls := { s.sls with slots := setAt s.sls.slots i <|
        (rampPlace s.pins.railGood[i] true [1, 2] { s.sls.slots[i] with state := .powering }) }
      bus := { s.bus with
        ptuSls := rest
        slsPtu := s.bus.slsPtu ++ [.report i .powering .wake]
        toSpw := s.bus.toSpw ++ [.slot i]
        toAtu := s.bus.toAtu ++ [{ raised := false, kind := .slotPowerDenied, object := i.val }] } }) ∧
    (s.sls.slots[i].state ≠ .standby → exec .wakeRequest s = .next { s with bus := { s.bus with ptuSls := rest } }))

/-- R74, R75, R76 and R77: SLOT POWER ON of a slot that can be admitted sends its claim, takes over a claim in flight, or
is deferred behind a withdrawn one, with the task in service until the answer; in FAULT with cause INVENTORY it starts
the identification again; in POWERING and ONLINE it closes with NO_CHANGE, and a hot zone refuses it. SLOT POWER OFF of
a slot in POWERING to FAULT takes it to OFF; in OFF it withdraws an AUTO_ON claim, or closes with NO_CHANGE. Both are
refused with NO_SLOT in EMPTY and IDENTIFYING. SLOT CONFIG takes the priority, at most 7, and the auto-on setting. A slot
above 7, and a direction that is neither, are refused with BAD_PARAMETER. The figures of a claim without an inventory,
the drop of a deferred admission in OFF, the command that meets an undefined direction, the free detail words, and the tag of
an inventory request are the model's (log entries 52, 22, 40, 7 and 32). -/
def Obligations.SlotTasksActByTheState : Prop :=
  (∀ (s : State) (a : Fin 16) (w : TaskWord) (rest : List (Fin 16 × TaskWord)) (i : Slot), s.sls.Sound →
    s.bus.station .sls = { queue := (a, w) :: rest, service := none } → w.bits 0 8 = i.val →
    let r := s.sls.slots[i]
    let taken := s.takeWord .sls
    let ends := fun (c : Instr) (slots : Vector SlotRec 8) (b : Bus) =>
      exec c s = .next { taken with sls := { s.sls with taskSlot := none, slots := slots }, bus := b }
    let words := fun (outcome : Nat) => details outcome (slotStateCode r.state) 0 (faultCauseCode r.cause)
    (w.is .slotPower = true → w.bits 8 8 = 1 →
      (r.state = .off ∨ r.state = .shed ∨ r.state = .standby ∨
        (r.state = .thermalOff ∧ s.sls.hot[zoneOfSlot i] = false) ∨ (r.state = .fault ∧ r.cause ≠ .inventory)) →
      let figures := match r.inventory with
        | some v => (v.ws, v.wsb)
        | none => (0, 0)
      let claiming := match r.claim with
        | none => { r with claim := some { origin := Origin.task, fromState := r.state, withdrawn := false } }
        | some k => if k.withdrawn = true then { r with deferred := some .task }
          else { r with claim := some { k with origin := .task } }
      exec .slotPowerOn s = .next { taken with
        sls := { s.sls with taskSlot := some i, slots := setAt s.sls.slots i claiming }
        bus := { taken.bus with
          slsPbu := s.bus.slsPbu ++ (if r.claim = none then [.slotClaim i figures.1 figures.2] else []) } }) ∧
    (w.is .slotPower = true → w.bits 8 8 = 1 → r.state = .fault → r.cause = .inventory →
      exec .slotPowerOn s = .next { taken with
        sls := { s.sls with
          taskSlot := some i
          slots := setAt s.sls.slots i { r with
            state := .identifying, cause := .none
            ident := some { tryNo := 1, sweepPending := false, byTask := true } } }
        bus := { taken.bus with
          slsPtu := s.bus.slsPtu ++ [.report i .identifying .inserted]
          toSpw := s.bus.toSpw ++ [.slot i]
          toAtu := s.bus.toAtu ++ [{ raised := false, kind := .slotPowerFault, object := i.val }]
          toMlc := s.bus.toMlc ++ [{ who := .sls, dev := .slotMemory i, cmd := .inventory, tag := r.epoch }] } }) ∧
    (∀ c : Instr, w.is .slotPower = true →
      (c = .slotPowerOn ∧ w.bits 8 8 = 1) ∨ (c = .slotPowerOff ∧ w.bits 8 8 = 2) →
      r.state = .empty ∨ r.state = .identifying → ends c s.sls.slots (taken.bus.refuse .sls .noSlot (words 0))) ∧
    (w.is .slotPower = true → w.bits 8 8 = 1 → r.state = .powering ∨ r.state = .online →
      ends .slotPowerOn s.sls.slots (taken.bus.closeNormal .sls (words 1))) ∧
    (w.is .slotPower = true → w.bits 8 8 = 2 → r.state = .off →
      let auto := r.claim.any (fun k => k.origin == .autoOn)
      ends .slotPowerOff
        (setAt s.sls.slots i { r with
          claim := if auto then r.claim.map (fun k => { k with withdrawn := true }) else r.claim
          deferred := if r.claim ≠ none ∧ r.deferred = some .autoOn then none else r.deferred })
        (taken.bus.closeNormal .sls (words (if auto then 3 else 1)))) ∧
    (w.is .slotPower = true → w.bits 8 8 ≠ 1 → w.bits 8 8 ≠ 2 →
      ends .slotPowerOn s.sls.slots
        (taken.bus.refuse .sls .badParameter (details 0 0 0 (faultCauseCode r.cause)))) ∧
    (w.is .slotPower = true → w.bits 8 8 = 1 → r.state = .thermalOff → s.sls.hot[zoneOfSlot i] = true →
      exec .slotPowerOn s = .next { taken with
        sls := { s.sls with taskSlot := none }
        bus := taken.bus.refuse .sls .tooHot (details 0 (slotStateCode .thermalOff) 0 (faultCauseCode .none)) }) ∧
    (w.is .slotPower = true → w.bits 8 8 = 2 →
      r.state ≠ .empty → r.state ≠ .identifying → r.state ≠ .off →
      let powered := r.state = .powering ∨ r.state = .online ∨ r.state = .standby
      ∃ t, exec .slotPowerOff s = .next t ∧
        t = { taken with
          sls := { s.sls with
            taskSlot := none
            slots := setAt s.sls.slots i { r with
              state := .off, cause := .none, ramp := none, rampTimer := .stopped, idleTimer := .stopped
              railEn := Vector.replicate 3 false } }
          bus := t.bus } ∧
        t.bus.slsPtu = s.bus.slsPtu ++ [.report i .off .hostOff] ∧
        t.bus.slsPbu = s.bus.slsPbu ++ (if powered then [.slotRelease i] else []) ∧
        t.bus.toAtu = s.bus.toAtu ++ (match r.state with
          | .shed => [{ raised := false, kind := .slotShed, object := i.val }]
          | .thermalOff => [{ raised := false, kind := .slotThermalOff, object := i.val }]
          | .fault => [{ raised := false, kind := .slotPowerFault, object := i.val }]
          | _ => []) ∧
        t.bus.service .sls = none ∧ t.bus.outcomes = s.bus.outcomes ++ [{
          server := .sls, anchor := some a, cls := .normal
          details := details 3 (slotStateCode .off) 0 (faultCauseCode .none) }]) ∧
    (w.is .slotConfig = true →
      let p := min (w.bits 8 8) 7
      ∃ t, exec .slotConfig s = .next t ∧
        t = { taken with
          sls := { s.sls with
            taskSlot := none, slots := setAt s.sls.slots i { r with priority := p, autoOn := w.bits 16 1 == 1 } }
          bus := t.bus } ∧
        t.bus.slsPbu = s.bus.slsPbu ++ (if p = r.priority then [] else [.priority i p]) ∧
        PageRecord.slot i ∈ t.bus.toSpw ∧
        t.bus.service .sls = none ∧ t.bus.outcomes = s.bus.outcomes ++ [{
          server := .sls, anchor := some a, cls := .normal
          details := details p (w.bits 16 1) (if 7 < w.bits 8 8 then 1 else 0) (slotStateCode r.state) }])) ∧
  (∀ (s : State) (a : Fin 16) (w : TaskWord) (rest : List (Fin 16 × TaskWord)), s.sls.Sound →
    s.bus.station .sls = { queue := (a, w) :: rest, service := none } → 8 ≤ w.bits 0 8 →
    let taken := s.takeWord .sls
    let n := s.bus.freeUsed
    let refused := fun (c : Instr) (used : Nat) (d : Details) => exec c s = .next { taken with
      sls := { s.sls with taskSlot := none }
      bus := Bus.refuse { taken.bus with freeUsed := n + used } .sls .badParameter d }
    (w.is .slotPower = true →
      refused (if w.bits 8 8 = 2 then .slotPowerOff else .slotPowerOn) 1 { Details.zero with w3 := Config.freeWord n }) ∧
    (w.is .slotConfig = true → refused .slotConfig 4 {
      w0 := Config.freeWord n, w1 := Config.freeWord (n + 1), w2 := Config.freeWord (n + 2)
      w3 := Config.freeWord (n + 3) }))

/-- R78, R79 and R80: a shed order, a thermal-off order and a presence loss take a powered slot out of service with every
rail low and the slot release; the orders find any other slot without effect, but for the answer NO_EFFECT; a hot flag is
as last reported. A loss during an identification that a SLOT POWER started refuses it with SLOT_CHANGED. The count of
identifications ended, by which late answers are known, is the model's own (log entry 32). -/
def Obligations.OrdersAndRemovalDropThePower : Prop :=
  (∀ (s : State) (i : Slot) (rest : List PbuToSls), s.sls.Sound → s.bus.pbuSls = .shedOrder i :: rest →
    let r := s.sls.slots[i]
    let powered := r.state = .powering ∨ r.state = .online ∨ r.state = .standby
    (powered → exec .shedOrder s = .next { s with
      sls := { s.sls with slots := setAt s.sls.slots i { r with
        state := .shed, ramp := none, rampTimer := .stopped, idleTimer := .stopped, railEn := Vector.replicate 3 false } }
      bus := { s.bus with
        pbuSls := rest
        slsPtu := s.bus.slsPtu ++ [.report i .shed .shed]
        slsPbu := s.bus.slsPbu ++ [.slotRelease i, .shedAnswer i true]
        toSpw := s.bus.toSpw ++ [.slot i]
        toAtu := s.bus.toAtu ++ [{ raised := true, kind := .slotShed, object := i.val }] } }) ∧
    (¬ powered → exec .shedOrder s = .next { s with
      bus := { s.bus with pbuSls := rest, slsPbu := s.bus.slsPbu ++ [.shedAnswer i false] } })) ∧
  (∀ (s : State) (i : Slot) (rest : List ClcToSls), s.sls.Sound → s.bus.clcSls = .thermalOff i :: rest →
    let r := s.sls.slots[i]
    let powered := r.state = .powering ∨ r.state = .online ∨ r.state = .standby
    (powered → exec .thermalOffOrder s = .next { s with
      sls := { s.sls with slots := setAt s.sls.slots i { r with
        state := .thermalOff, ramp := none, rampTimer := .stopped, idleTimer := .stopped
        railEn := Vector.replicate 3 false } }
      bus := { s.bus with
        clcSls := rest
        slsPtu := s.bus.slsPtu ++ [.report i .thermalOff .thermal]
        slsPbu := s.bus.slsPbu ++ [.slotRelease i]
        toSpw := s.bus.toSpw ++ [.slot i]
        toAtu := s.bus.toAtu ++ [{ raised := true, kind := .slotThermalOff, object := i.val }] } }) ∧
    (¬ powered → exec .thermalOffOrder s = .next { s with bus := { s.bus with clcSls := rest } })) ∧
  (∀ (s : State) (z : Fin 2) (hot : Bool) (rest : List ClcToSls), s.bus.clcSls = .hotFlag z hot :: rest →
    exec .hotFlagReport s = .next { s with
      sls := { s.sls with hot := setAt s.sls.hot z hot }, bus := { s.bus with clcSls := rest } }) ∧
  (∀ (s : State) (i : Slot) (rest : List (Slot × Bool)), s.sls.Sound → s.bus.tbSls = (i, false) :: rest →
    let r := s.sls.slots[i]
    let powered := r.state = .powering ∨ r.state = .online ∨ r.state = .standby
    r.state ≠ .empty →
    let asked := r.ident.any (fun x => x.byTask) = true
    ∃ t, exec .slotPresenceLost s = .next t ∧ t = { s with sls := t.sls, bus := t.bus } ∧
      t.sls = { s.sls with
        taskSlot := if asked then none else s.sls.taskSlot
        slots := setAt s.sls.slots i { r with
          state := .empty, inventory := none, cause := .none, ramp := none, rampTimer := .stopped, ident := none
          retryTimer := .stopped, idleTimer := .stopped, railEn := Vector.replicate 3 false, epoch := r.epoch + 1
          claim := r.claim.map (fun k => { k with withdrawn := true })
          deferred := none, orphanTask := r.orphanTask || r.deferred == some .task } } ∧
      (let bus : Bus := { s.bus with
        tbSls := rest
        slsPtu := s.bus.slsPtu ++ [.report i .empty .removed]
        slsPbu := s.bus.slsPbu ++ (if powered then [.slotRelease i] else [])
        toSpw := s.bus.toSpw ++ [.slot i]
        toAtu := t.bus.toAtu }
      t.bus = if asked then bus.refuse .sls .slotChanged (details 0 (slotStateCode .empty) 0 0) else bus) ∧
      (∀ k, k = .slotShed ∨ k = .slotThermalOff ∨ k = .slotPowerFault ∨ k = .slotPowerDenied →
        { raised := false, kind := k, object := i.val } ∈ t.bus.toAtu))

/-! ### Time Base tick and Cooling Controller -/

/-- R158, R86, R87, R88, R90, R91 and R98: a cycle tick counts the second, closes every tach window, takes Tz as the
highest counted sensor of each zone, sets the zone duties by the profile and the rate limit and the tray duties by the
zone's, and reports the six trays. The alarm requests of the tick after those of the rotors are TEMP_HIGH by R99 and
TEMP_CRITICAL by R100, and the SLS is told the hot flags of Z0 and Z1 and sent the orders of a TRIPPED zone (R100). A
sensor marked present with no read outstanding is read (R84), and a module in OK, INPUT_LOST or OUTPUT_FAULT with no poll
outstanding is polled (R44), no other field of its record changing where the budget is sound. That one command is the tick of every block, the order of TEMP_HIGH before TEMP_CRITICAL, the
ascending order of messages of one kind and the tags of the requests are the model's (log entries 27, 53, 58 and 32). -/
def Obligations.CycleTickSetsTheDuties : Prop :=
  ∀ (s : State), s.clc.Sound → s.pbu.Sound →
    ∃ t, exec .cycleTick s = .next t ∧
      t = { s with clc := t.clc, pbu := t.pbu, tb := t.tb, bus := t.bus } ∧
      t.bus = { s.bus with
        hourTicks := t.bus.hourTicks, toAtu := t.bus.toAtu, toSpw := t.bus.toSpw, toMlc := t.bus.toMlc
        clcSls := t.bus.clcSls, clcPbu := t.bus.clcPbu } ∧
      t.tb = { s.tb with
        seconds := s.tb.seconds + 1, hourCount := if s.tb.hourCount + 1 = 3600 then 0 else s.tb.hourCount + 1 } ∧
      t.bus.hourTicks = s.bus.hourTicks + (if s.tb.hourCount + 1 = 3600 then 1 else 0) ∧
      t.clc.profile = s.clc.profile ∧ t.clc.mask = s.clc.mask ∧
      (∃ fans : List AlarmRequest, (∀ q ∈ fans, q.kind = .fanSlow ∨ q.kind = .fanStalled) ∧
        t.bus.toAtu = s.bus.toAtu ++ fans ++
          (indices 3).flatMap (fun z =>
            let warn := s.clc.profile[z].twarn
            match t.clc.zones[z].tz with
            | none => []
            | some x =>
              if s.clc.zones[z].high = false ∧ warn ≤ x then [{ raised := true, kind := .tempHigh, object := z.val }]
              else if s.clc.zones[z].high = true ∧ x ≤ warn - 3 then
                [{ raised := false, kind := .tempHigh, object := z.val }]
              else []) ++
          (indices 3).flatMap (fun z =>
            let crit := s.clc.profile[z].tcrit
            match t.clc.zones[z].tz with
            | none => []
            | some x =>
              if s.clc.zones[z].thermal = .clear ∧ crit ≤ x then
                [{ raised := true, kind := .tempCritical, object := z.val }]
              else if s.clc.zones[z].thermal ≠ .clear ∧ x ≤ crit - 5 then
                [{ raised := false, kind := .tempCritical, object := z.val }]
              else [])) ∧
      t.bus.clcSls = s.bus.clcSls ++ (indices 3).flatMap (fun z =>
        let crit := s.clc.profile[z].tcrit
        let flag := fun (x : Bool) => if h : z.val < 2 then [ClcToSls.hotFlag ⟨z.val, h⟩ x] else []
        let orders := ((indices 8).filter (fun i => (zoneOfSlot i).val = z.val)).map ClcToSls.thermalOff
        match t.clc.zones[z].tz with
        | none => if s.clc.zones[z].thermal = .tripped then orders else []
        | some x =>
          if crit ≤ x then
            if s.clc.zones[z].thermal = .clear then flag true
            else if s.clc.zones[z].thermal = .tripped then orders else []
          else if x ≤ crit - 5 ∧ s.clc.zones[z].thermal ≠ .clear then flag false else []) ∧
      (let reads := (indices 8).filter (fun n => s.clc.mask.getLsbD n.val && !s.clc.sensors[n].readOutstanding)
      let polls := (indices 4).filter (fun b => (s.pbu.modules[b].state == .ok ||
        s.pbu.modules[b].state == .inputLost || s.pbu.modules[b].state == .outputFault) && s.pbu.modules[b].polls.isEmpty)
      t.bus.toMlc = s.bus.toMlc ++
        reads.map (fun n => { who := .clc, dev := .sensor n, cmd := .read, tag := 0 }) ++
        polls.map (fun b => { who := .pbu, dev := .moduleBay b, cmd := .telemetry, tag := s.pbu.modules[b].epoch }) ∧
      (∀ n : Fin 8, t.clc.sensors[n] = { s.clc.sensors[n] with
        readOutstanding := s.clc.sensors[n].readOutstanding || s.clc.mask.getLsbD n.val }) ∧
      t.pbu = { s.pbu with modules := t.pbu.modules } ∧
      ∀ b : Fin 4, t.pbu.modules[b] = { s.pbu.modules[b] with
        polls := if b ∈ polls then [s.pbu.modules[b].epoch] else s.pbu.modules[b].polls }) ∧
      (∀ k : Fin 12, t.clc.rotors[k].pulses = 0 ∧ t.clc.rotors[k].lastPulses = s.clc.rotors[k].pulses ∧
        t.clc.rotors[k].lastRpm = 30 * s.clc.rotors[k].pulses) ∧
      (∀ z : Fin 3,
        let p := s.clc.profile[z]
        let sensors := (indices 8).filter (fun n => zoneOfSensor n = z)
        let counts := fun (n : Fin 8) =>
          s.clc.sensors[n].state = .ok ∨ s.clc.sensors[n].state = .held1 ∨ s.clc.sensors[n].state = .held2
        let old := s.clc.zones[z].duty
        ((t.clc.zones[z].tz = none ↔ ∀ n ∈ sensors, ¬ counts n) ∧
          ∀ x, t.clc.zones[z].tz = some x → (∃ n ∈ sensors, counts n ∧ s.clc.sensors[n].value = x) ∧
            ∀ n ∈ sensors, counts n → s.clc.sensors[n].value ≤ x) ∧
        (t.clc.zones[z].boosted = true → t.clc.zones[z].duty = 100) ∧
        (t.clc.zones[z].boosted = false → ∃ d : Nat,
          t.clc.zones[z].duty = (if old ≤ d then d else max d (old - 5)) ∧
          ((∃ n ∈ sensors, s.clc.sensors[n].state = .failed) ∨ (∀ n ∈ sensors, s.clc.sensors[n].state = .absent) →
            d = p.dmax) ∧
          (∀ x, (∀ n ∈ sensors, s.clc.sensors[n].state ≠ .failed) → t.clc.zones[z].tz = some x →
            (x ≤ p.tlow → d = p.dmin) ∧ (p.thigh ≤ x → d = p.dmax) ∧
            (p.tlow < x → x < p.thigh →
              d = p.dmin + (((x - p.tlow).toNat * (p.dmax - p.dmin)) + (p.thigh - p.tlow).toNat - 1) /
                (p.thigh - p.tlow).toNat)))) ∧
      (∀ k : Fin 6, t.clc.trays[k] = { s.clc.trays[k] with
        duty := t.clc.trays[k].duty, pwmLatch := 10 * t.clc.trays[k].duty } ∧
        t.clc.trays[k].duty = (if s.clc.trays[k].state = .running ∧ t.clc.zones[zoneOfTray k].boosted = false
          then t.clc.zones[zoneOfTray k].duty else 100)) ∧
      ∃ boosts, t.bus.clcPbu = s.bus.clcPbu ++ boosts ++ (indices 6).map (fun k =>
        { tray := k, present := s.clc.trays[k].state != .absent, fmax := s.clc.trays[k].fmax
          duty := t.clc.trays[k].duty })

/-- R95 and R96: at a tick each rotor whose window has a duty is judged against floor(Rmax × duty × 7 / 1000); the third
low window makes it SLOW, the third good one makes it OK again, with good run 0 as the worked sequence of 5.10 shows at
ticks 7 and 8; an unjudged rotor keeps its state and runs. R97, R94 and R89: an edge counts and reloads the stall timer;
the expiry of an armed timer makes an OK or SLOW rotor STALLED and boosts its zone at once, duties and reports with it;
the end of a spin-up makes the tray RUNNING and each rotor OK or STALLED by its stall timer. That an edge does not start a
stall timer that stands still is the model's reading (log entry 39), and the ascending order of the FAN_STALLED requests of
one spin-up and of the reports of one boost, and the raise before the clear of a SLOW rotor that stalls, are the model's too
(log entries 62 and 63). -/
def Obligations.RotorsAreJudgedAndSupervised : Prop :=
  (∀ (s : State) (k : Fin 12),
      let r := s.clc.rotors[k]
      let moved := fun (t : State) (st : RotorState) (slow good : Nat) =>
        t.clc.rotors[k].state = st ∧ t.clc.rotors[k].slowRun = slow ∧ t.clc.rotors[k].goodRun = good
      ∃ t, exec .cycleTick s = .next t ∧
        (r.windowDuty = none → moved t r.state r.slowRun r.goodRun) ∧
        (∀ d, r.windowDuty = some d →
          let low := 30 * r.pulses < s.clc.trays[trayOfRotor k].rmax * d * 7 / 1000
          (r.state = .ok → low → r.slowRun ≠ 2 → moved t .ok (r.slowRun + 1) 0) ∧
          (r.state = .ok → low → r.slowRun = 2 → moved t .slow 3 0 ∧
            { raised := true, kind := .fanSlow, object := k.val } ∈ t.bus.toAtu) ∧
          (r.state = .ok → ¬ low → moved t .ok 0 r.goodRun) ∧
          (r.state = .slow ∨ r.state = .stalled → low → moved t r.state r.slowRun 0) ∧
          (r.state = .slow ∨ r.state = .stalled → ¬ low → r.goodRun ≠ 2 → moved t r.state 0 (r.goodRun + 1)) ∧
          (r.state = .slow ∨ r.state = .stalled → ¬ low → r.goodRun = 2 → moved t .ok 0 0 ∧
            { raised := false, kind := if r.state = .slow then .fanSlow else .fanStalled, object := k.val } ∈ t.bus.toAtu)) ∧
        t.clc.rotors[k].windowDuty =
          (if t.clc.rotors[k].state = .ok ∨ t.clc.rotors[k].state = .slow ∨ t.clc.rotors[k].state = .stalled
            then some t.clc.trays[trayOfRotor k].duty else none)) ∧
  (∀ (s : State) (k : Fin 12),
    let r := s.clc.rotors[k]
    ∃ t, exec (.tachEdge k) s = .next t ∧
      t = { s with
        clc := { s.clc with rotors := setAt s.clc.rotors k <|
          { r with
            pulses := if r.pulses < 65535 then r.pulses + 1 else 65535
            stallTimer := if r.stallTimer = .stopped then .stopped else .running 500 } }
        bus := { s.bus with toSpw := t.bus.toSpw } }) ∧
  (∀ (s : State) (k : Fin 12) (ms : Nat), s.clc.Sound →
    let r := s.clc.rotors[k]
    let z := zoneOfTray (trayOfRotor k)
    r.stallTimer = .running ms → r.armed = true → r.state = .ok ∨ r.state = .slow →
    ∃ t, exec (.stallTimerExpiry k) s = .next t ∧ t = { s with clc := t.clc, bus := t.bus } ∧
      t.clc = { s.clc with
        rotors := setAt s.clc.rotors k { r with state := .stalled, goodRun := 0, stallTimer := .runOut }
        zones := setAt s.clc.zones z { s.clc.zones[z] with boosted := true, duty := 100 }
        trays := t.clc.trays } ∧
      (∀ j : Fin 6, t.clc.trays[j] = if zoneOfTray j = z ∧ s.clc.trays[j].state ≠ .absent
        then { s.clc.trays[j] with duty := 100, pwmLatch := 1000 } else s.clc.trays[j]) ∧
      t.bus = { s.bus with
        toSpw := t.bus.toSpw
        toAtu := s.bus.toAtu ++ [{ raised := true, kind := .fanStalled, object := k.val }] ++
          (if r.state = .slow then [{ raised := false, kind := .fanSlow, object := k.val }] else [])
        clcPbu := s.bus.clcPbu ++ (if s.clc.zones[z].boosted = true then [] else
          ((indices 6).filter (fun j => zoneOfTray j = z)).map (fun j =>
            { tray := j, present := s.clc.trays[j].state != .absent, fmax := s.clc.trays[j].fmax
              duty := t.clc.trays[j].duty })) }) ∧
  (∀ (s : State) (j : Fin 6) (ms : Nat), s.clc.Sound → s.clc.trays[j].state = .spinup →
    s.clc.trays[j].spinTimer = .running ms →
    ∃ t, exec (.spinupTimerExpiry j) s = .next t ∧ t = { s with clc := t.clc, bus := t.bus } ∧
      t.clc.trays[j] = { s.clc.trays[j] with state := .running, spinTimer := .stopped } ∧
      t.clc.profile = s.clc.profile ∧ t.clc.sensors = s.clc.sensors ∧ t.clc.mask = s.clc.mask ∧
      (∀ k : Fin 12, t.clc.rotors[k] = if trayOfRotor k ≠ j then s.clc.rotors[k]
        else if s.clc.rotors[k].stallTimer ≠ .stopped ∧ s.clc.rotors[k].stallTimer ≠ .runOut then { s.clc.rotors[k] with state := .ok, armed := true }
        else { s.clc.rotors[k] with state := .stalled, armed := true }) ∧
      t.bus.toAtu = s.bus.toAtu ++ ((indices 12).filter (fun k => trayOfRotor k = j ∧
        t.clc.rotors[k].state = .stalled)).map (fun k => { raised := true, kind := .fanStalled, object := k.val }))

/-- R99, R100 and R101: at each tick the high mark of a zone is set at Twarn and cleared 3 below it, and its thermal state
moves by the table of R100, a TRIPPED zone ordering its slots off again, with Tz UNKNOWN too; the expiry of its hold timer
takes it to TRIPPED with an order for each of its slots, or to CRITICAL with none; an expiry of no running hold has no
effect. That the orders go out in ascending order of the slots is the model's (log entries 58
and 62). -/
def Obligations.ThermalStateFollowsTheTable : Prop :=
  (∀ (s : State) (z : Fin 3), ∃ t, exec .cycleTick s = .next t ∧
    let crit := s.clc.profile[z].tcrit
    let old := s.clc.zones[z].thermal
    let new := t.clc.zones[z].thermal
    let high := s.clc.zones[z].high
    let warn := s.clc.profile[z].twarn
    (t.clc.zones[z].tz = none → new = old ∧ t.clc.zones[z].high = high ∧
      (old = .tripped → ∀ i : Slot, (zoneOfSlot i).val = z.val → .thermalOff i ∈ t.bus.clcSls)) ∧
    (∀ x, t.clc.zones[z].tz = some x →
      (t.clc.zones[z].high = if high = true then decide (warn - 3 < x) else decide (warn ≤ x)) ∧
      (high = false → warn ≤ x → { raised := true, kind := .tempHigh, object := z.val } ∈ t.bus.toAtu) ∧
      (high = true → x ≤ warn - 3 → { raised := false, kind := .tempHigh, object := z.val } ∈ t.bus.toAtu) ∧
      (crit ≤ x → new = (if old = .tripped then .tripped else .holding)) ∧
      (crit - 5 < x → x < crit → new = (if old = .clear then .clear else .critical)) ∧
      (x ≤ crit - 5 → new = .clear) ∧
      (crit ≤ x → old = .clear → { raised := true, kind := .tempCritical, object := z.val } ∈ t.bus.toAtu ∧
        t.clc.zones[z].holdTimer = .running 10000) ∧
      (x ≤ crit - 5 → old ≠ .clear → { raised := false, kind := .tempCritical, object := z.val } ∈ t.bus.toAtu) ∧
      (crit ≤ x → old = .tripped → ∀ i : Slot, (zoneOfSlot i).val = z.val → .thermalOff i ∈ t.bus.clcSls) ∧
      (x < crit → old ≠ .clear → old ≠ .critical → t.clc.zones[z].holdTimer = .stopped))) ∧
  (∀ (s : State) (z : Fin 3) (ms : Nat), s.clc.zones[z].thermal = .holding → s.clc.zones[z].holdTimer = .running ms →
    let trips : Bool := s.clc.zones[z].tz.all (fun x => decide (s.clc.profile[z].tcrit ≤ x))
    let slots := (indices 8).filter (fun i => (zoneOfSlot i).val = z.val)
    exec (.holdTimerExpiry z) s = .next { s with
      clc := { s.clc with zones := setAt s.clc.zones z <|
        { s.clc.zones[z] with thermal := if trips = true then .tripped else .critical, holdTimer := .stopped } }
      bus := { s.bus with
        clcSls := s.bus.clcSls ++ (if trips = true then slots.map ClcToSls.thermalOff else [])
        toSpw := s.bus.toSpw ++ [.zone z] } }) ∧
  (∀ (s : State) (z : Fin 3), s.clc.zones[z].thermal ≠ .holding ∨ s.clc.zones[z].holdTimer = .stopped →
    exec (.holdTimerExpiry z) s = .next s)

/-- R84: an answer owed to a read made before the sensor was masked out is discarded; any other moves the sensor by the
table of R84, with SENSOR_FAILED raised and cleared as it enters and leaves FAILED. -/
def Obligations.SensorFollowsItsReads : Prop :=
  ∀ (s : State) (n : Fin 8) (o : LineOutcome) (cmd : LineCommand) (who : MlcUser) (tag : Nat) (rest : List MlcAnswer),
    s.bus.mlcClc = { req := { who := who, dev := .sensor n, cmd := cmd, tag := tag }, outcome := o } :: rest →
    let r := s.clc.sensors[n]
    let good := fun (x : Int) => ∃ data, o = .ok data ∧ signed16 (field data 0 2) = x ∧ -40 ≤ x ∧ x ≤ 150
    let becomes := fun (r' : SensorRec) (alarms : List AlarmRequest) => ∃ t, exec .sensorAnswer s = .next t ∧
      t = { s with
        clc := { s.clc with sensors := setAt s.clc.sensors n r' }
        bus := { s.bus with mlcClc := rest, toSpw := t.bus.toSpw, toAtu := s.bus.toAtu ++ alarms } }
    (0 < r.staleReads → becomes { r with staleReads := r.staleReads - 1 } []) ∧
    (∀ x, r.staleReads = 0 → r.state ≠ .absent → good x →
      becomes { r with state := .ok, value := x, readOutstanding := false }
        (if r.state = .failed then [{ raised := false, kind := .sensorFailed, object := n.val }] else [])) ∧
    (r.staleReads = 0 → r.state ≠ .absent → (∀ x, ¬ good x) →
      becomes { r with
        readOutstanding := false
        state := match r.state with
          | .ok => .held1
          | .held1 => .held2
          | _ => .failed }
        (if r.state = .held2 then [{ raised := true, kind := .sensorFailed, object := n.val }] else []))

/-- R92, R93 and R94: a tray lost is ABSENT at duty 100 with its rotors, its alarm and the boost of its zone; a tray
gained is IDENTIFYING with Fmax 200 and Rmax 30000 and is read; a good answer, or the third failure, brings SPINUP. The
tags of the requests, the second report where two rules ask for one, that the end of the wait for the next try marks
nothing, the ascending order of the clears of two rotors and of the two reports, and that those clears go before the raise of
FAN_TRAY_ABSENT are the model's (log entries 32, 44, 28, 62 and 63). -/
def Obligations.TraysAreLostGainedAndIdentified : Prop :=
  (∀ (s : State) (j : Fin 6) (rest : List (Fin 6 × Bool)), s.clc.Sound → s.bus.tbClc = (j, false) :: rest →
    let r := s.clc.trays[j]
    let z := zoneOfTray j
    ∃ t, exec .trayPresenceLost s = .next t ∧ t = { s with clc := t.clc, bus := t.bus } ∧
      t.clc.trays[j] = { r with
        state := .absent, source := .none, duty := 100, pwmLatch := 1000, spinTimer := .stopped, tryNo := none
        retryTimer := .stopped, epoch := r.epoch + 1 } ∧
      t.clc.zones = setAt s.clc.zones z { s.clc.zones[z] with boosted := true, duty := 100 } ∧
      (∀ k : Fin 12, t.clc.rotors[k] = if trayOfRotor k = j then { s.clc.rotors[k] with
          state := .absent, stallTimer := .stopped, armed := false, slowRun := 0, goodRun := 0, windowDuty := none }
        else s.clc.rotors[k]) ∧
      t.bus.toAtu = s.bus.toAtu ++ ((indices 12).filter (fun k => trayOfRotor k = j)).flatMap (fun k =>
          match s.clc.rotors[k].state with
          | .slow => [{ raised := false, kind := .fanSlow, object := k.val }]
          | .stalled => [{ raised := false, kind := .fanStalled, object := k.val }]
          | _ => []) ++
        [{ raised := true, kind := .fanTrayAbsent, object := j.val }] ∧
      ∃ boosts, t.bus.clcPbu = s.bus.clcPbu ++ boosts ++ ((indices 6).filter (fun i => zoneOfTray i = z)).map (fun i =>
        { tray := i, present := t.clc.trays[i].state != .absent, fmax := s.clc.trays[i].fmax, duty := 100 })) ∧
  (∀ (s : State) (j : Fin 6) (rest : List (Fin 6 × Bool)), s.clc.Sound → s.bus.tbClc = (j, true) :: rest →
    let r := s.clc.trays[j]
    r.state = .absent →
    ∃ t, exec .trayPresenceGained s = .next t ∧
      t = { s with
        clc := { s.clc with trays := setAt s.clc.trays j <|
          { r with
            state := .identifying, tryNo := some 1, duty := 100, pwmLatch := 1000, fmax := 200, rmax := 30000
            retryTimer := .stopped } }
        bus := { s.bus with
          tbClc := rest
          toSpw := t.bus.toSpw
          toMlc := s.bus.toMlc ++ [{ who := .clc, dev := .tray j, cmd := .inventory, tag := r.epoch }]
          clcPbu := s.bus.clcPbu ++ [{ tray := j, present := true, fmax := 200, duty := 100 }] } }) ∧
  (∀ (s : State) (j : Fin 6) (ms : Nat), s.clc.Sound → s.clc.trays[j].retryTimer = .running ms →
    exec (.trayRetryTimer j) s = .next { s with
      clc := { s.clc with trays := setAt s.clc.trays j { s.clc.trays[j] with retryTimer := .stopped } }
      bus := { s.bus with
        toMlc := s.bus.toMlc ++
          [{ who := .clc, dev := .tray j, cmd := .inventory, tag := s.clc.trays[j].epoch }] } }) ∧
  (∀ (s : State) (j : Fin 6) (o : LineOutcome) (n : Nat) (rest : List MlcAnswer), s.clc.Sound →
    let r := s.clc.trays[j]
    s.bus.mlcClc = { req := { who := .clc, dev := .tray j, cmd := .inventory, tag := r.epoch }, outcome := o } :: rest →
    r.state = .identifying → r.tryNo = some n → r.retryTimer = .stopped →
    let good := fun (f m : Nat) => ∃ data, o = .ok data ∧ field data 0 2 = f ∧ field data 2 2 = m ∧
      10 ≤ f ∧ f ≤ 200 ∧ 1000 ≤ m ∧ m ≤ 30000
    let spins := fun (source : InventorySource) (f m : Nat) (raised : Bool) =>
      ∃ t, exec .trayInventoryAnswer s = .next t ∧ t = { s with clc := t.clc, bus := t.bus } ∧
        t.clc.trays = setAt s.clc.trays j { r with
          state := .spinup, source := source, fmax := f, rmax := m, tryNo := none, duty := 100, pwmLatch := 1000
          spinTimer := .running 5000 } ∧
        (∀ k : Fin 12, t.clc.rotors[k] = if trayOfRotor k = j then { s.clc.rotors[k] with
            state := .spinup, slowRun := 0, goodRun := 0, windowDuty := none, stallTimer := .running 500, armed := false }
          else s.clc.rotors[k]) ∧
        t.bus.toAtu = s.bus.toAtu ++ [{ raised := raised, kind := .fanTrayAbsent, object := j.val }] ∧
        t.bus.clcPbu = s.bus.clcPbu ++ [{ tray := j, present := true, fmax := f, duty := 100 }] ∧
        t.bus.toMlc = s.bus.toMlc
    (∀ f m, good f m → spins .identified f m false) ∧
    ((∀ f m, ¬ good f m) → 3 ≤ n → spins .default r.fmax r.rmax true) ∧
    ((∀ f m, ¬ good f m) → n < 3 → exec .trayInventoryAnswer s = .next { s with
      clc := { s.clc with trays := setAt s.clc.trays j { r with tryNo := some (n + 1), retryTimer := .running 100 } }
      bus := { s.bus with mlcClc := rest, toSpw := s.bus.toSpw ++ [.tray j] } }))

/-- R83 and R85: a THERMAL PROFILE that is taken has its first byte read or its first piece fetched. When its 48 bytes have
arrived, the figures are clamped and counted; the first zone out of order refuses it with BAD_PROFILE and nothing changes;
else the profile and the mask take the figures, each zone duty below its new Dmin is raised to it with the duty and a report
of each of its RUNNING trays, and each sensor follows its mark, SENSOR_FAILED cleared for a FAILED one that is masked out.
The two phases of the task, a report for each rule that asks for one, and the ascending order of the reports and of the
clears are the model's (log entries 6, 44 and 62). -/
def Obligations.ThermalProfileIsClampedAndJudged : Prop :=
  (∀ (s : State) (a : Fin 16) (w : TaskWord) (rest : List (Fin 16 × TaskWord)),
    s.bus.station .clc = { queue := (a, w) :: rest, service := none } → w.is .thermalProfile = true →
    w.count.toNat ≠ 0 → exec .thermalProfile s = .next { s with
      host := s.host.moving a true w
      bus := { (s.takeWord .clc).bus with accesses := s.bus.accesses ++ [firstRead a w] } }) ∧
  ∀ (s : State) (sv : Service), s.clc.Sound → s.bus.service .clc = some sv → sv.complete = true →
    let b := sv.input
    let temp := fun (z : Fin 3) (o : Nat) => max (-40) (min (signed16 (field b (12 * z.val + o) 2)) 150)
    let dmin := fun (z : Fin 3) => max 20 (min (field b (12 * z.val + 8) 1) 100)
    let dmax := fun (z : Fin 3) => max (dmin z) (min (field b (12 * z.val + 9) 1) 100)
    let clamped := fun (z : Fin 3) =>
      ([0, 2, 4, 6].countP (fun o => temp z o != signed16 (field b (12 * z.val + o) 2))) +
      (if dmin z = field b (12 * z.val + 8) 1 then 0 else 1) + (if dmax z = field b (12 * z.val + 9) 1 then 0 else 1)
    let changed := clamped 0 + clamped 1 + clamped 2
    let right := fun (z : Fin 3) => temp z 0 < temp z 2 ∧ temp z 4 < temp z 6
    let mask := BitVec.ofNat 8 (field b 36 1)
    let words := fun (zone : Nat) (m : Byte) =>
      details changed zone m.toNat ((indices 8).countP (fun n => m.getLsbD n.val))
    (∀ z : Fin 3, ¬ right z → (∀ y, y < z → right y) → exec .thermalProfile s = .next { s with
      bus := s.bus.refuse .clc .badProfile (words z.val s.clc.mask) }) ∧
    ((∀ z : Fin 3, right z) →
      ∃ t, exec .thermalProfile s = .next t ∧ t = { s with clc := t.clc, bus := t.bus } ∧
        t.clc.mask = mask ∧ t.clc.rotors = s.clc.rotors ∧
        (∀ z : Fin 3, t.clc.profile[z] =
          { tlow := temp z 0, thigh := temp z 2, twarn := temp z 4, tcrit := temp z 6, dmin := dmin z, dmax := dmax z }) ∧
        (∀ z : Fin 3, t.clc.zones[z] = { s.clc.zones[z] with duty := max s.clc.zones[z].duty (dmin z) }) ∧
        (∀ k : Fin 6, t.clc.trays[k].duty =
          if s.clc.trays[k].state = .running ∧ s.clc.zones[zoneOfTray k].duty < dmin (zoneOfTray k)
          then dmin (zoneOfTray k) else s.clc.trays[k].duty) ∧
        (∀ n : Fin 8,
          let r := s.clc.sensors[n]
          t.clc.sensors[n] =
            if s.clc.mask.getLsbD n.val = true ∧ mask.getLsbD n.val = false then
              { r with
                state := .absent, readOutstanding := false
                staleReads := r.staleReads + (if r.readOutstanding = true then 1 else 0) }
            else if s.clc.mask.getLsbD n.val = false ∧ mask.getLsbD n.val = true then { r with state := .ok, value := 25 }
            else r) ∧
        t.bus.clcPbu = s.bus.clcPbu ++ ((indices 6).filter (fun k => decide (s.clc.trays[k].state = .running ∧
          s.clc.zones[zoneOfTray k].duty < dmin (zoneOfTray k)))).map (fun k =>
            { tray := k, present := true, fmax := s.clc.trays[k].fmax, duty := dmin (zoneOfTray k) }) ∧
        t.bus.toAtu = s.bus.toAtu ++ ((indices 8).filter (fun n => s.clc.mask.getLsbD n.val && !mask.getLsbD n.val &&
          s.clc.sensors[n].state == .failed)).map (fun n => { raised := false, kind := .sensorFailed, object := n.val }) ∧
        t.bus.service .clc = none ∧ t.bus.outcomes = s.bus.outcomes ++ [{
          server := .clc, anchor := sv.anchor, cls := .normal, details := words 3 mask }])

/-! ### Zoning Unit -/

/-- R106, R107, R108 and R103: a ZONE STAGE that is taken applies its start mode and its default-access change, or is
refused with BAD_PARAMETER and nothing changes; with count 0 it ends there. Each record whose bytes have arrived is
judged: a well formed one within the limits takes its place by ascending id, the first other one refuses the task. At
the end the staged generation rises by 1 if the set has changed since the task was taken. The zoning summary is marked
by R120. The two phases of the task and
the bytes of a refused record that count as taken are the model's (log entries 6 and 50). -/
def Obligations.ZoneStageAppliesItsRecords : Prop :=
  (∀ (s : State) (a : Fin 16) (w : TaskWord) (rest : List (Fin 16 × TaskWord)),
    s.bus.station .znu = { queue := (a, w) :: rest, service := none } → s.znu.copyDue = false → w.is .zoneStage = true →
    let old := s.znu.staged
    let marked := fun (t : State) => SummaryMarked s.bus.toSpw t.bus.toSpw (s.znu.shownApart t.znu)
    let named := w.bits 0 8 ≤ 2 ∧ w.bits 8 8 ≤ 2
    let begun : ZoneSet := if w.bits 0 8 = 1 then { old with zones := [] }
      else if w.bits 0 8 = 2 then { old with zones := s.znu.active.zones, access := s.znu.active.access } else old
    let x : ZoneSet := if w.bits 8 8 = 1 then { begun with access := .all }
      else if w.bits 8 8 = 2 then { begun with access := .none } else begun
    let words := fun (y : ZoneSet) => ({
      w0 := y.gen, w1 := 0, w2 := BitVec.ofNat 32 y.zones.length, w3 := BitVec.ofNat 32 (membershipTotal y.zones) } : Details)
    (¬ named → exec .zoneStage s = .next { s.takeWord .znu with
      znu := { s.znu with task := .idle }
      bus := (s.takeWord .znu).bus.refuse .znu .badParameter (words old) }) ∧
    (named → w.count.toNat = 0 →
      let y := { x with gen := old.gen + (if x = old then 0 else 1) }
      ∃ t, exec .zoneStage s = .next t ∧ t = { s.takeWord .znu with
        znu := { s.znu with staged := y, task := .idle }
        bus := { (s.takeWord .znu).bus.closeNormal .znu (words y) with toSpw := t.bus.toSpw } } ∧
        marked t) ∧
    (named → w.count.toNat ≠ 0 →
      ∃ t, exec .zoneStage s = .next t ∧ t = { s with
        host := s.host.moving a true w
        znu := { s.znu with staged := x, task := .staging old 0 0 }
        bus := { (s.takeWord .znu).bus with
          toSpw := t.bus.toSpw, accesses := s.bus.accesses ++ [firstRead a w] } } ∧ marked t)) ∧
  (∀ (s : State) (sv : Service) (before : ZoneSet) (applied used : Nat), s.znu.Sound →
    s.bus.service .znu = some sv → s.znu.task = .staging before applied used → used < sv.word.count.toNat →
    let marked := fun (t : State) => SummaryMarked s.bus.toSpw t.bus.toSpw (s.znu.shownApart t.znu)
    let here := sv.input.drop used
    let left := sv.word.count.toNat - used
    let id := field here 0 2
    let n := field here 2 2
    let len := recordLength n
    let ports := (List.range n).map (fun k => field here (20 + 2 * k) 2)
    let others := s.znu.staged.zones.filter (fun z => z.id ≠ id)
    let wellFormed := 20 ≤ left ∧ 1 ≤ n ∧ n ≤ 256 ∧ len ≤ left ∧ id ≤ 1023 ∧ ports.Pairwise (· < ·) ∧ ∀ p ∈ ports, p < 256
    let full := others.length = 64 ∨ 2048 < membershipTotal others + n
    let seen := if left < 20 then left else if n = 0 ∨ 256 < n ∨ left < len then 20 else len
    let ends := fun (taken : Option Nat) (cls : OutcomeClass) (zones : List Zone) (count : Nat) =>
      let y : ZoneSet := { s.znu.staged with
        zones := zones
        gen := s.znu.staged.gen + (if before.access = s.znu.staged.access ∧ before.zones = zones then 0 else 1) }
      ∃ t, exec .zoneStageRecord s = .next t ∧ t = { s with
        znu := { s.znu with staged := y, task := .idle }
        bus := { s.bus.endTaskAfter .znu taken cls {
            w0 := y.gen, w1 := BitVec.ofNat 32 count, w2 := BitVec.ofNat 32 zones.length
            w3 := BitVec.ofNat 32 (membershipTotal zones) } with toSpw := t.bus.toSpw } } ∧ marked t
    (20 ≤ left → here.length < 20 → exec .zoneStageRecord s = .next s) ∧
    (wellFormed → 20 ≤ here.length → here.length < len → exec .zoneStageRecord s = .next s) ∧
    (sv.complete = true → ¬ wellFormed → ends (some (used + seen)) (.refused .malformedZone) s.znu.staged.zones applied) ∧
    (20 ≤ here.length → len ≤ here.length → wellFormed → full →
      ends (some (used + len)) (.refused .zoneSetFull) s.znu.staged.zones applied) ∧
    (20 ≤ here.length → len ≤ here.length → wellFormed → ¬ full → ∀ z : Zone,
      z.id = id → z.members.map (fun p => p.val) = ports → (∀ k : Fin 16, z.label[k] = here.getD (4 + k.val) 0) →
      let zones := s.znu.staged.zones.filter (fun o => o.id < id) ++ [z] ++ s.znu.staged.zones.filter (fun o => id < o.id)
      (len = left → ends none .normal zones (applied + 1)) ∧
      (len < left → ∃ t, exec .zoneStageRecord s = .next t ∧ t = { s with
        znu := { s.znu with
          staged := { s.znu.staged with zones := zones }, task := .staging before (applied + 1) (used + len) }
        bus := { s.bus with toSpw := t.bus.toSpw } } ∧ marked t)))

/-- R109, R110, R111 and R115: ZONE DROP removes the zone of its id and raises the staged generation; ZONE COMMIT is
judged by mode, expected generation and the ports of more than 16 zones; a VERIFY that passes closes NORMAL with the
number of distinct ports, an APPLY that passes sends the build request while the link is UP and is refused while it is
not. The zoning summary is marked by R120. That the VERIFY command meets an undefined mode is the model's (log entry
40). -/
def Obligations.ZoneDropAndZoneCommitAreJudged : Prop :=
  (∀ (s : State) (a : Fin 16) (w : TaskWord) (rest : List (Fin 16 × TaskWord)), s.znu.Sound →
    s.bus.station .znu = { queue := (a, w) :: rest, service := none } → s.znu.copyDue = false → w.is .zoneDrop = true →
    let x := s.znu.staged
    let id := w.bits 0 16
    let words := fun (y : ZoneSet) (removed : Nat) => ({
      w0 := y.gen, w1 := BitVec.ofNat 32 y.zones.length, w2 := BitVec.ofNat 32 (membershipTotal y.zones)
      w3 := BitVec.ofNat 32 removed } : Details)
    let refusedWith := fun r => exec .zoneDrop s = .next { s.takeWord .znu with
      znu := { s.znu with task := .idle }, bus := (s.takeWord .znu).bus.refuse .znu r (words x 0) }
    (1023 < id → refusedWith .badParameter) ∧
    (id ≤ 1023 → (∀ z ∈ x.zones, z.id ≠ id) → refusedWith .notFound) ∧
    (∀ z ∈ x.zones, z.id = id →
      let y : ZoneSet := { x with zones := x.zones.filter (fun o => o.id ≠ id), gen := x.gen + 1 }
      membershipTotal y.zones + z.members.length = membershipTotal x.zones ∧
      ∃ t, exec .zoneDrop s = .next t ∧ t = { s.takeWord .znu with
        znu := { s.znu with staged := y, task := .idle }
        bus := { (s.takeWord .znu).bus.closeNormal .znu (words y z.members.length) with
          toSpw := s.bus.toSpw ++ [.zoningSummary] } })) ∧
  (∀ (s : State) (a : Fin 16) (w : TaskWord) (rest : List (Fin 16 × TaskWord)),
    s.bus.station .znu = { queue := (a, w) :: rest, service := none } → s.znu.copyDue = false → w.is .zoneCommit = true →
    let x := s.znu.staged
    let cmd := if w.commitMode = 2 then Instr.zoneCommitApply else Instr.zoneCommitVerify
    let words := fun (last : Nat) => ({
      w0 := x.gen, w1 := BitVec.ofNat 32 x.zones.length, w2 := BitVec.ofNat 32 (membershipTotal x.zones)
      w3 := BitVec.ofNat 32 last } : Details)
    let refusedWith := fun r last => exec cmd s = .next { s.takeWord .znu with
      znu := { s.znu with task := .idle }, bus := (s.takeWord .znu).bus.refuse .znu r (words last) }
    let distinct := (indices 256).countP (fun p => holdingZones x.zones p ≠ 0)
    (w.commitMode ≠ 1 → w.commitMode ≠ 2 → refusedWith .badParameter 0) ∧
    (w.commitMode = 1 ∨ w.commitMode = 2 →
      (w.param ≠ x.gen → refusedWith .stagedChanged 0) ∧
      (w.param = x.gen →
        (∀ p : Port, 16 < holdingZones x.zones p → (∀ q, q < p → holdingZones x.zones q ≤ 16) →
          refusedWith .portOverzoned p.val) ∧
        ((∀ p : Port, holdingZones x.zones p ≤ 16) →
          (w.commitMode = 1 → exec cmd s = .next { s.takeWord .znu with
            znu := { s.znu with task := .idle }, bus := (s.takeWord .znu).bus.closeNormal .znu (words distinct) }) ∧
          (w.commitMode = 2 → s.mxw.linkUp = false → refusedWith .fabricDown 0) ∧
          (w.commitMode = 2 → s.mxw.linkUp = true → exec cmd s = .next { s.takeWord .znu with
            znu := { s.znu with phase := .building, task := .applying, abandonSent := false }
            bus := { (s.takeWord .znu).bus with
              znuMxw := s.bus.znuMxw ++ [.build]
              toSpw := s.bus.toSpw ++ (if s.znu.phase = .building then [] else [.zoningSummary]) } })))))

/-- R111 to R115 and R105: SWITCH SENT makes the phase SWITCHING; COMMITTED makes the staged set active, sends each zone
count that differs in ascending port order, marks the summary, answers the MXW and closes NORMAL; FAILED refuses and
ABANDONED ends the task with the build cursor and nothing else changes. The copy of a management reset gives the staged
set the access and the zones of the active one, and raises its generation if they differ. That the copy is a command of
its own is the model's (log entry 30). -/
def Obligations.CommitAnswersEndTheApply : Prop :=
  (∀ (s : State) (rest : List MxwToZnu), s.bus.mxwZnu = .switchSent :: rest →
    exec .switchSent s = .next { s with
      znu := { s.znu with phase := .switching }
      bus := { s.bus with
        mxwZnu := rest, toSpw := s.bus.toSpw ++ (if s.znu.phase = .switching then [] else [.zoningSummary]) } }) ∧
  (∀ (s : State) (rest : List MxwToZnu) (m : MxwToZnu), s.bus.mxwZnu = m :: rest →
    let x := s.znu.staged
    let words := fun (last : Nat) => ({
      w0 := x.gen, w1 := BitVec.ofNat 32 x.zones.length, w2 := BitVec.ofNat 32 (membershipTotal x.zones)
      w3 := BitVec.ofNat 32 last } : Details)
    let count := fun (y : ZoneSet) (p : Port) => holdingZones y.zones p
    let idle := { s.znu with phase := CommitPhase.idle, task := ZnuTask.idle, abandonSent := false }
    let bus := { s.bus with mxwZnu := rest }
    let phaseMark : List PageRecord := if s.znu.phase = .idle then [] else [.zoningSummary]
    (m = .committed → ∃ t, exec .committed s = .next t ∧ t = { s with
        znu := { idle with active := x }
        bus := { bus.closeNormal .znu (words ((indices 256).countP (fun p => count x p ≠ 0))) with
          toSpw := t.bus.toSpw
          znuMxw := s.bus.znuMxw ++ [.replaced]
          znuPtu := s.bus.znuPtu ++
            ((indices 256).filter (fun p => count x p ≠ count s.znu.active p)).map (fun p => (p, count x p)) } } ∧
      SummaryMarked s.bus.toSpw t.bus.toSpw True) ∧
    (∀ n, m = .failed n → exec .failed s = .next { s with
      znu := idle, bus := { bus.refuse .znu .fabricFailed (words n) with toSpw := s.bus.toSpw ++ phaseMark } }) ∧
    (∀ n, m = .abandoned n → exec .abandoned s = .next { s with
      znu := idle, bus := { bus.endTask .znu .abandoned (words n) with toSpw := s.bus.toSpw ++ phaseMark } })) ∧
  (∀ (s : State), s.znu.copyDue = true → s.bus.service .znu = none →
    let x := s.znu.staged
    let y : ZoneSet := { x with access := s.znu.active.access, zones := s.znu.active.zones }
    ∃ t, exec .stagedCopy s = .next t ∧ t = { s with
      znu := { s.znu with staged := { y with gen := x.gen + (if y = x then 0 else 1) }, copyDue := false }
      bus := { s.bus with toSpw := s.bus.toSpw ++ (if y = x then [] else [.zoningSummary]) } })

/-- R116, R117, R118 and R119: ZONE READ writes the header and the zones of the set it names; ZONE FIND LOAD takes a
probe of ascending ports whole, or ends at the first entry that breaks the order; ZONE FIND
examines zones from its start index until the set ends, the maximum is reached or a hit fills the output, and writes the
ids of the hits. The phases of the tasks and that the refused entry counts as taken are the model's (log entries 6
and 50), and the words that the book gives no value are free (log entry 7). -/
def Obligations.ZoneReadsAndSearchesAnswerFromTheSets : Prop :=
  (∀ (s : State) (a : Fin 16) (w : TaskWord) (rest : List (Fin 16 × TaskWord)),
    s.bus.station .znu = { queue := (a, w) :: rest, service := none } → s.znu.copyDue = false → w.is .zoneRead = true →
    let taken := s.takeWord .znu
    (w.bits 0 8 ≠ 1 → w.bits 0 8 ≠ 2 → ∃ t d, exec .zoneRead s = .next t ∧ t = { taken with
      znu := { s.znu with task := .idle }
      bus := { taken.bus.refuse .znu .badParameter d with freeUsed := t.bus.freeUsed } }) ∧
    (∀ n : SetName, w.bits 0 8 = (if n = .active then 1 else 2) →
      let x := if n = .active then s.znu.active else s.znu.staged
      let out := zoneReadBytes x
      ∃ t, exec .zoneRead s = .next t ∧
        (w.count.toNat ≠ 0 → t = { s with
          host := s.host.moving a false w, znu := { s.znu with task := .reading n }
          bus := { (taken.bus.setStation .znu {
              queue := rest
              service := some { anchor := some a, word := w, input := [], output := out } }) with
            accesses := s.bus.accesses ++ [firstWrite a w out] } }) ∧
        (w.count.toNat = 0 → t.znu = { s.znu with task := .idle } ∧ t.bus.service .znu = none ∧
          t.bus.outcomes = s.bus.outcomes ++ [{
            server := .znu, anchor := some a, cls := .normal
            details := { w0 := x.gen, w1 := BitVec.ofNat 32 x.zones.length
                         w2 := BitVec.ofNat 32 (membershipTotal x.zones), w3 := 0 } }]))) ∧
  (∀ (s : State) (a : Fin 16) (w : TaskWord) (rest : List (Fin 16 × TaskWord)),
    s.bus.station .znu = { queue := (a, w) :: rest, service := none } → s.znu.copyDue = false →
    w.is .zoneFindLoad = true → w.count.toNat ≠ 0 →
    exec .zoneFindLoad s = .next { s with
      host := s.host.moving a true w, znu := { s.znu with task := .loading }
      bus := { (s.takeWord .znu).bus with accesses := s.bus.accesses ++ [firstRead a w] } }) ∧
  (∀ (s : State) (sv : Service), s.bus.service .znu = some sv → s.znu.task = .loading →
    let e := (List.range (sv.input.length / 2)).map (fun k => field sv.input (2 * k) 2)
    let right := fun (k : Nat) => e.getD k 0 < 256 ∧ (k ≠ 0 → e.getD (k - 1) 0 < e.getD k 0)
    let words := fun (buffer : List Port) (n : Nat) =>
      details buffer.length n ((buffer.head?.map (·.val)).getD 0) ((buffer.getLast?.map (·.val)).getD 0)
    (∀ k, k < e.length → ¬ right k → (∀ j, j < k → right j) → exec .zoneFindLoad s = .next { s with
      znu := { s.znu with task := .idle }
      bus := s.bus.endTaskAfter .znu (some (2 * (k + 1))) (.refused .badParameter) (words s.znu.findBuffer k) }) ∧
    ((∀ k, k < e.length → right k) →
      (sv.complete = false → exec .zoneFindLoad s = .next s) ∧
      (sv.complete = true → ∀ buffer : List Port, buffer.map (fun p => p.val) = e → exec .zoneFindLoad s = .next { s with
        znu := { s.znu with task := .idle, findBuffer := buffer }
        bus := s.bus.closeNormal .znu (words buffer e.length) }))) ∧
  (∀ (s : State) (a : Fin 16) (w : TaskWord) (rest : List (Fin 16 × TaskWord)),
    s.bus.station .znu = { queue := (a, w) :: rest, service := none } → s.znu.copyDue = false → w.is .zoneFind = true →
    let named := (w.bits 0 8 = 1 ∨ w.bits 0 8 = 2) ∧ 1 ≤ w.bits 8 8 ∧ w.bits 8 8 ≤ 4 ∧ w.bits 16 8 ≤ 63 ∧ w.bits 24 8 ≤ 64
    let x := if w.bits 0 8 = 1 then s.znu.active else s.znu.staged
    let start := w.bits 16 8
    let limit := w.bits 24 8
    let room := w.count.toNat / 2
    let zones := x.zones.drop start
    let hits := fun (n : Nat) => (zones.take n).filter (findHit (w.bits 8 8) s.znu.findBuffer)
    (¬ named ∨ s.znu.findBuffer = [] → exec .zoneFind s = .next { s.takeWord .znu with
      znu := { s.znu with task := .idle }, bus := (s.takeWord .znu).bus.refuse .znu .badParameter .zero }) ∧
    (named → s.znu.findBuffer ≠ [] → ∀ n, n ≤ zones.length → (limit ≠ 0 → n ≤ limit) →
      (n = zones.length ∨ (limit ≠ 0 ∧ n = limit) ∨ (hits n).length = room) →
      (∀ m, m < n → (hits m).length < room) →
      ∃ t, exec .zoneFind s = .next t ∧
        (hits n = [] → t.znu = { s.znu with task := .idle } ∧ t.bus.service .znu = none ∧
          t.bus.outcomes = s.bus.outcomes ++ [{
            server := .znu, anchor := some a, cls := .normal
            details := details n 0 (if n = 0 then 65535 else start + n - 1) (if n = zones.length then 1 else 0) }]) ∧
        (hits n ≠ [] →
          let out := ((hits n).map (fun z => toLe 2 z.id)).flatten
          (∃ places, places.length = (hits n).length ∧
            t.znu = { s.znu with task := .finding start x.zones.length n places }) ∧
          t.bus.service .znu = some { anchor := some a, word := w, input := [], output := out } ∧
          t.bus.accesses = s.bus.accesses ++ [firstWrite a w out])))

/-! ### Matrix Writer -/

/-- R121: q is marked in the effective row of p under a zone set exactly when p and q are in service, differ, and share a
zone, or belong to none under default access ALL; reach is symmetric; the affected rows of p are its own and those of its
reach, and no other row changes with the service of p; and InService holds the ports IN_SERVICE. -/
def Obligations.EffectiveRowsFollowTheZoneSet : Prop :=
  ∀ (x : ZoneSet) (inService : PortMask) (p q : Port),
    let zoned := fun (r : Port) => ∃ z ∈ x.zones, r ∈ z.members
    let linked := if zoned p then (∃ z ∈ x.zones, p ∈ z.members ∧ q ∈ z.members) else x.access = .all ∧ ¬ zoned q
    ((effectiveRow x inService p).getLsbD q.val = true ↔
      inService.getLsbD p.val = true ∧ inService.getLsbD q.val = true ∧ p ≠ q ∧ linked) ∧
    (reach x p).getLsbD q.val = (reach x q).getLsbD p.val ∧
    ((reach x p).getLsbD q.val = true ↔ p ≠ q ∧ linked) ∧
    (q ∈ affectedRows x p ↔ q = p ∨ (reach x p).getLsbD q.val = true) ∧
    (∀ later : PortMask, (∀ r : Port, r ≠ p → later.getLsbD r.val = inService.getLsbD r.val) → q ∉ affectedRows x p →
      effectiveRow x later q = effectiveRow x inService q) ∧
    ∀ ports : Vector PortRec 256,
      (inServiceMask ports).getLsbD p.val = true ↔ ports[p].state = .inService

/-- R124, R126, R129 and R132: an acknowledgement with another number, or one that is malformed, changes nothing; that
of a probe brings the link UP with unknown shadows and begins the full refresh at row 0 of the bank it names; that of
the bank switch makes its bank active and answers COMMITTED. That rows are computed at once is the model's (log entry
10). -/
def Obligations.AcknowledgementsOfProbeAndSwitch : Prop :=
  ∀ (s : State) (frame : List Byte) (o : Outstanding), s.mxw.Sound → s.mxw.outstanding = some o →
    (acknowledgementOf frame = none → exec (.acknowledgement frame) s = .next s) ∧
    (∀ number bank, acknowledgementOf frame = some (number, bank) → number ≠ o.number →
      exec (.acknowledgement frame) s = .next s) ∧
    (∀ (bank : Byte) (b : Fin 2), acknowledgementOf frame = some (o.number, bank) → o.msg = .probe →
      bankOfByte bank = some b →
      let row := effectiveRow s.znu.active (inServiceMask s.ptu.ports) 0
      let up : Mxw := { s.mxw with
        linkUp := true, lost := false, activeBank := some b
        shadows := Vector.replicate 2 (Vector.replicate 256 none)
        fullRefresh := false, fore := .refresh 0, probeTimer := .stopped, probeDue := false }
      ∃ t, exec (.acknowledgement frame) s = .next t ∧ t = { s with
        mxw := up.sending (.rowWrite b 0 row)
        bus := { s.bus with
          toSpw := t.bus.toSpw
          toAtu := s.bus.toAtu ++
            (if s.mxw.lost then [{ raised := false, kind := .fabricLinkLost, object := 0 }] else []) } } ∧
        SummaryMarked s.bus.toSpw t.bus.toSpw True) ∧
    (∀ (bank : Byte) (b : Fin 2), acknowledgementOf frame = some (o.number, bank) → o.msg = .bankSwitch b →
      s.mxw.back = .switching → s.mxw.fore = .none →
      exec (.acknowledgement frame) s = .next { s with
        mxw := { s.mxw with
          outstanding := none, ackTimer := .stopped, activeBank := some b, back := .handover }
        bus := { s.bus with mxwZnu := s.bus.mxwZnu ++ [.committed] } })

/-- R124, R128, R129, R130, R131, R132 and R133: the acknowledgement of a row write gives its shadow row the mask sent,
and the work in hand goes on: the full refresh or the item takes the next row whose effective row its shadow does not
hold and writes it. Where no such row is left, and at the boundary of a build row, the work in hand ends and the MXW
chooses: the recompute items first, oldest first, each with its rows of the active bank and, during a build, those of
the inactive bank below the cursor; then an abandon request, which drops the build and answers ABANDONED with the cursor;
then the build, which writes its next such row, or sends the bank switch and answers SWITCH SENT; else it rests. The
zoning summary is marked by R135. That rows are computed at once, and that an abandon request waits for a build request
still untaken, are the model's (log entries 10 and 46). -/
def Obligations.RowBoundaryTakesTheNextRow : Prop :=
  ∀ (s : State) (frame : List Byte) (byte : Byte) (o : Outstanding) (b bank : Fin 2) (p : Port) (mask : PortMask),
    s.mxw.Sound → s.mxw.outstanding = some o → o.msg = .rowWrite b p mask → s.mxw.activeBank = some bank →
    acknowledgementOf frame = some (o.number, byte) →
    let up := inServiceMask s.ptu.ports
    let stored : Mxw := { s.mxw with
      shadows := setAt s.mxw.shadows b (setAt s.mxw.shadows[b] p (some mask)) }
    let activeRow := effectiveRow s.znu.active up
    let stagedRow := effectiveRow s.znu.staged up
    let other := bankBeside bank
    let becomes := fun (m : Mxw) (answers : List MxwToZnu) => ∃ t, exec (.acknowledgement frame) s = .next t ∧
      t = { s with mxw := m, bus := { s.bus with toSpw := t.bus.toSpw, mxwZnu := s.bus.mxwZnu ++ answers } } ∧
      SummaryMarked s.bus.toSpw t.bus.toSpw (s.mxw.shownApart m)
    let bankOf := fun (e : Bool × Port) => if e.1 then bank else other
    let rowOf := fun (e : Bool × Port) => if e.1 then activeRow e.2 else stagedRow e.2
    let holds := fun (e : Bool × Port) => stored.holds (bankOf e) e.2 (rowOf e)
    (s.mxw.fore = .refresh p.val →
      ∀ q : Port, p < q → (∀ r : Port, p < r → r < q → stored.holds bank r (activeRow r)) →
        ¬ stored.holds bank q (activeRow q) →
        becomes ({ stored with fore := .refresh q.val }.sending (.rowWrite bank q (activeRow q))) []) ∧
    (∀ (first next : Bool × Port) (done rest : List (Bool × Port)),
      s.mxw.fore = .item (first :: (done ++ next :: rest)) → (∀ e ∈ done, holds e) → ¬ holds next →
      becomes ({ stored with fore := .item (next :: rest) }.sending (.rowWrite (bankOf next) next.2 (rowOf next))) []) ∧
    (let ended := (s.mxw.fore = .refresh p.val ∧ ∀ r : Port, p < r → stored.holds bank r (activeRow r)) ∨
        (∃ first done, s.mxw.fore = .item (first :: done) ∧ ∀ e ∈ done, holds e) ∨
        (s.mxw.fore = .none ∧ s.mxw.back = .build ∧ s.mxw.cursor = p.val)
      let c := if s.mxw.fore = .none then p.val + 1 else s.mxw.cursor
      let ready : Mxw := { stored with fore := .none, cursor := c }
      let quiet : Mxw := { ready with outstanding := none, ackTimer := .stopped, recompute := [] }
      let items := fun (x : Port) => rowsDue s.znu (s.mxw.back == .build) c x
      ended → s.mxw.fullRefresh = false → s.mxw.back = .none ∨ s.mxw.back = .build →
      (∀ (skipped later : List Port) (x : Port) (done rest : List (Bool × Port)) (next : Bool × Port),
        s.mxw.recompute = skipped ++ x :: later → (∀ y ∈ skipped, ∀ e ∈ items y, holds e) →
        items x = done ++ next :: rest → (∀ e ∈ done, holds e) → ¬ holds next →
        becomes ({ ready with recompute := later, fore := .item (next :: rest) }.sending
          (.rowWrite (bankOf next) next.2 (rowOf next))) []) ∧
      ((∀ y ∈ s.mxw.recompute, ∀ e ∈ items y, holds e) →
        (s.mxw.back = .none → becomes { quiet with abandon := s.mxw.abandon && s.bus.znuMxw.contains .build } []) ∧
        (s.mxw.back = .build → s.mxw.abandon = true →
          becomes { quiet with back := .none, abandon := false } [.abandoned c]) ∧
        (s.mxw.back = .build → s.mxw.abandon = false →
          (∀ q : Port, c ≤ q.val → (∀ r : Port, c ≤ r.val → r < q → stored.holds other r (stagedRow r)) →
            ¬ stored.holds other q (stagedRow q) →
            becomes ({ quiet with cursor := q.val }.sending (.rowWrite other q (stagedRow q))) []) ∧
          ((∀ r : Port, c ≤ r.val → stored.holds other r (stagedRow r)) →
            becomes ({ quiet with cursor := 256, back := .switching }.sending (.bankSwitch other)) [.switchSent]))))

/-- R124, R125 and R126: the first expiry of the acknowledgement timer sends the message again with its number; the
second one fails a probe, with FABRIC_LINK_LOST raised unless it stands, or brings the link DOWN, with the work dropped,
FAILED answered for a build in hand, and a probe due in 1 s. The probe timer sends a probe, or one waits for the one
outstanding. That a probe sent again leaves the probe timer alone, and that an abandon request stays whose build request
is still to come, are the model's readings (log entries 35 and 46). -/
def Obligations.TheLinkIsRetriedLostAndProbed : Prop :=
  (∀ (s : State) (o : Outstanding), s.mxw.Sound → s.mxw.outstanding = some o →
    let raise : AlarmRequest := { raised := true, kind := .fabricLinkLost, object := 0 }
    let quiet : Mxw := { s.mxw with outstanding := none, ackTimer := .stopped, lost := true }
    (o.retry = false → exec .ackTimerExpiry s = .next { s with
      mxw := { s.mxw with outstanding := some { o with retry := true }, ackTimer := .running 1 } }) ∧
    (o.retry = true → o.msg = .probe → exec .ackTimerExpiry s = .next { s with
      mxw := if s.mxw.probeDue
        then { quiet.sending .probe with probeTimer := .running 1000, probeDue := false } else quiet
      bus := { s.bus with toAtu := s.bus.toAtu ++ (if s.mxw.lost then [] else [raise]) } }) ∧
    (o.retry = true → o.msg ≠ .probe → ∃ t, exec .ackTimerExpiry s = .next t ∧ t = { s with
      mxw := { quiet with
        linkUp := false, fullRefresh := true, recompute := [], fore := .none, back := .none
        abandon := s.mxw.abandon && s.bus.znuMxw.contains .build
        probeTimer := .running 1000, probeDue := false
        activeBank := (match o.msg with
          | .bankSwitch _ => none
          | _ => s.mxw.activeBank)
        shadows := (match o.msg with
          | .rowWrite b p _ => setAt s.mxw.shadows b (setAt s.mxw.shadows[b] p none)
          | _ => s.mxw.shadows) }
      bus := { s.bus with
        toSpw := t.bus.toSpw
        toAtu := s.bus.toAtu ++ [raise]
        mxwZnu := s.bus.mxwZnu ++
          (if s.mxw.back = .build ∨ s.mxw.back = .switching then [.failed s.mxw.cursor] else []) } } ∧
      SummaryMarked s.bus.toSpw t.bus.toSpw True)) ∧
  (∀ (s : State) (ms : Nat), s.mxw.probeTimer = .running ms →
    (s.mxw.outstanding = none → exec .probeTimerExpiry s = .next { s with
      mxw := { s.mxw.sending .probe with probeTimer := .running 1000, probeDue := false } }) ∧
    (s.mxw.outstanding ≠ none → exec .probeTimerExpiry s = .next { s with
      mxw := { s.mxw with probeTimer := .stopped, probeDue := true } }))

/-- R127, R130, R131 and R132: with the link DOWN an addition is dropped and a build request answered FAILED with cursor
0. With a message outstanding an addition joins the recompute set once and a build request sets the cursor to 0. At rest
an addition is served at once, row by row of its affected rows, and a build starts at row 0; and the answer that the
active set has been replaced ends HANDOVER, after which the items that waited are served in their order against the new
active bank. The zoning summary is marked by R135. That rows are computed at once, and the cursor of a request taken with the
link DOWN, are the model's (log entries 10 and 47). -/
def Obligations.RecomputeAndBuildRequestsAreTaken : Prop :=
  (∀ (s : State) (p : Port) (rest : List Port), s.mxw.Sound → s.bus.ptuMxw = p :: rest →
    let active := effectiveRow s.znu.active (inServiceMask s.ptu.ports)
    let affected := (indices 256).filter (fun q => q = p ∨ (reach s.znu.active p).getLsbD q.val = true)
    let becomes := fun (m : Mxw) => ∃ t, exec .recomputeAddition s = .next t ∧
      t = { s with mxw := m, bus := { s.bus with toSpw := t.bus.toSpw, ptuMxw := rest } } ∧
      SummaryMarked s.bus.toSpw t.bus.toSpw (s.mxw.linkUp = true ∧ p ∉ s.mxw.recompute)
    (s.mxw.linkUp = false → becomes s.mxw) ∧
    (s.mxw.linkUp = true → s.mxw.outstanding ≠ none →
      becomes { s.mxw with recompute := if p ∈ s.mxw.recompute then s.mxw.recompute else s.mxw.recompute ++ [p] }) ∧
    (∀ bank : Fin 2, s.mxw.Resting → s.mxw.activeBank = some bank →
      ((∀ q ∈ affected, s.mxw.holds bank q (active q)) → becomes s.mxw) ∧
      (∀ (done todo : List Port) (q : Port), affected = done ++ q :: todo →
        (∀ r ∈ done, s.mxw.holds bank r (active r)) → ¬ s.mxw.holds bank q (active q) →
        becomes ({ s.mxw with fore := .item ((q :: todo).map (fun r => (true, r))) }.sending
          (.rowWrite bank q (active q)))))) ∧
  (∀ (s : State) (rest : List ZnuToMxw), s.mxw.Sound → s.bus.znuMxw = .build :: rest →
    let staged := effectiveRow s.znu.staged (inServiceMask s.ptu.ports)
    let becomes := fun (m : Mxw) (answers : List MxwToZnu) => ∃ t, exec .buildRequest s = .next t ∧
      t = { s with
        mxw := m
        bus := { s.bus with toSpw := t.bus.toSpw, znuMxw := rest, mxwZnu := s.bus.mxwZnu ++ answers } } ∧
      SummaryMarked s.bus.toSpw t.bus.toSpw (s.mxw.cursor ≠ 0 ∨ m.cursor ≠ 0)
    (s.mxw.linkUp = false → becomes { s.mxw with cursor := 0, abandon := false } [.failed 0]) ∧
    (s.mxw.linkUp = true → s.mxw.outstanding ≠ none → becomes { s.mxw with cursor := 0, back := .build } []) ∧
    (∀ bank : Fin 2, s.mxw.Resting → s.mxw.activeBank = some bank →
      let other := bankBeside bank
      (∀ q : Port, (∀ r : Port, r < q → s.mxw.holds other r (staged r)) → ¬ s.mxw.holds other q (staged q) →
        becomes ({ s.mxw with cursor := q.val, back := .build }.sending (.rowWrite other q (staged q))) []) ∧
      ((∀ r : Port, s.mxw.holds other r (staged r)) →
        becomes ({ s.mxw with cursor := 256, back := .switching }.sending (.bankSwitch other)) [.switchSent]))) ∧
  (∀ (s : State) (rest : List ZnuToMxw), s.bus.znuMxw = .replaced :: rest → s.mxw.back = .handover →
    s.mxw.outstanding = none → s.mxw.fore = .none → s.mxw.fullRefresh = false → s.mxw.recompute = [] →
    s.mxw.abandon = false →
    exec .activeSetReplaced s = .next { s with
      mxw := { s.mxw with back := .none }, bus := { s.bus with znuMxw := rest } }) ∧
  (∀ (s : State) (rest : List ZnuToMxw) (bank : Fin 2), s.mxw.Sound → s.bus.znuMxw = .replaced :: rest →
    s.mxw.back = .handover → s.mxw.outstanding = none → s.mxw.fore = .none → s.mxw.fullRefresh = false →
    s.mxw.abandon = false → s.mxw.activeBank = some bank →
    let row := effectiveRow s.znu.active (inServiceMask s.ptu.ports)
    let items := fun (x : Port) => (rowsDue s.znu false 0 x).map (fun e => e.2)
    let holds := fun (q : Port) => s.mxw.holds bank q (row q)
    let becomes := fun (m : Mxw) => ∃ t, exec .activeSetReplaced s = .next t ∧
      t = { s with mxw := m, bus := { s.bus with znuMxw := rest, toSpw := t.bus.toSpw } } ∧
      SummaryMarked s.bus.toSpw t.bus.toSpw (s.mxw.shownApart m)
    (∀ (skipped later done todo : List Port) (x q : Port), s.mxw.recompute = skipped ++ x :: later →
      (∀ y ∈ skipped, ∀ r ∈ items y, holds r) → items x = done ++ q :: todo → (∀ r ∈ done, holds r) → ¬ holds q →
      becomes ({ s.mxw with
        back := .none, recompute := later, fore := .item ((q :: todo).map (fun r => (true, r))) }.sending
        (.rowWrite bank q (row q)))) ∧
    ((∀ y ∈ s.mxw.recompute, ∀ r ∈ items y, holds r) → becomes { s.mxw with back := .none, recompute := [] }))

/-! ### Alarm Table Unit -/

/-- R138 and R140: a raise of a kind and object that the table holds raises a CLEARED_UNACKED record again and leaves an
active one; a new record takes the lowest empty place; when 63 ordinary records exist, the CLEARED_UNACKED one with the
lowest last-change seconds, then the lowest place, is evicted, and without one the raise is dropped, counted, and
ALARM_TABLE_FULL is raised. The outputs follow the table, and what has changed is marked for the page (R144). -/
def Obligations.RaisesFindOrMakeRoom : Prop :=
  ∀ (s : State) (k : AlarmKind) (o : Nat) (pre post : List AlarmRequest), s.atu.Sound →
    s.bus.toAtu = pre ++ { raised := true, kind := k, object := o } :: post →
    (∀ q ∈ pre, alarmOwner q.kind ≠ alarmOwner k) →
    let now := s.tb.seconds
    let table := s.atu.table
    let ordinary := fun (r : AlarmRec) => r.kind != .alarmTableFull
    let evictable := fun (i : Fin 64) => table[i].any (fun r => ordinary r && r.state == .clearedUnacked)
    let changed := fun (i : Fin 64) => (table[i].map (fun r => r.lastChange)).getD 0
    let becomes := fun (u : Vector (Option AlarmRec) 64) (dropped : Nat) => ∃ t, exec (.raise k o) s = .next t ∧
      t = { s with
        atu := { t.atu with table := u, dropped := dropped }
        bus := { s.bus with toAtu := pre ++ post, toSpw := t.bus.toSpw } } ∧ t.atu.OutputsRight ∧
      AlarmsMarked s.bus.toSpw t.bus.toSpw s.atu t.atu
    (∀ (i : Fin 64) (r : AlarmRec), table[i] = some r → r.kind = k → r.object = o →
      becomes (setAt table i (some (r.raisedAgain now))) s.atu.dropped) ∧
    ((∀ (i : Fin 64) (r : AlarmRec), table[i] = some r → ¬ (r.kind = k ∧ r.object = o)) →
      (k = .alarmTableFull ∨ placesWith table ordinary < 63 → ∀ i, FirstEmpty table i →
        becomes (setAt table i (some (freshAlarm now k o))) s.atu.dropped) ∧
      (k ≠ .alarmTableFull → placesWith table ordinary = 63 →
        (∀ i j, evictable i = true →
          (∀ j, evictable j = true → changed i < changed j ∨ (changed i = changed j ∧ i ≤ j)) →
          FirstEmpty (setAt table i none) j →
          becomes (setAt (setAt table i none) j (some (freshAlarm now k o))) s.atu.dropped) ∧
        ((∀ i, evictable i = false) →
          let dropped := min (s.atu.dropped + 1) 65535
          (∀ (i : Fin 64) (r : AlarmRec), table[i] = some r → r.kind = .alarmTableFull → r.object = 0 →
            becomes (setAt table i (some (r.raisedAgain now))) dropped) ∧
          ((∀ (i : Fin 64) (r : AlarmRec), table[i] = some r → ¬ (r.kind = .alarmTableFull ∧ r.object = 0)) →
            ∀ i, FirstEmpty table i →
              becomes (setAt table i (some (freshAlarm now .alarmTableFull 0))) dropped))))

/-- R139, R141 and R142: a clear makes an ACTIVE_UNACKED record CLEARED_UNACKED and removes an ACTIVE_ACKED one; ALARM
ACKNOWLEDGE makes ACTIVE_UNACKED records ACTIVE_ACKED and removes CLEARED_UNACKED ones, of one place or of ALL; a removal
that leaves fewer than 56 records clears ALARM_TABLE_FULL; what has changed is marked for the page (R144), and a refused
task changes nothing. Of ALL, in ascending place order: the records moved are the ACTIVE_UNACKED ones, but for an
ALARM_TABLE_FULL record that the removals of lower places have cleared before its turn, and that record is gone when the
removals leave fewer than 56 records. -/
def Obligations.ClearsAndAcknowledgementsFreePlaces : Prop :=
  (∀ (s : State) (k : AlarmKind) (o : Nat) (pre post : List AlarmRequest), s.atu.Sound →
    s.bus.toAtu = pre ++ { raised := false, kind := k, object := o } :: post →
    (∀ q ∈ pre, alarmOwner q.kind ≠ alarmOwner k) →
    let table := s.atu.table
    ∃ t, exec (.clear k o) s = .next t ∧
      t = { s with
        atu := { t.atu with dropped := s.atu.dropped }
        bus := { s.bus with toAtu := pre ++ post, toSpw := t.bus.toSpw } } ∧ t.atu.OutputsRight ∧
      AlarmsMarked s.bus.toSpw t.bus.toSpw s.atu t.atu ∧
      ((∀ (i : Fin 64) (r : AlarmRec), table[i] = some r → ¬ (r.kind = k ∧ r.object = o)) → t.atu.table = table) ∧
      (∀ (i : Fin 64) (r : AlarmRec), table[i] = some r → r.kind = k → r.object = o →
        (r.state ≠ .activeAcked → t.atu.table = setAt table i (r.cleared s.tb.seconds)) ∧
        (r.state = .activeAcked → afterRemoval s.tb.seconds (setAt table i none) t.atu.table))) ∧
  (∀ (s : State) (a : Fin 16) (w : TaskWord) (rest : List (Fin 16 × TaskWord)), s.atu.Sound →
    s.bus.station .atu = { queue := (a, w) :: rest, service := none } →
    let now := s.tb.seconds
    let table := s.atu.table
    let n := w.bits 0 16
    let size := fun (u : Vector (Option AlarmRec) 64) => placesWith u (fun _ => true)
    let words := fun (u : Vector (Option AlarmRec) 64) (moved : Nat) =>
      details moved (size table - size u) (size u) s.atu.dropped
    let refusedWith := fun r => exec .alarmAcknowledge s = .next { s.takeWord .atu with
      bus := (s.takeWord .atu).bus.refuse .atu r (words table 0) }
    let ends := fun (t : State) (moved : Nat) => exec .alarmAcknowledge s = .next t ∧
      t = { s.takeWord .atu with
        atu := { t.atu with dropped := s.atu.dropped }
        bus := { (s.takeWord .atu).bus.closeNormal .atu (words t.atu.table moved) with toSpw := t.bus.toSpw } } ∧
      t.atu.OutputsRight ∧ AlarmsMarked s.bus.toSpw t.bus.toSpw s.atu t.atu
    (64 ≤ n → n ≠ 0xFFFF → refusedWith .badParameter) ∧
    (∀ i : Fin 64, n = i.val → table[i] = none → refusedWith .notFound) ∧
    (∀ (i : Fin 64) (r : AlarmRec), n = i.val → table[i] = some r → ∃ t,
      ends t (if r.state = .activeUnacked then 1 else 0) ∧
      (r.state ≠ .clearedUnacked → t.atu.table = setAt table i (r.acked now)) ∧
      (r.state = .clearedUnacked → afterRemoval now (setAt table i none) t.atu.table)) ∧
    (n = 0xFFFF → ∃ t moved, ends t moved ∧
      (∀ i : Fin 64, table[i] = none → t.atu.table[i] = none) ∧
      (∀ (i : Fin 64) (r : AlarmRec), table[i] = some r → r.kind ≠ .alarmTableFull ∨ 56 ≤ size t.atu.table →
        t.atu.table[i] = r.acked now) ∧
      (56 ≤ size t.atu.table → moved = placesWith table (fun r => r.state == .activeUnacked)) ∧
      ((∀ (i : Fin 64) (r : AlarmRec), table[i] = some r → r.kind = .alarmTableFull → r.object = 0) →
        let gone := fun (m : Nat) =>
          (indices 64).countP (fun j => decide (j.val < m) && table[j].any (fun r => r.state == .clearedUnacked))
        let full := fun (i : Fin 64) =>
          table[i].any (fun r => r.kind == .alarmTableFull && r.state == .activeUnacked)
        moved = placesWith table (fun r => r.kind != .alarmTableFull && r.state == .activeUnacked) +
          (indices 64).countP (fun i => full i && decide (gone i.val = 0 ∨ 56 ≤ size table - gone i.val)) ∧
        ∀ (i : Fin 64) (r : AlarmRec), table[i] = some r → r.kind = .alarmTableFull →
          t.atu.table[i] = if 0 < gone 64 ∧ size table - gone 64 < 56 then none else r.acked now)))

/-! ### Status Page Writer -/

/-- R145 to R150: marks join the dirty set once; a batch begins when the four conditions hold, with the odd generation,
its records in page order, each read at its write, the even generation, and the page-changed notice; a failed write
stops the batch with the next even generation and FAULT. The even generation of a batch cut short and the three commands
of one failure are the model's reading (log entries 25 and 26). -/
def Obligations.PageBatchesWriteTheMarkedRecords : Prop :=
  (∀ (s : State) (r : PageRecord) (pre post : List PageRecord), s.spw.Sound → s.bus.toSpw = pre ++ r :: post → r ∉ pre →
    ∃ t, exec (.dirtyMark r) s = .next t ∧
      t = { s with spw := { s.spw with dirty := t.spw.dirty }, bus := { s.bus with toSpw := pre ++ post } } ∧
      PageAscending t.spw.dirty ∧ ∀ x, x ∈ t.spw.dirty ↔ x = r ∨ x ∈ s.spw.dirty) ∧
  (∀ (s : State),
    let due := s.spw.dirty ≠ [] ∧ s.spw.area = .active ∧ (∀ ms, s.spw.batchTimer ≠ .running ms) ∧ s.spw.batch = none
    (¬ due → exec .batchBegin s = .next s) ∧
    (due → exec .batchBegin s = .next { s with
      spw := { s.spw with
        dirty := [], gen := s.spw.gen + 1, batchTimer := .running 10, batch := some (.oddGeneration s.spw.dirty) }
      bus := { s.bus with accesses := s.bus.accesses ++ [{
        req := .spw, kind := .page, addr := s.host.hli.base + 0x400, len := 4
        data := toLe 4 (s.spw.gen + 1).toNat }] } }) ∧
    exec .batchTimerExpiry s = .next { s with spw := { s.spw with batchTimer := .stopped } }) ∧
  (∀ (s : State) (x : Access) (pre post : List Access), s.spw.Sound → s.bus.accesses = pre ++ x :: post → x.req = .spw →
    (∀ y ∈ pre, y.req ≠ .spw) →
    let base := s.host.hli.base
    let rest := pre ++ post
    (∀ (r : PageRecord) (later : List PageRecord),
      s.spw.batch = some (.oddGeneration (r :: later)) ∨ s.spw.batch = some (.records (r :: later)) →
      exec .pageWriteDone s = .next { s with
        spw := { s.spw with batch := some (.records later) }
        bus := { s.bus with accesses := rest ++ [{
          req := .spw, kind := .page, addr := base + BitVec.ofNat 64 (pageOffset r), len := pageSize r
          data := pageBytes s s.spw.gen r }] } }) ∧
    (s.spw.batch = some (.oddGeneration []) ∨ s.spw.batch = some (.records []) →
      exec .pageWriteDone s = .next { s with
        spw := { s.spw with gen := s.spw.gen + 1, batch := some .evenGeneration }
        bus := { s.bus with accesses := rest ++ [{
          req := .spw, kind := .page, addr := base + 0x400, len := 4, data := toLe 4 (s.spw.gen + 1).toNat }] } }) ∧
    (s.spw.batch = some .evenGeneration → ∃ t, exec .pageWriteDone s = .next t ∧ t = { s with
      spw := { s.spw with batch := none }
      host := { s.host with hli := { s.host.hli with pageChanged := true, interrupt := t.host.hli.interrupt } }
      bus := { s.bus with accesses := rest } } ∧ t.host.hli.interrupt = interruptDue t.host) ∧
    ∀ c ∈ [Instr.pageWriteFailed, .hostAccessFailed .spw, .hostAccessTimeout .spw], exec c s = .next { s with
      spw := { s.spw with
        batch := none, area := .fault
        gen := if s.spw.batch.isSome ∧ s.spw.batch ≠ some .evenGeneration then s.spw.gen + 1 else s.spw.gen }
      bus := { s.bus with accesses := rest } })

/-- R145 and R178: the page holds 365 records, each of its size, one after the other in the order of their places, from
offset 400h to 1BC0h of the Control Area; a batch of all records names each once. -/
def Obligations.PageRecordsFillTheirPlaces : Prop :=
  (∀ (s : State) (g : Word) (r : PageRecord), (pageBytes s g r).length = pageSize r) ∧
  (∀ r : PageRecord, 0x400 ≤ pageOffset r ∧ pageOffset r + pageSize r ≤ 0x1BC0) ∧
  (∀ r q : PageRecord, pageIndex q = pageIndex r + 1 → pageOffset q = pageOffset r + pageSize r) ∧
  (∀ r q : PageRecord, pageIndex r < pageIndex q → pageOffset r + pageSize r ≤ pageOffset q) ∧
  (∀ r q : PageRecord, pageIndex r = pageIndex q → r = q) ∧
  PageAscending allPageRecords ∧ allPageRecords.length = 365 ∧ ∀ r : PageRecord, r ∈ allPageRecords

/-! ### Module Line Controller -/

/-- R152 to R155: a request joins the waiting entry of its device and command, makes an entry while fewer than 24 wait,
or is answered NO_ANSWER at once. A transaction takes the oldest entry and sends its frame; a complete answer frame is
OK with its data when address, length and check are right and BAD_CHECK when not, and the timer's expiry is NO_ANSWER
without a byte and BAD_CHECK with some; each request of the entry is answered in order; after BAD_CHECK ten idle bit
times bring the line back. That answer bytes and idle bit times add up over commands is the model's form (log entry 38).
-/
def Obligations.LineTransactionsAnswerTheirRequests : Prop :=
  let answers := fun (b : Bus) (l : List MlcRequest) (o : LineOutcome) =>
    let of := fun (u : MlcUser) => (l.filter (fun r => r.who = u)).map (fun r => ({ req := r, outcome := o } : MlcAnswer))
    { b with mlcPbu := b.mlcPbu ++ of .pbu, mlcSls := b.mlcSls ++ of .sls, mlcClc := b.mlcClc ++ of .clc }
  (∀ (s : State) (r : MlcRequest) (pre post : List MlcRequest), s.mlc.Sound → s.bus.toMlc = pre ++ r :: post →
    (∀ q ∈ pre, q.who ≠ r.who) →
    let same := fun (e : MlcEntry) => e.dev = r.dev ∧ e.cmd = r.cmd
    let bus := { s.bus with toMlc := pre ++ post }
    ((∃ e ∈ s.mlc.queue, same e) → exec (.mlcRequest r.who) s = .next { s with
      mlc := { s.mlc with
        queue := s.mlc.queue.map (fun e => if same e then { e with requests := e.requests ++ [r] } else e) }
      bus := bus }) ∧
    ((∀ e ∈ s.mlc.queue, ¬ same e) → s.mlc.queue.length < 24 → exec (.mlcRequest r.who) s = .next { s with
      mlc := { s.mlc with queue := s.mlc.queue ++ [{ dev := r.dev, cmd := r.cmd, requests := [r] }] }
      bus := bus }) ∧
    ((∀ e ∈ s.mlc.queue, ¬ same e) → s.mlc.queue.length = 24 → exec (.mlcRequest r.who) s = .next { s with
      bus := answers bus [r] .noAnswer })) ∧
  (∀ (s : State) (e : MlcEntry) (rest : List MlcEntry), s.mlc.line = .idle → s.mlc.queue = e :: rest →
    ∃ check : Byte,
      exec .transactionBegin s = .next { s with mlc := { s.mlc with
        line := .sending, current := some e, queue := rest, received := []
        sent := [BitVec.ofNat 8 (deviceAddress e.dev), BitVec.ofNat 8 (commandCode e.cmd)
                 , BitVec.ofNat 8 (answerLength e.dev e.cmd), check] } } ∧
      (deviceAddress e.dev + commandCode e.cmd + answerLength e.dev e.cmd + check.toNat) % 256 = 0) ∧
  (∀ (s : State), s.mlc.line = .sending → exec .requestSent s = .next { s with
    mlc := { s.mlc with line := .awaiting, answerTimer := .running 5, received := [] } }) ∧
  (∀ (s : State) (e : MlcEntry) (bytes : List Byte), s.mlc.Sound → s.mlc.line = .awaiting → s.mlc.current = some e →
    let got := s.mlc.received ++ bytes
    let n := answerLength e.dev e.cmd
    let right := (got.getD 0 0).toNat = deviceAddress e.dev ∧ (got.getD 1 0).toNat = n ∧
      ((got.take (3 + n)).map (fun b => b.toNat)).sum % 256 = 0
    let done := fun (c : Instr) (line : LineState) (o : LineOutcome) => exec c s = .next { s with
      mlc := { s.mlc with line := line, current := none, received := [], answerTimer := .stopped, idleBits := 0 }
      bus := answers s.bus e.requests o }
    (got.length < 3 + n → exec (.answerFrame bytes) s = .next { s with mlc := { s.mlc with received := got } }) ∧
    (3 + n ≤ got.length → right → done (.answerFrame bytes) .idle (.ok ((got.drop 2).take n))) ∧
    (3 + n ≤ got.length → ¬ right → done (.answerFrame bytes) .recovery .badCheck) ∧
    (s.mlc.received = [] → done .answerTimerExpiry .idle .noAnswer) ∧
    (s.mlc.received ≠ [] → done .answerTimerExpiry .recovery .badCheck)) ∧
  (∀ (s : State) (bytes : List Byte) (n : Nat), s.mlc.line = .recovery →
    let restarted := { s with mlc := { s.mlc with idleBits := 0 } }
    exec .lineActivity s = .next restarted ∧ exec (.answerFrame bytes) s = .next restarted ∧
    (10 ≤ s.mlc.idleBits + n → exec (.recoveryIdle n) s = .next { s with
      mlc := { s.mlc with line := .idle, idleBits := 0 } }) ∧
    (s.mlc.idleBits + n < 10 → exec (.recoveryIdle n) s = .next { s with
      mlc := { s.mlc with idleBits := s.mlc.idleBits + n } }))

/-! ### Time Base and start-up -/

/-- R156, R157 and R160: a change of a PRESENT line stops the pending timer when the new level is the reported one and
starts it at 50 ms when it is not; its expiry reports the level to the owner of the line, the first one by the rules of
the scan; the scan taken and the start-up read of the LCU make the part READY and mark the header. -/
def Obligations.PresenceIsDebouncedAndStartUpEnds : Prop :=
  (∀ (s : State) (line : PresenceLine) (x : Bool),
    let d := debouncer s.tb line
    (lineLevel s.pins line = x → exec (.presenceLineChange line x) s = .next s) ∧
    (lineLevel s.pins line ≠ x → exec (.presenceLineChange line x) s = .next { s with
      pins := setLine s.pins x line
      tb := setDebouncer s.tb { d with timer := if d.reported = some x then .stopped else .running 50 } line })) ∧
  (∀ (s : State) (line : PresenceLine) (ms : Nat), (debouncer s.tb line).timer = .running ms →
    let d := debouncer s.tb line
    let x := lineLevel s.pins line
    let tb := setDebouncer s.tb { reported := some x, timer := .stopped } line
    let told := match line with
      | .tray _ => true
      | _ => d.reported.isSome || x
    let scan := d.reported = none ∧ s.tb.scanTold = false ∧ (∀ i : Fin 8, tb.slots[i].reported.isSome) ∧
      (∀ k : Fin 4, tb.bays[k].reported.isSome) ∧ ∀ t : Fin 6, tb.trays[t].reported.isSome
    exec (.pendingTimerExpiry line) s = .next { s with
      tb := if scan then { tb with scanTold := true } else tb
      pbu := (match line with
        | .bay k => if d.reported = none ∧ x = true then
            { s.pbu with awaited := setAt s.pbu.awaited k true } else s.pbu
        | _ => s.pbu)
      bus := { s.bus with
        toHli := s.bus.toHli ++ (if scan then [.tb] else [])
        tbSls := s.bus.tbSls ++ (match line with
          | .slot i => if told then [(i, x)] else []
          | _ => [])
        tbPbu := s.bus.tbPbu ++ (match line with
          | .bay k => if told then [(k, x)] else []
          | _ => [])
        tbClc := s.bus.tbClc ++ (match line with
          | .tray t => [(t, x)]
          | _ => []) } }) ∧
  (∀ (s : State) (src : StartUpSource) (pre post : List StartUpSource), s.bus.toHli = pre ++ src :: post → src ∉ pre →
    let h := s.host.hli
    let both := (src = .lcu ∧ h.tbReported = true) ∨ (src = .tb ∧ h.lcuReported = true) ∨
      (h.lcuReported = true ∧ h.tbReported = true)
    exec (.startUpReport src) s = .next { s with
      host := { s.host with hli := { h with
        lcuReported := h.lcuReported || src == .lcu, tbReported := h.tbReported || src == .tb
        ready := h.ready || both } }
      bus := { s.bus with
        toHli := pre ++ post
        toSpw := s.bus.toSpw ++ (if both ∧ h.ready = false then [.header] else []) } })
end

