-- ==== Sys2Proof/Laws/State.lean ====
section
/-! SUPPORT. What each update of the state leaves and sets, field by field, and the laws of indexed tables: true by
unfolding once, here, so that no later proof unfolds a record update. -/

namespace Sys2Proof.Machine

open Sys2Proof

/-! ### Indexed tables -/

@[simp] theorem setAt_val_self {α : Type} {n : Nat} (v : Vector α n) (i : Fin n) (x : α) :
    (setAt v i x)[i.val] = x := by
  simp [setAt]

theorem setAt_get_self {α : Type} {n : Nat} (v : Vector α n) (i : Fin n) (x : α) : (setAt v i x)[i] = x :=
  setAt_val_self v i x

@[simp] theorem setAt_val {α : Type} {n : Nat} (v : Vector α n) (i j : Fin n) (x : α) :
    (setAt v i x)[j.val] = if i = j then x else v[j.val] := by
  by_cases h : i = j
  · subst h; simp
  · have : (i : Nat) ≠ (j : Nat) := fun e => h (Fin.ext e)
    simp [setAt, h, this]

theorem setAt_get {α : Type} {n : Nat} (v : Vector α n) (i j : Fin n) (x : α) :
    (setAt v i x)[j] = if i = j then x else v[j] := setAt_val v i j x

theorem setAt_get_ne {α : Type} {n : Nat} (v : Vector α n) (i j : Fin n) (x : α) (h : i ≠ j) :
    (setAt v i x)[j] = v[j] := by
  rw [setAt_get, if_neg h]

@[simp] theorem setAt_self {α : Type} {n : Nat} (v : Vector α n) (i : Fin n) : setAt v i v[i] = v := by
  simp [setAt]

theorem updAt_get {α : Type} {n : Nat} (v : Vector α n) (i j : Fin n) (f : α → α) :
    (updAt v i f)[j] = if i = j then f v[i] else v[j] := setAt_get v i j (f v[i])

@[simp] theorem mem_indices {n : Nat} (i : Fin n) : i ∈ indices n := List.mem_finRange i

theorem indices_nodup (n : Nat) : (indices n).Nodup := List.nodup_finRange n

/-! ### A block at work changes its own state and the bus, nothing else -/

section onHost

variable (s : State) (f : At HostSide → At HostSide)

@[simp] theorem onHost_host : (s.onHost f).host = (f { own := s.host, bus := s.bus }).own := rfl
@[simp] theorem onHost_bus : (s.onHost f).bus = (f { own := s.host, bus := s.bus }).bus := rfl
@[simp] theorem onHost_ptu : (s.onHost f).ptu = s.ptu := rfl
@[simp] theorem onHost_lcu : (s.onHost f).lcu = s.lcu := rfl
@[simp] theorem onHost_pbu : (s.onHost f).pbu = s.pbu := rfl
@[simp] theorem onHost_sls : (s.onHost f).sls = s.sls := rfl
@[simp] theorem onHost_clc : (s.onHost f).clc = s.clc := rfl
@[simp] theorem onHost_znu : (s.onHost f).znu = s.znu := rfl
@[simp] theorem onHost_mxw : (s.onHost f).mxw = s.mxw := rfl
@[simp] theorem onHost_atu : (s.onHost f).atu = s.atu := rfl
@[simp] theorem onHost_spw : (s.onHost f).spw = s.spw := rfl
@[simp] theorem onHost_mlc : (s.onHost f).mlc = s.mlc := rfl
@[simp] theorem onHost_tb : (s.onHost f).tb = s.tb := rfl
@[simp] theorem onHost_pins : (s.onHost f).pins = s.pins := rfl
@[simp] theorem onHost_pending : (s.onHost f).pending = s.pending := rfl

end onHost

@[simp] theorem Ptu.forgetTask_ports (p : Ptu) : p.forgetTask.ports = p.ports := rfl
@[simp] theorem Ptu.forgetTask_view (p : Ptu) : p.forgetTask.view = p.view := rfl
@[simp] theorem Ptu.forgetTask_claim (p : Ptu) : p.forgetTask.claim = p.claim := rfl
@[simp] theorem Ptu.forgetTask_waitList (p : Ptu) : p.forgetTask.waitList = p.waitList := rfl
@[simp] theorem Ptu.forgetTask_held (p : Ptu) : p.forgetTask.held = p.held := rfl
@[simp] theorem Ptu.forgetTask_granted (p : Ptu) : p.forgetTask.granted = p.granted := rfl
@[simp] theorem Ptu.forgetTask_heldInputs (p : Ptu) :
    p.forgetTask.heldInputs = p.heldInputs.filter (fun h => h != .task) := rfl

section onPtu

variable (s : State) (f : At Ptu → At Ptu)

@[simp] theorem onPtu_ptu : (s.onPtu f).ptu = (f { own := s.ptu, bus := s.bus }).own := rfl
@[simp] theorem onPtu_bus : (s.onPtu f).bus = (f { own := s.ptu, bus := s.bus }).bus := rfl
@[simp] theorem onPtu_host : (s.onPtu f).host = s.host := rfl
@[simp] theorem onPtu_lcu : (s.onPtu f).lcu = s.lcu := rfl
@[simp] theorem onPtu_pbu : (s.onPtu f).pbu = s.pbu := rfl
@[simp] theorem onPtu_sls : (s.onPtu f).sls = s.sls := rfl
@[simp] theorem onPtu_clc : (s.onPtu f).clc = s.clc := rfl
@[simp] theorem onPtu_znu : (s.onPtu f).znu = s.znu := rfl
@[simp] theorem onPtu_mxw : (s.onPtu f).mxw = s.mxw := rfl
@[simp] theorem onPtu_atu : (s.onPtu f).atu = s.atu := rfl
@[simp] theorem onPtu_spw : (s.onPtu f).spw = s.spw := rfl
@[simp] theorem onPtu_mlc : (s.onPtu f).mlc = s.mlc := rfl
@[simp] theorem onPtu_tb : (s.onPtu f).tb = s.tb := rfl
@[simp] theorem onPtu_pins : (s.onPtu f).pins = s.pins := rfl
@[simp] theorem onPtu_pending : (s.onPtu f).pending = s.pending := rfl

end onPtu

section onLcu

variable (s : State) (f : At Lcu → At Lcu)

@[simp] theorem onLcu_lcu : (s.onLcu f).lcu = (f { own := s.lcu, bus := s.bus }).own := rfl
@[simp] theorem onLcu_bus : (s.onLcu f).bus = (f { own := s.lcu, bus := s.bus }).bus := rfl
@[simp] theorem onLcu_host : (s.onLcu f).host = s.host := rfl
@[simp] theorem onLcu_ptu : (s.onLcu f).ptu = s.ptu := rfl
@[simp] theorem onLcu_pbu : (s.onLcu f).pbu = s.pbu := rfl
@[simp] theorem onLcu_sls : (s.onLcu f).sls = s.sls := rfl
@[simp] theorem onLcu_clc : (s.onLcu f).clc = s.clc := rfl
@[simp] theorem onLcu_znu : (s.onLcu f).znu = s.znu := rfl
@[simp] theorem onLcu_mxw : (s.onLcu f).mxw = s.mxw := rfl
@[simp] theorem onLcu_atu : (s.onLcu f).atu = s.atu := rfl
@[simp] theorem onLcu_spw : (s.onLcu f).spw = s.spw := rfl
@[simp] theorem onLcu_mlc : (s.onLcu f).mlc = s.mlc := rfl
@[simp] theorem onLcu_tb : (s.onLcu f).tb = s.tb := rfl
@[simp] theorem onLcu_pins : (s.onLcu f).pins = s.pins := rfl
@[simp] theorem onLcu_pending : (s.onLcu f).pending = s.pending := rfl

end onLcu

section onPbu

variable (s : State) (f : At Pbu → At Pbu)

@[simp] theorem onPbu_pbu : (s.onPbu f).pbu = (f { own := s.pbu, bus := s.bus }).own := rfl
@[simp] theorem onPbu_bus : (s.onPbu f).bus = (f { own := s.pbu, bus := s.bus }).bus := rfl
@[simp] theorem onPbu_host : (s.onPbu f).host = s.host := rfl
@[simp] theorem onPbu_ptu : (s.onPbu f).ptu = s.ptu := rfl
@[simp] theorem onPbu_lcu : (s.onPbu f).lcu = s.lcu := rfl
@[simp] theorem onPbu_sls : (s.onPbu f).sls = s.sls := rfl
@[simp] theorem onPbu_clc : (s.onPbu f).clc = s.clc := rfl
@[simp] theorem onPbu_znu : (s.onPbu f).znu = s.znu := rfl
@[simp] theorem onPbu_mxw : (s.onPbu f).mxw = s.mxw := rfl
@[simp] theorem onPbu_atu : (s.onPbu f).atu = s.atu := rfl
@[simp] theorem onPbu_spw : (s.onPbu f).spw = s.spw := rfl
@[simp] theorem onPbu_mlc : (s.onPbu f).mlc = s.mlc := rfl
@[simp] theorem onPbu_tb : (s.onPbu f).tb = s.tb := rfl
@[simp] theorem onPbu_pins : (s.onPbu f).pins = s.pins := rfl
@[simp] theorem onPbu_pending : (s.onPbu f).pending = s.pending := rfl

end onPbu

section onSls

variable (s : State) (f : At Sls → At Sls)

@[simp] theorem onSls_sls : (s.onSls f).sls = (f { own := s.sls, bus := s.bus }).own := rfl
@[simp] theorem onSls_bus : (s.onSls f).bus = (f { own := s.sls, bus := s.bus }).bus := rfl
@[simp] theorem onSls_host : (s.onSls f).host = s.host := rfl
@[simp] theorem onSls_ptu : (s.onSls f).ptu = s.ptu := rfl
@[simp] theorem onSls_lcu : (s.onSls f).lcu = s.lcu := rfl
@[simp] theorem onSls_pbu : (s.onSls f).pbu = s.pbu := rfl
@[simp] theorem onSls_clc : (s.onSls f).clc = s.clc := rfl
@[simp] theorem onSls_znu : (s.onSls f).znu = s.znu := rfl
@[simp] theorem onSls_mxw : (s.onSls f).mxw = s.mxw := rfl
@[simp] theorem onSls_atu : (s.onSls f).atu = s.atu := rfl
@[simp] theorem onSls_spw : (s.onSls f).spw = s.spw := rfl
@[simp] theorem onSls_mlc : (s.onSls f).mlc = s.mlc := rfl
@[simp] theorem onSls_tb : (s.onSls f).tb = s.tb := rfl
@[simp] theorem onSls_pins : (s.onSls f).pins = s.pins := rfl
@[simp] theorem onSls_pending : (s.onSls f).pending = s.pending := rfl

end onSls

section onClc

variable (s : State) (f : At Clc → At Clc)

@[simp] theorem onClc_clc : (s.onClc f).clc = (f { own := s.clc, bus := s.bus }).own := rfl
@[simp] theorem onClc_bus : (s.onClc f).bus = (f { own := s.clc, bus := s.bus }).bus := rfl
@[simp] theorem onClc_host : (s.onClc f).host = s.host := rfl
@[simp] theorem onClc_ptu : (s.onClc f).ptu = s.ptu := rfl
@[simp] theorem onClc_lcu : (s.onClc f).lcu = s.lcu := rfl
@[simp] theorem onClc_pbu : (s.onClc f).pbu = s.pbu := rfl
@[simp] theorem onClc_sls : (s.onClc f).sls = s.sls := rfl
@[simp] theorem onClc_znu : (s.onClc f).znu = s.znu := rfl
@[simp] theorem onClc_mxw : (s.onClc f).mxw = s.mxw := rfl
@[simp] theorem onClc_atu : (s.onClc f).atu = s.atu := rfl
@[simp] theorem onClc_spw : (s.onClc f).spw = s.spw := rfl
@[simp] theorem onClc_mlc : (s.onClc f).mlc = s.mlc := rfl
@[simp] theorem onClc_tb : (s.onClc f).tb = s.tb := rfl
@[simp] theorem onClc_pins : (s.onClc f).pins = s.pins := rfl
@[simp] theorem onClc_pending : (s.onClc f).pending = s.pending := rfl

end onClc

section onZnu

variable (s : State) (f : At Znu → At Znu)

@[simp] theorem onZnu_znu : (s.onZnu f).znu = (f { own := s.znu, bus := s.bus }).own := rfl
@[simp] theorem onZnu_bus : (s.onZnu f).bus = (f { own := s.znu, bus := s.bus }).bus := rfl
@[simp] theorem onZnu_host : (s.onZnu f).host = s.host := rfl
@[simp] theorem onZnu_ptu : (s.onZnu f).ptu = s.ptu := rfl
@[simp] theorem onZnu_lcu : (s.onZnu f).lcu = s.lcu := rfl
@[simp] theorem onZnu_pbu : (s.onZnu f).pbu = s.pbu := rfl
@[simp] theorem onZnu_sls : (s.onZnu f).sls = s.sls := rfl
@[simp] theorem onZnu_clc : (s.onZnu f).clc = s.clc := rfl
@[simp] theorem onZnu_mxw : (s.onZnu f).mxw = s.mxw := rfl
@[simp] theorem onZnu_atu : (s.onZnu f).atu = s.atu := rfl
@[simp] theorem onZnu_spw : (s.onZnu f).spw = s.spw := rfl
@[simp] theorem onZnu_mlc : (s.onZnu f).mlc = s.mlc := rfl
@[simp] theorem onZnu_tb : (s.onZnu f).tb = s.tb := rfl
@[simp] theorem onZnu_pins : (s.onZnu f).pins = s.pins := rfl
@[simp] theorem onZnu_pending : (s.onZnu f).pending = s.pending := rfl

end onZnu

section onMxw

variable (s : State) (f : At Mxw → At Mxw)

@[simp] theorem onMxw_mxw : (s.onMxw f).mxw = (f { own := s.mxw, bus := s.bus }).own := rfl
@[simp] theorem onMxw_bus : (s.onMxw f).bus = (f { own := s.mxw, bus := s.bus }).bus := rfl
@[simp] theorem onMxw_host : (s.onMxw f).host = s.host := rfl
@[simp] theorem onMxw_ptu : (s.onMxw f).ptu = s.ptu := rfl
@[simp] theorem onMxw_lcu : (s.onMxw f).lcu = s.lcu := rfl
@[simp] theorem onMxw_pbu : (s.onMxw f).pbu = s.pbu := rfl
@[simp] theorem onMxw_sls : (s.onMxw f).sls = s.sls := rfl
@[simp] theorem onMxw_clc : (s.onMxw f).clc = s.clc := rfl
@[simp] theorem onMxw_znu : (s.onMxw f).znu = s.znu := rfl
@[simp] theorem onMxw_atu : (s.onMxw f).atu = s.atu := rfl
@[simp] theorem onMxw_spw : (s.onMxw f).spw = s.spw := rfl
@[simp] theorem onMxw_mlc : (s.onMxw f).mlc = s.mlc := rfl
@[simp] theorem onMxw_tb : (s.onMxw f).tb = s.tb := rfl
@[simp] theorem onMxw_pins : (s.onMxw f).pins = s.pins := rfl
@[simp] theorem onMxw_pending : (s.onMxw f).pending = s.pending := rfl

end onMxw

section onAtu

variable (s : State) (f : At Atu → At Atu)

@[simp] theorem onAtu_atu : (s.onAtu f).atu = (f { own := s.atu, bus := s.bus }).own := rfl
@[simp] theorem onAtu_bus : (s.onAtu f).bus = (f { own := s.atu, bus := s.bus }).bus := rfl
@[simp] theorem onAtu_host : (s.onAtu f).host = s.host := rfl
@[simp] theorem onAtu_ptu : (s.onAtu f).ptu = s.ptu := rfl
@[simp] theorem onAtu_lcu : (s.onAtu f).lcu = s.lcu := rfl
@[simp] theorem onAtu_pbu : (s.onAtu f).pbu = s.pbu := rfl
@[simp] theorem onAtu_sls : (s.onAtu f).sls = s.sls := rfl
@[simp] theorem onAtu_clc : (s.onAtu f).clc = s.clc := rfl
@[simp] theorem onAtu_znu : (s.onAtu f).znu = s.znu := rfl
@[simp] theorem onAtu_mxw : (s.onAtu f).mxw = s.mxw := rfl
@[simp] theorem onAtu_spw : (s.onAtu f).spw = s.spw := rfl
@[simp] theorem onAtu_mlc : (s.onAtu f).mlc = s.mlc := rfl
@[simp] theorem onAtu_tb : (s.onAtu f).tb = s.tb := rfl
@[simp] theorem onAtu_pins : (s.onAtu f).pins = s.pins := rfl
@[simp] theorem onAtu_pending : (s.onAtu f).pending = s.pending := rfl

end onAtu

section onSpw

variable (s : State) (f : At Spw → At Spw)

@[simp] theorem onSpw_spw : (s.onSpw f).spw = (f { own := s.spw, bus := s.bus }).own := rfl
@[simp] theorem onSpw_bus : (s.onSpw f).bus = (f { own := s.spw, bus := s.bus }).bus := rfl
@[simp] theorem onSpw_host : (s.onSpw f).host = s.host := rfl
@[simp] theorem onSpw_ptu : (s.onSpw f).ptu = s.ptu := rfl
@[simp] theorem onSpw_lcu : (s.onSpw f).lcu = s.lcu := rfl
@[simp] theorem onSpw_pbu : (s.onSpw f).pbu = s.pbu := rfl
@[simp] theorem onSpw_sls : (s.onSpw f).sls = s.sls := rfl
@[simp] theorem onSpw_clc : (s.onSpw f).clc = s.clc := rfl
@[simp] theorem onSpw_znu : (s.onSpw f).znu = s.znu := rfl
@[simp] theorem onSpw_mxw : (s.onSpw f).mxw = s.mxw := rfl
@[simp] theorem onSpw_atu : (s.onSpw f).atu = s.atu := rfl
@[simp] theorem onSpw_mlc : (s.onSpw f).mlc = s.mlc := rfl
@[simp] theorem onSpw_tb : (s.onSpw f).tb = s.tb := rfl
@[simp] theorem onSpw_pins : (s.onSpw f).pins = s.pins := rfl
@[simp] theorem onSpw_pending : (s.onSpw f).pending = s.pending := rfl

end onSpw

section onMlc

variable (s : State) (f : At Mlc → At Mlc)

@[simp] theorem onMlc_mlc : (s.onMlc f).mlc = (f { own := s.mlc, bus := s.bus }).own := rfl
@[simp] theorem onMlc_bus : (s.onMlc f).bus = (f { own := s.mlc, bus := s.bus }).bus := rfl
@[simp] theorem onMlc_host : (s.onMlc f).host = s.host := rfl
@[simp] theorem onMlc_ptu : (s.onMlc f).ptu = s.ptu := rfl
@[simp] theorem onMlc_lcu : (s.onMlc f).lcu = s.lcu := rfl
@[simp] theorem onMlc_pbu : (s.onMlc f).pbu = s.pbu := rfl
@[simp] theorem onMlc_sls : (s.onMlc f).sls = s.sls := rfl
@[simp] theorem onMlc_clc : (s.onMlc f).clc = s.clc := rfl
@[simp] theorem onMlc_znu : (s.onMlc f).znu = s.znu := rfl
@[simp] theorem onMlc_mxw : (s.onMlc f).mxw = s.mxw := rfl
@[simp] theorem onMlc_atu : (s.onMlc f).atu = s.atu := rfl
@[simp] theorem onMlc_spw : (s.onMlc f).spw = s.spw := rfl
@[simp] theorem onMlc_tb : (s.onMlc f).tb = s.tb := rfl
@[simp] theorem onMlc_pins : (s.onMlc f).pins = s.pins := rfl
@[simp] theorem onMlc_pending : (s.onMlc f).pending = s.pending := rfl

end onMlc

section onTb

variable (s : State) (f : At Tb → At Tb)

@[simp] theorem onTb_tb : (s.onTb f).tb = (f { own := s.tb, bus := s.bus }).own := rfl
@[simp] theorem onTb_bus : (s.onTb f).bus = (f { own := s.tb, bus := s.bus }).bus := rfl
@[simp] theorem onTb_host : (s.onTb f).host = s.host := rfl
@[simp] theorem onTb_ptu : (s.onTb f).ptu = s.ptu := rfl
@[simp] theorem onTb_lcu : (s.onTb f).lcu = s.lcu := rfl
@[simp] theorem onTb_pbu : (s.onTb f).pbu = s.pbu := rfl
@[simp] theorem onTb_sls : (s.onTb f).sls = s.sls := rfl
@[simp] theorem onTb_clc : (s.onTb f).clc = s.clc := rfl
@[simp] theorem onTb_znu : (s.onTb f).znu = s.znu := rfl
@[simp] theorem onTb_mxw : (s.onTb f).mxw = s.mxw := rfl
@[simp] theorem onTb_atu : (s.onTb f).atu = s.atu := rfl
@[simp] theorem onTb_spw : (s.onTb f).spw = s.spw := rfl
@[simp] theorem onTb_mlc : (s.onTb f).mlc = s.mlc := rfl
@[simp] theorem onTb_pins : (s.onTb f).pins = s.pins := rfl
@[simp] theorem onTb_pending : (s.onTb f).pending = s.pending := rfl

end onTb

/-! ### The queues of the bus replaced -/

@[simp] theorem withBus_bus (s : State) (b : Bus) : (s.withBus b).bus = b := rfl
@[simp] theorem withBus_host (s : State) (b : Bus) : (s.withBus b).host = s.host := rfl
@[simp] theorem withBus_ptu (s : State) (b : Bus) : (s.withBus b).ptu = s.ptu := rfl
@[simp] theorem withBus_lcu (s : State) (b : Bus) : (s.withBus b).lcu = s.lcu := rfl
@[simp] theorem withBus_pbu (s : State) (b : Bus) : (s.withBus b).pbu = s.pbu := rfl
@[simp] theorem withBus_sls (s : State) (b : Bus) : (s.withBus b).sls = s.sls := rfl
@[simp] theorem withBus_clc (s : State) (b : Bus) : (s.withBus b).clc = s.clc := rfl
@[simp] theorem withBus_znu (s : State) (b : Bus) : (s.withBus b).znu = s.znu := rfl
@[simp] theorem withBus_mxw (s : State) (b : Bus) : (s.withBus b).mxw = s.mxw := rfl
@[simp] theorem withBus_atu (s : State) (b : Bus) : (s.withBus b).atu = s.atu := rfl
@[simp] theorem withBus_spw (s : State) (b : Bus) : (s.withBus b).spw = s.spw := rfl
@[simp] theorem withBus_mlc (s : State) (b : Bus) : (s.withBus b).mlc = s.mlc := rfl
@[simp] theorem withBus_tb (s : State) (b : Bus) : (s.withBus b).tb = s.tb := rfl
@[simp] theorem withBus_pins (s : State) (b : Bus) : (s.withBus b).pins = s.pins := rfl
@[simp] theorem withBus_pending (s : State) (b : Bus) : (s.withBus b).pending = s.pending := rfl

/-! ### A word taken into service -/

@[simp] theorem takeWord_ptu (s : State) (v : Server) : (s.takeWord v).ptu = s.ptu := by
  unfold State.takeWord; split <;> rfl
@[simp] theorem takeWord_lcu (s : State) (v : Server) : (s.takeWord v).lcu = s.lcu := by
  unfold State.takeWord; split <;> rfl
@[simp] theorem takeWord_pbu (s : State) (v : Server) : (s.takeWord v).pbu = s.pbu := by
  unfold State.takeWord; split <;> rfl
@[simp] theorem takeWord_sls (s : State) (v : Server) : (s.takeWord v).sls = s.sls := by
  unfold State.takeWord; split <;> rfl
@[simp] theorem takeWord_clc (s : State) (v : Server) : (s.takeWord v).clc = s.clc := by
  unfold State.takeWord; split <;> rfl
@[simp] theorem takeWord_znu (s : State) (v : Server) : (s.takeWord v).znu = s.znu := by
  unfold State.takeWord; split <;> rfl
@[simp] theorem takeWord_mxw (s : State) (v : Server) : (s.takeWord v).mxw = s.mxw := by
  unfold State.takeWord; split <;> rfl
@[simp] theorem takeWord_atu (s : State) (v : Server) : (s.takeWord v).atu = s.atu := by
  unfold State.takeWord; split <;> rfl
@[simp] theorem takeWord_spw (s : State) (v : Server) : (s.takeWord v).spw = s.spw := by
  unfold State.takeWord; split <;> rfl
@[simp] theorem takeWord_mlc (s : State) (v : Server) : (s.takeWord v).mlc = s.mlc := by
  unfold State.takeWord; split <;> rfl
@[simp] theorem takeWord_tb (s : State) (v : Server) : (s.takeWord v).tb = s.tb := by
  unfold State.takeWord; split <;> rfl
@[simp] theorem takeWord_pins (s : State) (v : Server) : (s.takeWord v).pins = s.pins := by
  unfold State.takeWord; split <;> rfl
@[simp] theorem takeWord_pending (s : State) (v : Server) : (s.takeWord v).pending = s.pending := by
  unfold State.takeWord; split <;> rfl

/-- The word taken is in service for its anchor, whose outstanding is IN_SERVICE, and nothing else changes. -/
theorem takeWord_of_queue {s : State} {v : Server} {a : Fin 16} {w : TaskWord} {rest : List (Fin 16 × TaskWord)}
    (h : (s.bus.station v).queue = (a, w) :: rest) :
    s.takeWord v = { s with
      bus := s.bus.setStation v
        { queue := rest, service := some { anchor := some a, word := w, input := [], output := [] } }
      host := { s.host with anchors := updAt s.host.anchors a (fun x => { x with outstanding := .inService }) } } := by
  unfold State.takeWord; rw [h]

/-- What it takes for a word to be the oldest of a block that is free. -/
theorem oldestWord_eq_some {s : State} {v : Server} {w : TaskWord} :
    s.oldestWord v = some w ↔
      (s.bus.station v).service = none ∧ ∃ a rest, (s.bus.station v).queue = (a, w) :: rest := by
  unfold State.oldestWord
  split
  · rename_i h1 h2; simp [h1, h2]
  · rename_i h1
    constructor
    · intro h; cases h
    · rintro ⟨h2, a, rest, h3⟩; exact absurd h3 (h1 a w rest h2)

/-! ### Stations -/

@[simp] theorem setStation_station_self (b : Bus) (v : Server) (x : Station) : (b.setStation v x).station v = x :=
  setAt_get_self _ _ _

theorem serverIndex_injective : Function.Injective serverIndex := by
  intro a b h; cases a <;> cases b <;> first | rfl | exact absurd h (by decide)

theorem setStation_station_ne (b : Bus) {v u : Server} (x : Station) (h : v ≠ u) :
    (b.setStation v x).station u = b.station u :=
  setAt_get_ne _ _ _ _ (fun e => h (serverIndex_injective e))

end Sys2Proof.Machine
end

