-- ==== Sys2Proof/Laws/Queues.lean ====
section
/-! SUPPORT. What the shared operations over queues, accesses and stations can do, said once each. -/

namespace Sys2Proof.Machine

open Sys2Proof

/-! ### The first entry of a queue -/

/-- Taking the first entry that q admits: it is there, no earlier one is admitted, and the others keep their order. -/
theorem takeFirst_eq_some {α : Type} {q : α → Bool} {l r : List α} {x : α} :
    takeFirst q l = some (x, r) ↔
      ∃ pre post, l = pre ++ x :: post ∧ (∀ y ∈ pre, q y = false) ∧ q x = true ∧ r = pre ++ post := by
  induction l generalizing r with
  | nil => simp [takeFirst]
  | cons a as ih =>
    by_cases h : q a = true
    · simp only [takeFirst, h, if_true, Option.some.injEq, Prod.mk.injEq]
      constructor
      · rintro ⟨rfl, rfl⟩; exact ⟨[], as, rfl, by simp, h, rfl⟩
      · rintro ⟨pre, post, e, hp, hx, hr⟩
        cases pre with
        | nil => cases e; exact ⟨rfl, hr.symm⟩
        | cons b bs => cases e; exact absurd (hp a (by simp)) (by simp [h])
    · have hf : q a = false := by simpa using h
      simp only [takeFirst, hf, Bool.false_eq_true, if_false]
      constructor
      · intro e
        split at e
        · cases e
        · rename_i y ys hy
          cases e
          obtain ⟨pre, post, e1, hp, hx, hr⟩ := ih.1 hy
          exact ⟨a :: pre, post, by simp [e1], by simpa [hf] using hp, hx, by simp [hr]⟩
      · rintro ⟨pre, post, e, hp, hx, hr⟩
        cases pre with
        | nil => cases e; exact absurd hx h
        | cons b bs =>
          cases e
          rw [ih.2 ⟨bs, post, rfl, fun y hy => hp y (by simp [hy]), hx, rfl⟩]
          simp [hr]

/-- Nothing is taken exactly when no entry is admitted. -/
theorem takeFirst_eq_none {α : Type} {q : α → Bool} {l : List α} :
    takeFirst q l = none ↔ ∀ y ∈ l, q y = false := by
  induction l with
  | nil => simp [takeFirst]
  | cons a as ih =>
    by_cases h : q a = true
    · simp [takeFirst, h]
    · have hf : q a = false := by simpa using h
      simp only [takeFirst, hf, Bool.false_eq_true, if_false, List.mem_cons, forall_eq_or_imp, true_and]
      rw [← ih]
      cases takeFirst q as <;> simp

/-! ### Host memory accesses -/

/-- The access taken is the oldest of its requester whose kind is admitted; the other accesses keep their order and nothing
else of the bus changes. -/
theorem takeAccess_eq_some {b c : Bus} {r : Requester} {q : AccessKind → Bool} {x : Access} :
    b.takeAccess r q = some (x, c) ↔
      ∃ pre post, b.accesses = pre ++ x :: post ∧ (∀ y ∈ pre, y.req = r → q y.kind = false) ∧
        x.req = r ∧ q x.kind = true ∧ c = { b with accesses := pre ++ post } := by
  unfold Bus.takeAccess
  constructor
  · intro h
    split at h
    · cases h
    · rename_i y rest hy
      cases h
      obtain ⟨pre, post, e, hp, hx, hr⟩ := takeFirst_eq_some.1 hy
      simp only [Bool.and_eq_true, beq_iff_eq] at hx
      refine ⟨pre, post, e, fun z hz hr' => ?_, hx.1, hx.2, by rw [hr]⟩
      have := hp z hz
      simpa [hr'] using this
  · rintro ⟨pre, post, e, hp, hx, hk, rfl⟩
    rw [takeFirst_eq_some.2 ⟨pre, post, e, fun z hz => ?_, by simp [hx, hk], rfl⟩]
    by_cases hz' : z.req = r
    · simp [hz', hp z hz hz']
    · simp [hz']

/-- An access is handed over at the tail. -/
theorem access_accesses (b : Bus) (x : Access) : (b.access x).accesses = b.accesses ++ [x] := rfl

/-- After a drop no access of the requester is left, and every other one is. -/
theorem mem_dropAccesses {b : Bus} {r : Requester} {x : Access} :
    x ∈ (b.dropAccesses r).accesses ↔ x ∈ b.accesses ∧ x.req ≠ r := by
  simp [Bus.dropAccesses]

/-! ### The end of a task -/

/-- Without a task in service nothing happens. -/
theorem endTaskAfter_of_free {b : Bus} {v : Server} (n : Option Nat) (cls : OutcomeClass) (d : Details)
    (h : b.service v = none) : b.endTaskAfter v n cls d = b := by
  simp [Bus.endTaskAfter, h]

/-- The task in service goes, its outcome is sent last, the anchor's accesses are dropped, and nothing else changes. -/
theorem endTaskAfter_of_service {b : Bus} {v : Server} {sv : Service} (n : Option Nat) (cls : OutcomeClass)
    (d : Details) (h : b.service v = some sv) :
    b.endTaskAfter v n cls d = { b.setStation v { b.station v with service := none } with
      outcomes := b.outcomes ++ [{ server := v, anchor := sv.anchor, cls := cls, details := d, taken := n }]
      accesses := match sv.anchor with
        | none => b.accesses
        | some a => b.accesses.filter (fun x => x.req != .anchor a) } := by
  simp only [Bus.endTaskAfter, h]
  cases sv.anchor <;> rfl

/-- The block is free after the end of its task. -/
theorem endTaskAfter_service (b : Bus) (v : Server) (n : Option Nat) (cls : OutcomeClass) (d : Details) :
    (b.endTaskAfter v n cls d).service v = none := by
  cases h : b.service v with
  | none => rw [endTaskAfter_of_free n cls d h, h]
  | some sv => rw [endTaskAfter_of_service n cls d h]; simp [Bus.service, Bus.station, Bus.setStation]

/-- The end of one block's task leaves the station of every other block. -/
theorem endTaskAfter_station_ne (b : Bus) {v u : Server} (n : Option Nat) (cls : OutcomeClass) (d : Details)
    (hne : v ≠ u) : (b.endTaskAfter v n cls d).station u = b.station u := by
  cases h : b.service v with
  | none => rw [endTaskAfter_of_free n cls d h]
  | some sv => rw [endTaskAfter_of_service n cls d h]; exact setStation_station_ne b _ hne

/-- Without a task in service nothing happens. -/
theorem endTask_of_free {b : Bus} {v : Server} (cls : OutcomeClass) (d : Details) (h : b.service v = none) :
    b.endTask v cls d = b := endTaskAfter_of_free none cls d h

/-- The task in service goes, its outcome is sent last, the anchor's accesses are dropped, and nothing else changes. -/
theorem endTask_of_service {b : Bus} {v : Server} {sv : Service} (cls : OutcomeClass) (d : Details)
    (h : b.service v = some sv) :
    b.endTask v cls d = { b.setStation v { b.station v with service := none } with
      outcomes := b.outcomes ++ [{ server := v, anchor := sv.anchor, cls := cls, details := d }]
      accesses := match sv.anchor with
        | none => b.accesses
        | some a => b.accesses.filter (fun x => x.req != .anchor a) } := endTaskAfter_of_service none cls d h

/-- The block is free after the end of its task. -/
theorem endTask_service (b : Bus) (v : Server) (cls : OutcomeClass) (d : Details) :
    (b.endTask v cls d).service v = none := endTaskAfter_service b v none cls d

/-- The end of one block's task leaves the station of every other block. -/
theorem endTask_station_ne (b : Bus) {v u : Server} (cls : OutcomeClass) (d : Details) (hne : v ≠ u) :
    (b.endTask v cls d).station u = b.station u := endTaskAfter_station_ne b none cls d hne

/-! ### Marks -/

/-- A conditional mark is sent at the tail or not at all. -/
theorem markIf_eq (b : Bus) (x : Bool) (r : PageRecord) :
    b.markIf x r = { b with toSpw := b.toSpw ++ (if x then [r] else []) } := by
  cases x <;> simp [Bus.markIf, Bus.mark]

/-- A mark that the last one makes already is not repeated. -/
theorem markOnce_eq (b : Bus) (r : PageRecord) :
    b.markOnce r = { b with toSpw := b.toSpw ++ (if b.toSpw.getLast? = some r then [] else [r]) } := by
  unfold Bus.markOnce Bus.mark
  split <;> simp

/-! ### Counts by tier -/

theorem counts_get_set (c : Counts) (t u : Tier) (n : Nat) : (c.set t n).get u = if t = u then n else c.get u := by
  cases t <;> cases u <;> rfl

theorem counts_ext {c d : Counts} (h : ∀ t, c.get t = d.get t) : c = d := by
  cases c; cases d
  have h1 := h .t1; have h2 := h .t2; have h3 := h .t3
  simp only [Counts.get] at h1 h2 h3
  simp [h1, h2, h3]

/-! ### A clamped figure -/

theorem clampNat_range (x : Nat) {lo hi : Nat} (h : lo ≤ hi) : lo ≤ clampNat x lo hi ∧ clampNat x lo hi ≤ hi := by
  unfold clampNat; split
  · omega
  · split <;> omega

theorem clampNat_of_range {x lo hi : Nat} (h1 : lo ≤ x) (h2 : x ≤ hi) : clampNat x lo hi = x := by
  unfold clampNat; rw [if_neg (by omega), if_neg (by omega)]

theorem clampInt_range (x : Int) {lo hi : Int} (h : lo ≤ hi) : lo ≤ clampInt x lo hi ∧ clampInt x lo hi ≤ hi := by
  unfold clampInt; split
  · omega
  · split <;> omega

theorem clampInt_of_range {x lo hi : Int} (h1 : lo ≤ x) (h2 : x ≤ hi) : clampInt x lo hi = x := by
  unfold clampInt; rw [if_neg (by omega), if_neg (by omega)]

/-! ### The geometry of ports -/

theorem slotOf_portOf (i : Slot) (k : Fin 32) : slotOf (portOf i k) = i := by
  apply Fin.ext; simp only [slotOf, portOf]; omega

/-- The ports of a slot are exactly those that sit on it. -/
theorem mem_portsOf {i : Slot} {p : Port} : p ∈ portsOf i ↔ slotOf p = i := by
  simp only [portsOf, List.mem_map, mem_indices, true_and]
  constructor
  · rintro ⟨k, rfl⟩; exact slotOf_portOf i k
  · rintro rfl
    exact ⟨⟨p.val % 32, by omega⟩, Fin.ext (by simp only [portOf, slotOf]; omega)⟩

end Sys2Proof.Machine
end

