-- ==== Sys2Proof/Laws/Blocks.lean ====
section
/-! SUPPORT. What the shared operations of the blocks can do, said once each: the writes of a record, the seat rule, the
figures and the judgement of the power budget, the store queue, row messages and the places of the alarm table. -/

namespace Sys2Proof.Machine

open Sys2Proof

/-! ### Anchor contexts -/

@[simp] theorem setCtx_anchors (a : Fin 16) (x : AnchorCtx) (c : At HostSide) :
    (setCtx a x c).own.anchors = setAt c.own.anchors a x := rfl
@[simp] theorem setCtx_hli (a : Fin 16) (x : AnchorCtx) (c : At HostSide) : (setCtx a x c).own.hli = c.own.hli := rfl
@[simp] theorem setCtx_bus (a : Fin 16) (x : AnchorCtx) (c : At HostSide) : (setCtx a x c).bus = c.bus := rfl

/-- Judging the interrupt again changes the interrupt alone (R175). -/
theorem judgeInterrupt_eq (h : HostSide) :
    judgeInterrupt h = { h with hli := { h.hli with interrupt := interruptDue h } } := rfl

/-! ### The port table (R1, R34 to R36) -/

/-- A write of the record that stands changes nothing. -/
theorem ptuWrite_same {p : Port} {r : PortRec} {c : At Ptu} (h : c.own.ports[p] = r) : ptuWrite p r c = c := by
  simp [ptuWrite, h]

/-- A write of another record: the record, the held counts and the wait list follow, and nothing else of the PTU. -/
theorem ptuWrite_own {p : Port} {r : PortRec} {c : At Ptu} (h : c.own.ports[p] ≠ r) :
    (ptuWrite p r c).own = { c.own with
      ports := setAt c.own.ports p r
      held := countSeat c.own.ports[p].seat r.seat c.own.held
      waitList := waitAfter p c.own.ports[p].state r.state c.own.waitList } := by
  simp only [ptuWrite]; rw [if_neg h]

/-- Whatever the record, the port holds it after the write. -/
@[simp] theorem ptuWrite_ports (p : Port) (r : PortRec) (c : At Ptu) :
    (ptuWrite p r c).own.ports = setAt c.own.ports p r := by
  by_cases h : c.own.ports[p] = r
  · rw [ptuWrite_same h, ← h, setAt_self]
  · rw [ptuWrite_own h]

@[simp] theorem ptuWrite_granted (p : Port) (r : PortRec) (c : At Ptu) :
    (ptuWrite p r c).own.granted = c.own.granted := by
  by_cases h : c.own.ports[p] = r
  · rw [ptuWrite_same h]
  · rw [ptuWrite_own h]
@[simp] theorem ptuWrite_view (p : Port) (r : PortRec) (c : At Ptu) :
    (ptuWrite p r c).own.view = c.own.view := by
  by_cases h : c.own.ports[p] = r
  · rw [ptuWrite_same h]
  · rw [ptuWrite_own h]
@[simp] theorem ptuWrite_claim (p : Port) (r : PortRec) (c : At Ptu) :
    (ptuWrite p r c).own.claim = c.own.claim := by
  by_cases h : c.own.ports[p] = r
  · rw [ptuWrite_same h]
  · rw [ptuWrite_own h]
@[simp] theorem ptuWrite_heldInputs (p : Port) (r : PortRec) (c : At Ptu) :
    (ptuWrite p r c).own.heldInputs = c.own.heldInputs := by
  by_cases h : c.own.ports[p] = r
  · rw [ptuWrite_same h]
  · rw [ptuWrite_own h]

/-- No port but the one written changes. -/
theorem ptuWrite_port_ne {p q : Port} (r : PortRec) (c : At Ptu) (h : p ≠ q) :
    (ptuWrite p r c).own.ports[q] = c.own.ports[q] := by
  rw [ptuWrite_ports, setAt_get_ne _ _ _ _ h]

/-- The bus of a write: the port's mark, its recompute addition when it enters or leaves IN_SERVICE, the licence summary
when a figure of it changed, and the alarm of the wait list; no other channel. -/
theorem ptuWrite_bus (p : Port) (r : PortRec) (c : At Ptu) :
    (ptuWrite p r c).bus = { c.bus with
      toSpw := (ptuWrite p r c).bus.toSpw
      ptuMxw := (ptuWrite p r c).bus.ptuMxw
      toAtu := (ptuWrite p r c).bus.toAtu } := by
  by_cases h : c.own.ports[p] = r
  · rw [ptuWrite_same h]
  · simp only [ptuWrite, h, if_false, unseatedAlarm, Bus.markIf, Bus.mark, Bus.sendPtuMxw, Bus.raise, Bus.clearAlarm]
    split_ifs <;> rfl

/-- The recompute addition of a write: exactly when the port enters or leaves IN_SERVICE. -/
theorem ptuWrite_ptuMxw (p : Port) (r : PortRec) (c : At Ptu) :
    (ptuWrite p r c).bus.ptuMxw = c.bus.ptuMxw ++
      (if (c.own.ports[p].state = .inService) ≠ (r.state = .inService) then [p] else []) := by
  by_cases h : c.own.ports[p] = r
  · rw [ptuWrite_same h]; simp [h]
  · simp only [ptuWrite, h, if_false, unseatedAlarm, Bus.markIf, Bus.mark, Bus.sendPtuMxw, Bus.raise, Bus.clearAlarm]
    split_ifs <;> simp_all

/-- After a write the port waits exactly when its record is UNSEATED, if that was so before (R36). -/
theorem mem_waitAfter {p : Port} {old new : PortState} {w : List Port} (h : p ∈ w ↔ old = .unseated) :
    p ∈ waitAfter p old new w ↔ new = .unseated := by
  unfold waitAfter
  split_ifs with h1 h2
  · simp [h1.2]
  · simp [h2.2]
  · rw [h]; rw [not_and_or, not_not] at h1 h2
    constructor
    · intro e; by_contra hn; rcases h2 with h2 | h2 <;> contradiction
    · intro e; by_contra hn; rcases h1 with h1 | h1 <;> contradiction

/-- Another port waits after a write exactly when it waited before. -/
theorem mem_waitAfter_ne {p q : Port} {old new : PortState} {w : List Port} (h : q ≠ p) :
    q ∈ waitAfter p old new w ↔ q ∈ w := by
  unfold waitAfter
  split_ifs <;> simp [h]

/-- The first tier of which f holds is the lowest one. -/
theorem find_tier {f : Tier → Bool} {k : Tier} :
    tiers.find? f = some k ↔ f k = true ∧ ∀ j, tierNum j < tierNum k → f j = false := by
  simp only [tiers, List.find?]
  have all : (∀ j, tierNum j < tierNum k → f j = false) ↔
      (1 < tierNum k → f .t1 = false) ∧ (2 < tierNum k → f .t2 = false) ∧ (3 < tierNum k → f .t3 = false) :=
    ⟨fun h => ⟨h .t1, h .t2, h .t3⟩, fun h j => by cases j; exacts [h.1, h.2.1, h.2.2]⟩
  rw [all]
  cases h1 : f .t1 <;> cases h2 : f .t2 <;> cases h3 : f .t3 <;> cases k <;> simp [h1, h2, h3, tierNum]

/-- R35: the seat found is the lowest tier not below r with room and not the excluded one. -/
theorem seatRule_eq_some {held granted : Counts} {r k : Tier} {ex : Option Tier} :
    seatRule held granted r ex = some k ↔
      (tierNum r ≤ tierNum k ∧ held.get k < granted.get k ∧ some k ≠ ex) ∧
      ∀ j, tierNum j < tierNum k → ¬ (tierNum r ≤ tierNum j ∧ held.get j < granted.get j ∧ some j ≠ ex) := by
  simp only [seatRule, find_tier, Bool.and_eq_true, decide_eq_true_eq, and_assoc]
  refine and_congr_right fun _ => and_congr_right fun _ => and_congr_right fun _ =>
    forall_congr' fun j => imp_congr_right fun _ => ?_
  rw [← Bool.not_eq_true]
  simp only [Bool.and_eq_true, decide_eq_true_eq, and_assoc]

/-- No seat is found exactly when no tier not below r has room, the excluded one apart. -/
theorem seatRule_eq_none {held granted : Counts} {r : Tier} {ex : Option Tier} :
    seatRule held granted r ex = none ↔
      ∀ j, ¬ (tierNum r ≤ tierNum j ∧ held.get j < granted.get j ∧ some j ≠ ex) := by
  simp only [seatRule, List.find?_eq_none, Bool.and_eq_true, decide_eq_true_eq, and_assoc]
  exact ⟨fun h j => h j (by cases j <;> simp [tiers]), fun h j _ => h j⟩

/-! ### The power budget (R48, R51 to R54, R57, R58) -/

/-- The figures computed again: U, D and the condition of R48 by their rules, and nothing else of the PBU. -/
@[simp] theorem pbuFigures_own (c : At Pbu) : (pbuFigures c).own = { c.own with
    usable := usableOf c.own.policy.mode c.own.modules, demand := c.own.demandNow
    redundancyLost := redundancyLostOf c.own.policy.mode c.own.modules } := rfl

@[simp] theorem setBudget_own (x : BudgetState) (g i : Timer) (c : At Pbu) : (setBudget x g i c).own = { c.own with
    budget := x, graceTimer := g, intervalTimer := i } := rfl

@[simp] theorem setSlot_own (i : Slot) (e : SlotEntry) (c : At Pbu) :
    (setSlot i e c).own = { c.own with slots := setAt c.own.slots i e } := rfl
@[simp] theorem setSlot_bus (i : Slot) (e : SlotEntry) (c : At Pbu) : (setSlot i e c).bus = c.bus := rfl

/-- In the start-up hold the machine takes no H (R56). -/
theorem takeHeadroom_of_hold {c : At Pbu} (h : c.own.hold = true) : takeHeadroom c = c := by
  simp [takeHeadroom, h]

/-- With H at 0 or above and the hold over, the machine is WITHIN with both timers stopped, or was WITHIN and stays as it
is (R57, R58). -/
theorem takeHeadroom_of_enough {c : At Pbu} (h : c.own.hold = false) (hh : 0 ≤ c.own.headroom) :
    takeHeadroom c = if c.own.budget = .within then c else backWithin c := by
  cases hb : c.own.budget <;> simp [takeHeadroom, h, hb, hh]

/-- Out of WITHIN, an H below 0 changes nothing: the timers go on (R58). -/
theorem takeHeadroom_of_short {c : At Pbu} (hh : c.own.headroom < 0) (hb : c.own.budget ≠ .within) :
    takeHeadroom c = c := by
  have hn : ¬ 0 ≤ c.own.headroom := by omega
  cases h : c.own.hold <;> cases hc : c.own.budget <;> simp_all [takeHeadroom]

/-- A claim that is not admitted changes nothing and is REFUSED (R52). -/
theorem judgeClaim_refused {i : Slot} {need : Int} {e : SlotEntry} {g : Grant} {c : At Pbu}
    (h1 : 0 < need) (h2 : c.own.headroom < need) :
    judgeClaim i need e g c = (c, { grant := .refused, amount := 0 }) := by
  have : admits need c.own.headroom = false := by simp [admits]; omega
  simp [judgeClaim, this]

/-- An admitted claim gives its entry and the figures and H that follow (R52). -/
theorem judgeClaim_granted {i : Slot} {need : Int} {e : SlotEntry} {g : Grant} {c : At Pbu}
    (h : need ≤ 0 ∨ need ≤ c.own.headroom) :
    judgeClaim i need e g c = (recompute (setSlot i e c),
      { grant := g, amount := ((setSlot i e c).own.demandNow : Int) - (c.own.demandNow : Int) }) := by
  have : admits need c.own.headroom = true := by simpa [admits] using h
  simp [judgeClaim, this]

/-! ### The store queue (R24) -/

/-- A merged request: the entry of its cell stands in its place and keeps its content, or one is added at the tail; the
cells of the queue stay without repetition. -/
theorem storeMerge_cells (e : StoreEntry) (q : List StoreEntry) :
    (storeMerge e q).map (·.cell) = q.map (·.cell) ++ (if e.cell ∈ q.map (·.cell) then [] else [e.cell]) := by
  unfold storeMerge
  by_cases h : q.any (fun x => decide (x.cell = e.cell)) = true
  · rw [if_pos h]
    have hm : e.cell ∈ q.map (·.cell) := by
      simp only [List.any_eq_true, decide_eq_true_eq] at h
      obtain ⟨x, hx, he⟩ := h
      exact List.mem_map.2 ⟨x, hx, he⟩
    rw [if_pos hm, List.append_nil, List.map_map]
    apply List.map_congr_left
    intro x _
    by_cases hx : x.cell = e.cell <;> simp [hx]
  · rw [if_neg h]
    have hm : e.cell ∉ q.map (·.cell) := by
      simp only [List.any_eq_true, decide_eq_true_eq, not_exists, not_and] at h
      intro hm
      obtain ⟨x, hx, he⟩ := List.mem_map.1 hm
      exact h x hx he
    rw [if_neg hm, List.map_append]; rfl

theorem storeMerge_nodup {e : StoreEntry} {q : List StoreEntry} (h : (q.map (·.cell)).Nodup) :
    ((storeMerge e q).map (·.cell)).Nodup := by
  rw [storeMerge_cells]
  split_ifs with hm
  · simpa using h
  · exact List.nodup_append.2 ⟨h, by simp, by
      intro a ha b hb e'; simp only [List.mem_singleton] at hb; exact hm (hb ▸ e' ▸ ha)⟩

/-- The request that is handed to a store at rest is the oldest; else it waits. -/
theorem storeServe_eq (l : Lcu) : storeServe l = match l.lst.busy, l.storeQueue with
    | none, e :: rest => { l with storeQueue := rest, lst := { l.lst with busy := some e } }
    | _, _ => l := rfl

/-! ### Slots, cooling, zones, the matrix and the alarm table: writes of one record -/

@[simp] theorem writeSlot_own (i : Slot) (r : SlotRec) (c : At Sls) :
    (writeSlot i r c).own = { c.own with slots := setAt c.own.slots i r } := rfl

@[simp] theorem writeSensor_own (n : Fin 8) (r : SensorRec) (c : At Clc) :
    (writeSensor n r c).own = { c.own with sensors := setAt c.own.sensors n r } := rfl

@[simp] theorem writeZone_own (z : Fin 3) (r : ZoneRec) (c : At Clc) :
    (writeZone z r c).own = { c.own with zones := setAt c.own.zones z r } := rfl

/-- The width latch follows the duty (R91). -/
@[simp] theorem writeTray_own (t : Fin 6) (r : TrayRec) (c : At Clc) :
    (writeTray t r c).own = { c.own with trays := setAt c.own.trays t { r with pwmLatch := 10 * r.duty } } := rfl

/-- A tray's wait for its next try and its tag are no fields of R81 (log entry 28). -/
@[simp] theorem TrayRec.listed_retryTimer (r : TrayRec) (x : Timer) : { r with retryTimer := x }.listed = r.listed := rfl
@[simp] theorem TrayRec.listed_epoch (r : TrayRec) (n : Nat) : { r with epoch := n }.listed = r.listed := rfl

/-- A write of a tray that leaves the fields of R81 as they were marks nothing. -/
theorem writeTray_unmarked {t : Fin 6} {r : TrayRec} {c : At Clc} (h : r.listed = c.own.trays[t].listed) :
    (writeTray t r c).bus = c.bus := by
  have e : { r with pwmLatch := 10 * r.duty }.listed = r.listed := rfl
  simp [writeTray, e, h, Bus.markIf]

@[simp] theorem ModuleRec.listed_epoch (r : ModuleRec) (n : Nat) : { r with epoch := n }.listed = r.listed := rfl

@[simp] theorem writeRotor_own (k : Fin 12) (r : RotorRec) (c : At Clc) :
    (writeRotor k r c).own = { c.own with rotors := setAt c.own.rotors k r } := rfl

@[simp] theorem znuWrite_own (z : Znu) (c : At Znu) : (znuWrite z c).own = z := rfl

/-- A write of the ZNU sends a mark or nothing. -/
theorem znuWrite_bus (z : Znu) (c : At Znu) : (znuWrite z c).bus = { c.bus with toSpw := (znuWrite z c).bus.toSpw } := by
  simp only [znuWrite, markIf_eq]

@[simp] theorem znuEnd_own (cls : OutcomeClass) (d : Details) (c : At Znu) :
    (znuEnd cls d c).own = { c.own with task := .idle } := rfl

@[simp] theorem mxwWrite_own (m : Mxw) (c : At Mxw) : (mxwWrite m c).own = m := rfl

/-- A write of the MXW sends a mark or nothing. -/
theorem mxwWrite_bus (m : Mxw) (c : At Mxw) : (mxwWrite m c).bus = { c.bus with toSpw := (mxwWrite m c).bus.toSpw } := by
  simp only [mxwWrite, markOnce_eq]
  split <;> rfl

@[simp] theorem setPlace_own (i : Fin 64) (x : Option AlarmRec) (c : At Atu) :
    (setPlace i x c).own = { c.own with table := setAt c.own.table i x } := rfl

/-- A place found holds a record of which q holds, and no lower place does. -/
theorem findPlace_some {t : AlarmTable} {q : AlarmRec → Bool} {i : Fin 64} (h : findPlace t q = some i) :
    ∃ r, t[i] = some r ∧ q r = true := by
  have := List.find?_some h
  unfold placeHas at this
  split at this
  · cases this
  · rename_i r hr; exact ⟨r, hr, this⟩

theorem findPlace_none {t : AlarmTable} {q : AlarmRec → Bool} (h : findPlace t q = none) (i : Fin 64) (r : AlarmRec)
    (hr : t[i] = some r) : q r = false := by
  have := List.find?_eq_none.1 h i (mem_indices i)
  simpa [placeHas, hr] using this

/-! ### Rows and messages (R121, R124) -/

/-- A message sent takes the next number, is outstanding unrepeated and runs the acknowledgement timer. -/
@[simp] theorem sendMsg_outstanding (x : FabricMsg) (m : Mxw) :
    (sendMsg x m).outstanding = some { msg := x, number := m.number, retry := false } := rfl
@[simp] theorem sendMsg_number (x : FabricMsg) (m : Mxw) : (sendMsg x m).number = m.number + 1 := rfl
@[simp] theorem sendMsg_ackTimer (x : FabricMsg) (m : Mxw) : (sendMsg x m).ackTimer = .running 1 := rfl

/-- A row needs no message exactly when its shadow holds it. -/
theorem rowMsg_eq_none {m : Mxw} {b : Fin 2} {p : Port} {mask : PortMask} :
    rowMsg m b p mask = none ↔ shadowRow m b p = some mask := by
  unfold rowMsg; split <;> simp_all

theorem rowMsg_eq_some {m : Mxw} {b : Fin 2} {p : Port} {mask : PortMask} {x : FabricMsg} :
    rowMsg m b p mask = some x ↔ shadowRow m b p ≠ some mask ∧ x = .rowWrite b p mask := by
  unfold rowMsg; split <;> simp_all [eq_comm]

/-- The row of a port out of service is empty (R121). -/
theorem effectiveRow_out {x : ZoneSet} {up : PortMask} {p : Port} (h : up.getLsbD p.val = false) :
    effectiveRow x up p = 0 := by
  unfold effectiveRow; rw [h]; rfl

/-- The row of a port in service is its reach among the ports in service (R121). -/
theorem effectiveRow_in {x : ZoneSet} {up : PortMask} {p : Port} (h : up.getLsbD p.val = true) :
    effectiveRow x up p = reach x p &&& up := by
  unfold effectiveRow; rw [h]; rfl

end Sys2Proof.Machine
end

