-- ==== Sys2Proof/WellFormed.lean ====
section
/-! DEFINITION. The checks on a command's operands that its type does not make. -/

namespace Sys2Proof

/-- Bits 7:0 of a write to ACTION (11.1). -/
def actionByte (w : Word) : Nat := w.toNat % 256

/-- A write to ACTION is the command of code n, unless it carries the code of one of the other four (R163). -/
def actionFits (n : Nat) (w : Word) : Bool :=
  actionByte w == n || actionByte w == 0 || decide (5 < actionByte w)

/-- How many objects a kind has (R137). -/
def objectCount : AlarmKind → Nat
  | .fanStalled | .fanSlow => 12
  | .fanTrayAbsent => 6
  | .sensorFailed => 8
  | .tempHigh | .tempCritical => 3
  | .moduleInputLost | .moduleFault | .moduleUnknown => 4
  | .redundancyLost | .overBudget => 1
  | .slotShed | .slotPowerFault | .slotThermalOff | .slotPowerDenied => 8
  | .licenceLapsed | .licenceStoreDamaged => 32
  | .portsUnseated | .fabricLinkLost | .alarmTableFull => 1

/-- A host data read moves 1 to 4096 bytes: an area within one page (R166, R172). -/
def dataLengthFits (n : Nat) : Bool := decide (1 ≤ n) && decide (n ≤ 4096)

/-- The command's operands are ones that its event can have. -/
def Instr.wellFormed : Instr → Bool
  | .start w => actionFits 1 w
  | .resume w => actionFits 2 w
  | .halt w => actionFits 3 w
  | .accept w => actionFits 4 w
  | .pageSeen w => actionFits 5 w
  | .dataReadDone _ bytes => dataLengthFits bytes.length
  | .acknowledgement frame => !frame.isEmpty
  | .answerFrame bytes => !bytes.isEmpty
  | .raise k o | .clear k o => decide (o < objectCount k)
  | .recoveryIdle n => decide (1 ≤ n)
  | .powerOnReset | .managementReset | .linkReset | .areaBaseLowWrite _ | .areaBaseHighWrite _
  | .interruptMaskWrite _ | .readOnlyRegisterWrite _ _ | .anchorReadDone _ _ | .wordFetchDone _ _ | .taskOutcome _
  | .recordWriteDone _ | .pieceFetchDone _ _ | .dataWriteDone _ | .hostAccessFailed _ | .hostAccessTimeout _
  | .portEnable | .portDisable | .claimAnswer | .slotOnlineReport | .slotLeftOnlineReport | .identificationSweep
  | .zoneCount | .grantReport | .withdrawal | .licenceCellReadDone | .licenceInstall | .licenceRemove
  | .licenceFreeze | .licenceReport | .storeWriteDone _ | .hourTick | .withdrawalAnswer | .bayPresenceGained
  | .bayPresenceLost | .moduleInventoryAnswer | .moduleRetryTimer _ | .moduleLineChange _ _ _ | .telemetryAnswer
  | .powerPolicy | .portClaim | .tierClaim | .wakeClaimJudged | .slotClaim | .portRelease | .tierReturn
  | .standbyStepDown | .slotRelease | .dutyReport | .priorityUpdate | .startupHoldRelease | .graceTimerExpiry
  | .intervalTimerExpiry | .shedAnswer | .slotPresenceGained | .slotPresenceLost | .slotInventoryAnswer
  | .slotRetryTimer _ | .sweepDone | .slotClaimAnswer | .railGoodRise _ _ | .railTimerExpiry _
  | .settleTimerExpiry _ | .railGoodFall _ _ | .useNoticeTaken | .idleTimeUpdate | .idleTimerExpiry _
  | .wakeRequest | .slotPowerOn | .slotPowerOff | .slotConfig | .shedOrder | .thermalOffOrder | .hotFlagReport
  | .cycleTick | .sensorAnswer | .thermalProfile | .tachEdge _ | .stallTimerExpiry _ | .spinupTimerExpiry _
  | .holdTimerExpiry _ | .trayPresenceLost | .trayPresenceGained | .trayInventoryAnswer | .trayRetryTimer _
  | .zoneStage | .zoneStageRecord | .zoneDrop | .zoneCommitVerify | .zoneCommitApply | .switchSent | .committed
  | .failed | .abandoned | .stagedCopy | .zoneRead | .zoneFindLoad | .zoneFind | .ackTimerExpiry
  | .probeTimerExpiry | .recomputeAddition | .buildRequest | .activeSetReplaced | .alarmAcknowledge | .dirtyMark _
  | .batchBegin | .batchTimerExpiry | .pageWriteDone | .pageWriteFailed | .mlcRequest _ | .transactionBegin
  | .requestSent | .answerTimerExpiry | .lineActivity | .presenceLineChange _ _ | .pendingTimerExpiry _
  | .startUpReport _ | .powerLoss => true

end Sys2Proof
end

