-- ==== Sys2Proof/Tests/Slice0.lean ====
section
/-! SUPPORT. The model's own tests: operands that the checks refuse, figures that the book works out, one-step tests of
commands, and for each statement with hypotheses a state that meets them all. -/

namespace Sys2Proof.Tests

set_option Elab.async false

open Sys2Proof Sys2Proof.Machine

/-! ### Small states -/

/-- The state that an outcome leads to. -/
def after (o : Host.Outcome State Fault Refusal) (s : State) : State :=
  match o with
  | .next t => t
  | _ => s

/-- A task word. -/
def word (code flags count param : Nat) (addr : Nat := 0) : TaskWord :=
  { code := BitVec.ofNat 8 code, flags := BitVec.ofNat 8 flags, count := BitVec.ofNat 16 count
    param := BitVec.ofNat 32 param, addr := BitVec.ofNat 64 addr }

/-- Anchor 3's word waits alone at a block. -/
def waiting (v : Server) (w : TaskWord) (s : State) : State :=
  { s with bus := s.bus.setStation v { queue := [(3, w)], service := none } }

/-- Anchor 3's word is in service at a block, with these input bytes. -/
def serving (v : Server) (w : TaskWord) (input : List Byte) (s : State) : State :=
  let x : Station := { queue := [], service := some { anchor := some 3, word := w, input := input, output := [] } }
  { s with bus := s.bus.setStation v x }


/-- A zone with a plain label. -/
def zoneOf (id : Nat) (members : List Port) : Zone :=
  { id := id, label := Vector.replicate 16 (BitVec.ofNat 8 id), members := members }
/-! ### The machine -/

/-- Three commands wait. -/
def threeWait : State := { State.reset with pending := [.cycleTick, .batchBegin, .hourTick] }

/-- The hypotheses of StepRunsTheFrontCommand. -/
theorem witness_step : threeWait.pending = .cycleTick :: [.batchBegin, .hourTick] ∧ State.reset.pending = [] := by decide +kernel

theorem test_step_takes_the_front :
    (after (step threeWait) State.reset).pending = [.batchBegin, .hourTick] ∧
      (after (step threeWait) State.reset).tb.seconds = 1 := by decide +kernel

/-! The checks on operands refuse what no event can carry. -/

theorem test_start_of_another_action_is_refused : Instr.wellFormed (.start 0x302) = false := by decide
theorem test_resume_of_another_action_is_refused : Instr.wellFormed (.resume 1) = false := by decide
theorem test_halt_of_another_action_is_refused : Instr.wellFormed (.halt 4) = false := by decide
theorem test_accept_of_another_action_is_refused : Instr.wellFormed (.accept 0x105) = false := by decide
theorem test_page_seen_of_another_action_is_refused : Instr.wellFormed (.pageSeen 3) = false := by decide
theorem test_bad_action_code_is_a_command : Instr.wellFormed (.start 0x77) = true := by decide
theorem test_data_read_of_no_byte_is_refused : Instr.wellFormed (.dataReadDone 0 []) = false := by decide
theorem test_data_read_above_a_page_is_refused :
    Instr.wellFormed (.dataReadDone 0 (List.replicate 4097 0)) = false := by decide +kernel
theorem test_empty_acknowledgement_is_refused : Instr.wellFormed (.acknowledgement []) = false := by decide
theorem test_empty_answer_frame_is_refused : Instr.wellFormed (.answerFrame []) = false := by decide
theorem test_raise_of_no_object_is_refused : Instr.wellFormed (.raise .fanTrayAbsent 6) = false := by decide
theorem test_clear_of_no_object_is_refused : Instr.wellFormed (.clear .redundancyLost 1) = false := by decide
theorem test_no_idle_bit_is_refused : Instr.wellFormed (.recoveryIdle 0) = false := by decide

/-- No row of the table has bits, so no word spells a command (log entry 3). -/
theorem test_no_word_spells_a_command :
    decodeTableWord 32 1 = none ∧ State.reset.withFetchWord 32 1 = State.reset := ⟨rfl, rfl⟩


/-! ### Host Link Interface and Anchor Engine -/

/-- A write to ACTION. -/
def actionWrite (code number : Nat) : Word := BitVec.ofNat 32 (code + 256 * number)

/-- The part READY at base 40000h, anchor 2's context given. -/
def hostAt (x : AnchorCtx) (b : Bus := State.reset.bus) : State :=
  { State.reset with
    host := {
      hli := { State.reset.host.hli with ready := true, areaLow := 0x40000, base := 0x40000, mask := 0x1FFFF }
      anchors := setAt State.reset.host.anchors 2 x }
    tb := { State.reset.tb with seconds := 77 }
    bus := b }

def idleCtx : AnchorCtx := State.reset.host.anchors[0]

/-- The options of section 10.9. -/
def bookOptions : Options := { interruptOnClose := true, suspendAllowed := true, quietSuspend := false }

/-- Section 10.9: word C + 16, a LICENCE REPORT with SUSPEND and LIST. -/
def reportWord : TaskWord := word 0x23 6 144 0 0x9000

def enableWord : TaskWord := word 0x10 1 0 5

/-- A context at a word. -/
def ctxAt (st : AnchorState) (inFlight : InFlight) (w : Option TaskWord) : AnchorCtx :=
  { idleCtx with
    state := st, options := bookOptions, outstanding := inFlight, completed := 1
    word := some { addr := 0x8010, content := w } }

def accessOf (k : AccessKind) (addr : Addr) (len : Nat) : Access :=
  { req := .anchor 2, kind := k, addr := addr, len := len, data := [] }

/-- An access of anchor 2 in flight behind one of the SPW. -/
def inFlight (x : Access) : Bus :=
  { State.reset.bus with accesses := [{ req := .spw, kind := .page, addr := 0x40400, len := 4, data := [] }, x] }

theorem witness_register_writes :
    (∀ a : Fin 16, (hostAt idleCtx).host.anchors[a].state = .idle) ∧
      ¬ (∀ a : Fin 16, (hostAt (ctxAt .active .fetch none)).host.anchors[a].state = .idle) ∧
      State.reset.host.hli.ready = false ∧ (hostAt idleCtx).host.hli.ready = true ∧
      (actionWrite 6 0).toNat % 256 = 6 ∧ (actionWrite 4 16).toNat / 256 % 256 = 16 ∧
      (actionWrite 5 200).toNat % 256 = 5 ∧ (actionWrite 4 2).toNat / 256 % 256 = (2 : Fin 16).val ∧
      ({ ctxAt .statusPending .none none with notice := .closing } : AnchorCtx).notice ≠ .none := by decide +kernel

/-- StartResumeAndHaltActByTheState: one state for each clause. -/
theorem witness_actions_on_anchors :
    (hostAt idleCtx).host.anchors[(2 : Fin 16)].state = .idle ∧ (hostAt idleCtx).host.hli.base ≠ 0 ∧
      (hostAt (ctxAt .suspended .none (some reportWord))).host.anchors[(2 : Fin 16)].word =
        some { addr := 0x8010, content := some reportWord } ∧
      (hostAt (ctxAt .active .queued (some reportWord))).host.anchors[(2 : Fin 16)].move = none ∧
      (hostAt (ctxAt .active .inService (some reportWord))).bus.servingOf 2 ≠ some .znu := by decide +kernel

/-- Anchor 2's PORT ENABLE word waits behind a claim of the PTU, and a report of the SLS behind it. -/
def heldWord : State :=
  let s := hostAt (ctxAt .active .queued (some enableWord))
  { s with
    bus := s.bus.setStation .ptu { queue := [(2, enableWord)], service := none }
    ptu := { s.ptu with claim := some (.wake 1), heldInputs := [.task, .sls (.report 3 .off .hostOff)] } }

theorem witness_halted_held_word :
    heldWord.host.hli.ready = true ∧ heldWord.host.anchors[(2 : Fin 16)].outstanding = .queued ∧
      heldWord.host.anchors[(2 : Fin 16)].word = some { addr := 0x8010, content := some enableWord } ∧
      (heldWord.bus.station .ptu).queue.head?.map (fun e => e.1) = some 2 ∧ .task ∈ heldWord.ptu.heldInputs := by
  decide +kernel

/-- R4, R170: the halted word keeps no place among the held inputs of the PTU. -/
theorem test_halt_of_a_held_word :
    (after (exec (.halt (actionWrite 3 2)) heldWord) State.reset).ptu.heldInputs = [.sls (.report 3 .off .hostOff)] := by
  decide +kernel

/-- HALT of an APPLY whose build is under way. -/
def buildingApply : State :=
  let s := hostAt (ctxAt .active .inService (some (word 0x62 0 0 9 2)))
  { s with
    bus := s.bus.setStation .znu {
      queue := []
      service := some { anchor := some 2, word := word 0x62 0 0 9 2, input := [], output := [] } }
    znu := { s.znu with phase := .building, task := .applying }
    mxw := { s.mxw with linkUp := true, activeBank := some 0, back := .build } }

theorem witness_halted_apply :
    buildingApply.bus.servingOf 2 = some .znu ∧ buildingApply.znu.phase = .building ∧
      buildingApply.mxw.outstanding ≠ none ∧ buildingApply.mxw.back = .build ∧
      (buildingApply.bus.service .znu).isSome = true := by decide +kernel

/-- StartResumeAndHaltActByTheState, the other HALTs of a ZNU task: an APPLY that is switching, one told already, and one
whose build request is still on its way to an MXW whose link is DOWN. -/
theorem witness_halted_znu_task :
    ({ buildingApply.znu with phase := .switching } : Znu).phase ≠ .building ∧
      ({ buildingApply.znu with abandonSent := true } : Znu).abandonSent = true ∧
      State.reset.mxw.linkUp = false ∧ ZnuToMxw.build ∈ [ZnuToMxw.build] := by decide +kernel

/-- R114, R133: the abandon request waits for its build request. -/
theorem test_halt_before_the_build_request :
    let s := { buildingApply with mxw := State.reset.mxw, bus := { buildingApply.bus with znuMxw := [.build] } }
    (after (exec (.halt (actionWrite 3 2)) s) State.reset).mxw = { State.reset.mxw with abandon := true } := by
  decide +kernel

/-- Request bytes: chain address 8000h, options 3. -/
def requestBytes (addr : Nat) : Vector Byte 16 := Vector.ofFn fun i => (toLe 8 addr ++ [3] ++ zerosLe 7).getD i.val 0

/-- The sixteen bytes of a task word (11.2). -/
def wordBytes (w : TaskWord) : Vector Byte 16 :=
  Vector.ofFn fun i => ([w.code, w.flags] ++ toLe 2 w.count.toNat ++ toLe 4 w.param.toNat ++ toLe 8 w.addr.toNat).getD i.val 0

/-- FetchedWordsAreJudgedInOrder: accesses in flight, and a word for each clause. -/
theorem witness_fetched_words :
    (hostAt { ctxAt .active .fetch none with word := none } (inFlight (accessOf .anchorRead 0x40080 16))).bus.accesses =
        [{ req := .spw, kind := .page, addr := 0x40400, len := 4, data := [] }] ++ accessOf .anchorRead 0x40080 16 :: [] ∧
      field (requestBytes 0x8000).toList 0 8 = 0x8000 ∧ (requestBytes 0x8008).toList.length = 16 ∧
      (hostAt (ctxAt .active .fetch none)).host.anchors[(2 : Fin 16)].move = none ∧
      taskWordOf (wordBytes reportWord).toList = reportWord ∧ reportWord.suspend = true ∧ reportWord.list = true ∧
      taskKindOf reportWord.code = some .licenceReport ∧ taskKindOf (word 0x7E 0 0 0).code = none ∧
      taskKindOf (word 0x30 0 31 0).code = some .powerPolicy ∧ taskKindOf (word 0x01 0 0 0).code = some .jump ∧
      taskKindOf (word 0x02 1 0 0).code = some .note ∧ serverOf .licenceReport = some .lcu := by decide +kernel

/-- An outcome of the LCU for anchor 2. -/
def lcuOutcome (x : AnchorCtx) (cls : OutcomeClass) : State :=
  hostAt x { State.reset.bus with
    outcomes := [{ server := .ptu, anchor := none, cls := .normal, details := .zero },
      { server := .lcu, anchor := some 2, cls := cls, details := details 3 2 0 0 }] }

theorem witness_outcomes_and_records :
    (lcuOutcome (ctxAt .active .inService (some reportWord)) .normal).bus.outcomes =
        [{ server := .ptu, anchor := none, cls := .normal, details := .zero }] ++
          { server := .lcu, anchor := some 2, cls := .normal, details := details 3 2 0 0 } :: [] ∧
      reportWord.chain = false ∧ enableWord.chain = true ∧
      (ctxAt .halting .inService (some reportWord)).failure = none ∧
      (hostAt (ctxAt .suspended .record (some reportWord)) (inFlight (accessOf .record 0x40090 48))).bus.accesses =
        [{ req := .spw, kind := .page, addr := 0x40400, len := 4, data := [] }] ++ accessOf .record 0x40090 48 :: [] ∧
      (ctxAt .statusPending .record none).afterRecord = .notice ∧ (ctxAt .active .fetch none).word = some { addr := 0x8010, content := none } := by
  decide +kernel

/-- R173: a ZONE STAGE of 100 bytes whose 52 read bytes held a record refused at byte 44. -/
theorem test_residual_of_a_refused_stage :
    let w := word 0x60 0 100 0 0x1000
    let m : Movement := { input := true, list := true, next := 0, piece := 0, sum := 52, moved := 52, last := false
                          jumped := false, truncated := false }
    let s := hostAt { ctxAt .active .inService (some w) with move := some m } { State.reset.bus with
      outcomes := [{ server := .znu, anchor := some 2, cls := .refused .malformedZone, details := .zero, taken := some 44 }] }
    (after (exec (.taskOutcome .znu) s) State.reset).bus.accesses.map (fun x => field x.data 16 4) = [56] := by
  decide +kernel

/-- A block serves anchor 2's word with data moving. -/
def movingAt (v : Server) (w : TaskWord) (m : Movement) (input output : List Byte) (x : Access) : State :=
  let s := hostAt { ctxAt .active .inService (some w) with move := some m } (inFlight x)
  { s with
    bus := s.bus.setStation v {
      queue := [], service := some { anchor := some 2, word := w, input := input, output := output } } }

def startOf (w : TaskWord) (input : Bool) : Movement :=
  { input := input, list := w.list, next := w.addr, piece := w.addr, sum := 0, moved := 0, last := false
    jumped := false, truncated := false }

def pieceBytes (count flags addr : Nat) : Vector Byte 16 :=
  Vector.ofFn fun i => ([BitVec.ofNat 8 flags, 0] ++ toLe 2 count ++ zerosLe 4 ++ toLe 8 addr).getD i.val 0

def policyWord : TaskWord := word 0x30 4 32 0 0x9000

theorem witness_data_moves :
    (movingAt .pbu policyWord (startOf policyWord true) [] [] (accessOf .pieceFetch 0x9000 16)).bus.accesses =
        [{ req := .spw, kind := .page, addr := 0x40400, len := 4, data := [] }] ++ accessOf .pieceFetch 0x9000 16 :: [] ∧
      (movingAt .pbu policyWord (startOf policyWord true) [] [] (accessOf .pieceFetch 0x9000 16)).bus.servingOf 2 = some .pbu ∧
      (movingAt .lcu reportWord (startOf reportWord false) [] [1] (accessOf .dataWrite 0x9000 1)).bus.servingOf 2 = some .lcu ∧
      (dataPieceOf (pieceBytes 100 1 0xA000).toList).count = 100 ∧ (dataPieceOf (pieceBytes 100 1 0xA000).toList).last = true ∧
      (dataPieceOf (pieceBytes 0 4 0xA000).toList).jump = true ∧ (dataPieceOf (pieceBytes 9 2 0).toList).skip = true ∧
      (dataPieceOf (pieceBytes 9 2 0xA010).toList).addr = 0xA010 := by decide +kernel

/-- DataMovesPieceByPiece, its failures: a policy's input and a report's output of 144 bytes, and pieces that break a
rule: a JUMP to A008h, a JUMP with LAST, a SKIP of 0, of 150 and of 9 with LAST, and an area of 9 bytes that was the last. -/
theorem witness_pieces_that_fail :
    let out := movingAt .lcu reportWord (startOf reportWord false) [] (List.replicate 144 7) (accessOf .pieceFetch 0x9000 16)
    let s := { out with lcu := { out.lcu with task := .reporting 2 } }
    let lastPiece := { startOf policyWord true with sum := 9, last := true }
    (s.lcu.task = .reporting 2 ∧ s.bus.servingOf 2 = some .lcu ∧ (startOf reportWord false).input = false ∧
      (startOf reportWord false).jumped = false ∧ reportWord.count.toNat = 144 ∧
      (dataPieceOf (pieceBytes 0 4 0xA008).toList).addr.toNat % 16 = 8 ∧ (dataPieceOf (pieceBytes 0 5 0xA000).toList).last = true ∧
      (dataPieceOf (pieceBytes 0 2 0).toList).count = 0 ∧ (dataPieceOf (pieceBytes 150 2 0).toList).count = 150 ∧
      (dataPieceOf (pieceBytes 9 3 0).toList).skip = true ∧ (dataPieceOf (pieceBytes 9 3 0).toList).last = true) ∧
    (movingAt .pbu policyWord lastPiece [] [] (accessOf .dataRead 0xA000 9)).host.anchors[(2 : Fin 16)].move = some lastPiece ∧
      lastPiece.moved + 9 < policyWord.count.toNat ∧ lastPiece.sum < policyWord.count.toNat ∧ lastPiece.input = true := by
  decide +kernel

/-- R172: a LAST piece of 9 bytes of a policy's 32 ends the chain with PIECE_SHORT at the piece's address. -/
theorem test_piece_short :
    let m := { startOf policyWord true with sum := 9, last := true, piece := 0x9000 }
    let t := after (exec (.dataReadDone 2 (List.replicate 9 0)) (movingAt .pbu policyWord m [] [] (accessOf .dataRead 0xA000 9)))
      State.reset
    t.host.anchors[(2 : Fin 16)].failure = some { reason := some .pieceShort, address := 0x9000 } := by decide +kernel

/-- DataMovesPieceByPiece, the deliveries that stop: a policy's read, and a JUMP after a JUMP. -/
theorem witness_stopped_deliveries :
    let m := { startOf policyWord true with jumped := true }
    let s := movingAt .lcu (word 0x20 4 64 0 0x9000) m [1, 2] [] (accessOf .pieceFetch 0x9000 16)
    (s.bus.servingOf 2 = some .lcu ∧ s.host.anchors[(2 : Fin 16)].move = some m ∧ m.jumped = true ∧
      (dataPieceOf (pieceBytes 0 4 0xA000).toList).jump = true) ∧
    (movingAt .znu (word 0x60 4 80 0 0x9000) m (List.replicate 30 0) [] (accessOf .dataRead 0xA000 9)).bus.servingOf 2 =
        some .znu ∧ ((List.replicate 30 (0 : Byte)).drop 28).length < 20 ∧ (accessOf .dataRead 0xA000 9).kind = .dataRead ∧
      (∀ p ∈ [1, 4], p ≤ 5) := by decide +kernel

/-- DataMovesPieceByPiece, the outputs that end: a ZONE READ written whole, a ZONE FIND passed over by a SKIP of 5, and a
report that is full; and the deliveries of a policy, a profile and a ZONE READ that stop, and LAST pieces cut short. -/
theorem witness_outputs_that_end :
    let read := movingAt .znu (word 0x63 4 70 1 0x9000) (startOf reportWord false) [] (List.replicate 16 0)
      (accessOf .dataWrite 0xA000 16)
    let find := movingAt .znu (word 0x65 4 6 0 0x9000) (startOf reportWord false) [] [1, 0, 4, 0] (accessOf .pieceFetch 0x9000 16)
    let last := { startOf policyWord true with sum := 9, last := true }
    (read.bus.servingOf 2 = some .znu ∧ (startOf reportWord false).input = false ∧ (List.replicate 16 (0 : Byte)).drop 16 = []) ∧
    (find.bus.servingOf 2 = some .znu ∧ (dataPieceOf (pieceBytes 5 2 0).toList).skip = true ∧ ([1, 0, 4, 0] : List Byte).drop 5 = [] ∧
      0 + 5 ≤ (word 0x65 4 6 0 0x9000).count.toNat) ∧
    reportWord.count.toNat ≤ 0 + 144 ∧
    ((movingAt .clc (word 0x50 4 48 0 0x9000) (startOf policyWord true) [1, 2] [] (accessOf .dataRead 0xA000 9)).bus.servingOf 2 =
        some .clc ∧
      (movingAt .pbu policyWord last [1] [] (accessOf .dataRead 0xA000 9)).bus.servingOf 2 = some .pbu ∧
      last.moved + 9 < policyWord.count.toNat ∧ last.sum < policyWord.count.toNat) ∧
    ((startOf reportWord false).moved + 9 < reportWord.count.toNat ∧ 9 < (List.replicate 90 (0 : Byte)).length) := by
  decide +kernel

/-- R46, R173: a failed read of a policy leaves the policy, and the failing address is kept. -/
theorem test_stopped_policy :
    let s := movingAt .pbu policyWord (startOf policyWord true) [1, 2] [] (accessOf .dataRead 0xA000 9)
    let t := after (exec (.hostAccessFailed (.anchor 2)) s) State.reset
    t.pbu = s.pbu ∧ t.host.anchors[(2 : Fin 16)].failure = some { reason := none, address := 0xA000 } := by decide +kernel

/-- R26, R173: a failed read ends a LICENCE INSTALL with MEMORY_FAULT at its address, and no check is made. -/
theorem test_stopped_install :
    let s := movingAt .lcu (word 0x20 4 64 0 0x9000) (startOf policyWord true) [1, 2] [] (accessOf .dataRead 0xA000 9)
    let t := after (exec (.hostAccessFailed (.anchor 2)) { s with lcu := { s.lcu with task := .collecting } }) State.reset
    t.lcu = s.lcu ∧ t.host.anchors[(2 : Fin 16)].failure = some { reason := none, address := 0xA000 } := by decide +kernel

/-- A block serves anchor 3's word, and another block a task of its own. -/
theorem witness_resets :
    let s := serving .pbu (word 0x30 0 32 0) (List.replicate 32 0) State.reset
    s.bus.service .znu = none ∧ s.znu.phase = .idle ∧ s.bus.service .lcu = none ∧ s.bus.service .clc = none ∧
      ((s.bus.service .pbu).map fun sv => (sv.word.is .powerPolicy, sv.complete)) = some (true, true) := by decide +kernel

/-- ResetsKeepWhatTheyMust, a task whose data was moving: a policy with 8 of its 32 bytes. -/
theorem witness_resets_that_stop :
    let s := serving .pbu (word 0x30 0 32 0) (List.replicate 8 0) State.reset
    (∀ u, u ≠ .pbu → s.bus.service u = none) ∧ s.znu.phase = .idle ∧
      ((s.bus.service .pbu).map fun sv => (sv.word.is .powerPolicy, sv.complete)) = some (true, false) := by
  refine ⟨fun u h => ?_, rfl, by decide +kernel⟩
  cases u <;> first | rfl | exact absurd rfl h

/-- Section 10.9: the closing record of the report: class NORMAL, 2 words completed, word C + 16. -/
theorem test_closing_record_of_the_book :
    let s := after (exec (.taskOutcome .lcu) (lcuOutcome (ctxAt .active .inService (some reportWord)) .normal)) State.reset
    (s.bus.accesses.map (fun x => (x.addr, x.data.take 8))) = [(0x40090, [0, 0, 0, 0x23, 2, 0, 0, 0])] := by decide +kernel

/-- Section 10.9: the suspension record written, anchor 2's notice is SUSPENSION and the interrupt is asserted. -/
theorem test_suspension_notice :
    let s := after (exec (.recordWriteDone 2)
      (hostAt (ctxAt .suspended .record (some reportWord)) (inFlight (accessOf .record 0x40090 48)))) State.reset
    s.host.anchors[(2 : Fin 16)].notice = .suspension ∧ s.host.hli.interrupt = true ∧
      pendingRegister s.host = 4 := by decide +kernel

/-! ### Port Table Unit: the worked sequence of 1.9 -/

/-- Slot 2 in STANDBY with a T3 blade, slot 5 IDENTIFYING, G = 10, 20, 40. -/
def ptuStart : State :=
  { State.reset with ptu := { State.reset.ptu with
      granted := { t1 := 10, t2 := 20, t3 := 40 }
      view := setAt (setAt State.reset.ptu.view 2 { state := .standby, maxTier := some .t3 }) 5
        { state := .identifying, maxTier := some .t1 } } }

def portEnableWord (port tier wait : Nat) : TaskWord := word 0x10 0 0 (port + 65536 * tier + 16777216 * wait)

/-- Port 70 has its claim answered GRANTED WITH WAKE, 282 watts. -/
def ptuClaimed : State :=
  let s := serving .ptu (portEnableWord 70 3 0) [] ptuStart
  { s with
    ptu := { s.ptu with claim := some (.port 70 .t3 (some .t3)) }
    bus := { s.bus with pbuPtu := [{ grant := .grantedWithWake, amount := 282 }] } }

/-- Port 70 PARKED with a T3 seat, port 71 waiting for T2. -/
def ptuBusy : State :=
  { ptuStart with ptu := { ptuStart.ptu with
      ports := setAt (setAt ptuStart.ptu.ports 70
        { state := .parked, reqTier := .t3, seat := some .t3, reason := .hostEnable, zoneCount := 0 }) 71
        { state := .unseated, reqTier := .t2, seat := none, reason := .hostEnable, zoneCount := 0 }
      waitList := [71]
      held := { t1 := 0, t2 := 0, t3 := 1 } } }

/-- The ports other than 70 and 71 are as after power-on. -/
theorem ptuBusy_sound : ptuBusy.ptu.Sound where
  held_counts := by intro k; cases k <;> decide +kernel
  wait_nodup := by decide +kernel
  wait_unseated := by decide +kernel
  seat_state := by decide +kernel
  seat_tier := by
    have h : ∀ q : Port, ∀ k ∈ tiers, ptuBusy.ptu.ports[q].seat = some k →
        tierNum ptuBusy.ptu.ports[q].reqTier ≤ tierNum k := by decide +kernel
    intro q k; exact h q k (by cases k <;> decide)
  service_online := by decide +kernel
  noted_tier := by intro q t k h; exact absurd h (by simp [ptuBusy, ptuStart, State.reset, State.powerOn, ptuPowerOn])
  port_claim := by intro q t k h; exact absurd h (by simp [ptuBusy, ptuStart, State.reset, State.powerOn, ptuPowerOn])
  tier_claim := by intro q t w h; exact absurd h (by simp [ptuBusy, ptuStart, State.reset, State.powerOn, ptuPowerOn])

/-- The hypotheses of PortEnableClaimsOrIsRefused: port 70 of the sleeping slot 2, tier 3, a T3 seat free; and port 71, whose
tier changes from 2 to 3. -/
theorem witness_port_enable_claims :
    let w := portEnableWord 70 3 0
    let s := waiting .ptu w ptuStart
    s.bus.station .ptu = { queue := [(3, w)], service := none } ∧ s.ptu.claim = none ∧ w.is .portEnable = true ∧
      w.bits 0 16 = (70 : Port).val ∧ w.bits 16 8 = tierNum .t3 ∧ s.ptu.view[slotOf 70].state = .standby ∧
      s.ptu.view[slotOf 70].maxTier = some .t3 ∧ s.ptu.ports[(70 : Port)].state = .disabled ∧
      s.ptu.lowestFit .t3 (some .t3) = true := by decide +kernel

theorem witness_port_enable_changes_tier :
    let w := portEnableWord 71 3 1
    let s := waiting .ptu w ptuBusy
    s.bus.station .ptu = { queue := [(3, w)], service := none } ∧ s.ptu.claim = none ∧ w.is .portEnable = true ∧
      w.bits 0 16 = (71 : Port).val ∧ w.bits 16 8 = tierNum .t3 ∧ s.ptu.view[slotOf 71].state = .standby ∧
      s.ptu.view[slotOf 71].maxTier = some .t3 ∧ s.ptu.ports[(71 : Port)].state ≠ .disabled ∧
      Tier.t3 ≠ s.ptu.ports[(71 : Port)].reqTier := by decide +kernel

/-- PortEnableClaimsOrIsRefused, one witness for each clause: port 160 on an IDENTIFYING slot; tier 3 where
the slot view shows no maximum tier; tier 3 with every T3 seat held and WAIT clear. -/
theorem witness_port_enable_refused_slot :
    let w := portEnableWord 160 1 0
    let s := waiting .ptu w ptuStart
    s.bus.station .ptu = { queue := [(3, w)], service := none } ∧ s.ptu.claim = none ∧ w.is .portEnable = true ∧
      w.bits 0 16 = (160 : Port).val ∧ w.bits 16 8 = tierNum .t1 ∧ s.ptu.ports[(160 : Port)].state = .disabled ∧
      s.ptu.view[slotOf 160].state = .identifying := by decide +kernel

theorem witness_port_enable_refused_tier :
    let w := portEnableWord 255 2 0
    let s := waiting .ptu w { ptuStart with ptu := { ptuStart.ptu with
      view := setAt ptuStart.ptu.view 7 { state := .off, maxTier := some .t1 } } }
    s.bus.station .ptu = { queue := [(3, w)], service := none } ∧ s.ptu.claim = none ∧ w.is .portEnable = true ∧
      w.bits 0 16 = (255 : Port).val ∧ w.bits 16 8 = tierNum .t2 ∧ s.ptu.ports[(255 : Port)].state = .disabled ∧
      s.ptu.view[slotOf 255] = { state := .off, maxTier := some .t1 } := by decide +kernel

theorem witness_port_enable_refused_seat :
    let w := portEnableWord 70 3 0
    let s := waiting .ptu w { ptuStart with ptu := { ptuStart.ptu with granted := { t1 := 9, t2 := 9, t3 := 0 } } }
    s.bus.station .ptu = { queue := [(3, w)], service := none } ∧ s.ptu.claim = none ∧ w.is .portEnable = true ∧
      w.bits 0 16 = (70 : Port).val ∧ w.bits 16 8 = tierNum .t3 ∧ s.ptu.ports[(70 : Port)].state = .disabled ∧
      s.ptu.view[slotOf 70] = { state := .standby, maxTier := some .t3 } ∧ s.ptu.lowestFit .t3 none = true ∧
      w.bits 24 1 = 0 := by decide +kernel

/-- A state of sound ports stays sound whatever the tasks and messages. -/
theorem ptuClaimed_sound : ptuClaimed.ptu.Sound where
  held_counts := by intro k; cases k <;> decide +kernel
  wait_nodup := by decide +kernel
  wait_unseated := by decide +kernel
  seat_state := by decide +kernel
  seat_tier := by
    have h : ∀ q : Port, ptuClaimed.ptu.ports[q].seat = none := by decide +kernel
    intro q k e; rw [h q] at e; cases e
  service_online := by decide +kernel
  noted_tier := by
    intro q t k h
    simp [ptuClaimed] at h
    obtain ⟨-, rfl, rfl⟩ := h
    decide
  port_claim := by
    intro q t k h
    simp [ptuClaimed] at h
    obtain ⟨rfl, -, -⟩ := h
    decide +kernel
  tier_claim := by intro q t w h; simp [ptuClaimed] at h

theorem witness_granted_port_claim :
    ptuClaimed.bus.pbuPtu = [{ grant := .grantedWithWake, amount := 282 }] ∧
      ptuClaimed.ptu.claim = some (.port 70 .t3 (some .t3)) ∧ ptuClaimed.ptu.heldInputs = [] ∧
      ptuClaimed.ptu.Sound ∧ ptuClaimed.ptu.ports[(70 : Port)].state = .disabled :=
  ⟨rfl, rfl, rfl, ptuClaimed_sound, by decide +kernel⟩

/-- A sound port table with a tier claim outstanding for an admin-enabled port is sound. -/
theorem sound_with_tier_claim {v : Ptu} {p : Port} {t : Tier} {w : Bool} (h : v.Sound)
    (e : v.ports[p].state ≠ .disabled) : { v with claim := some (.tier p t w) : Ptu }.Sound where
  held_counts := h.held_counts
  wait_nodup := h.wait_nodup
  wait_unseated := h.wait_unseated
  seat_state := h.seat_state
  seat_tier := h.seat_tier
  service_online := h.service_online
  noted_tier := by intro q u k c; simp at c
  port_claim := by intro q u k c; simp at c
  tier_claim := by
    intro q u x c
    simp only [Option.some.injEq, PtuClaim.tier.injEq] at c
    obtain ⟨rfl, -, -⟩ := c
    exact e

/-- Port 70 PARKED with a T1 seat, ports 72 and 71 waiting for T3 and T2. -/
def ptuLow (g : Counts) : Ptu :=
  let waits := fun (t : Tier) =>
    ({ state := .unseated, reqTier := t, seat := none, reason := .hostEnable, zoneCount := 0 } : PortRec)
  let parked : PortRec := { state := .parked, reqTier := .t1, seat := some .t1, reason := .hostEnable, zoneCount := 0 }
  { ptuStart.ptu with
    granted := g
    ports := setAt (setAt (setAt ptuStart.ptu.ports 70 parked) 71 (waits .t2)) 72 (waits .t3)
    waitList := [72, 71]
    held := { t1 := 1, t2 := 0, t3 := 0 } }

theorem ptuLow_sound (g : Counts) : (ptuLow g).Sound where
  held_counts := by
    have h : ∀ k ∈ tiers, (ptuLow .zero).held.get k = (ptuLow .zero).holders k := by decide +kernel
    intro k; exact h k (by cases k <;> decide)
  wait_nodup := by
    have h : (ptuLow .zero).waitList.Nodup := by decide
    exact h
  wait_unseated := by
    have h : ∀ q : Port, q ∈ (ptuLow .zero).waitList ↔ (ptuLow .zero).ports[q].state = .unseated := by decide +kernel
    exact h
  seat_state := by
    have h : ∀ q : Port, (ptuLow .zero).ports[q].seat.isSome ↔
        ((ptuLow .zero).ports[q].state = .inService ∨ (ptuLow .zero).ports[q].state = .parked) := by decide +kernel
    exact h
  seat_tier := by
    have h : ∀ q : Port, ∀ k ∈ tiers, (ptuLow .zero).ports[q].seat = some k →
        tierNum (ptuLow .zero).ports[q].reqTier ≤ tierNum k := by decide +kernel
    intro q k; exact h q k (by cases k <;> decide)
  service_online := by
    have h : ∀ q : Port, (ptuLow .zero).ports[q].seat.isSome →
        ((ptuLow .zero).ports[q].state = .inService ↔ (ptuLow .zero).view[slotOf q].state = .online) := by
      decide +kernel
    exact h
  noted_tier := by intro q t k h; exact absurd h (by simp [ptuLow, ptuStart, State.reset, State.powerOn, ptuPowerOn])
  port_claim := by intro q t k h; exact absurd h (by simp [ptuLow, ptuStart, State.reset, State.powerOn, ptuPowerOn])
  tier_claim := by intro q t w h; exact absurd h (by simp [ptuLow, ptuStart, State.reset, State.powerOn, ptuPowerOn])

/-- The PBU has answered a claim made from the port table v. -/
def claimAnswered (v : Ptu) (c : PtuClaim) (a : ClaimAnswer) : State :=
  let s := serving .ptu (portEnableWord 70 2 0) [] { ptuStart with ptu := { v with claim := some c } }
  { s with bus := { s.bus with pbuPtu := [a] } }

def grantedWatts : ClaimAnswer := { grant := .granted, amount := 1 }

/-- GrantedPortClaimEnablesThePort, its tier claims: a seat kept; a higher seat found; none found, with WAIT clear and
with WAIT set; and a waiting port that finds none and that finds one while port 72 finds none. -/
theorem witness_granted_tier_claims :
    (∀ (g : Counts) (p : Port) (t : Tier) (w : Bool), (ptuLow g).ports[p].state ≠ .disabled →
      let s := claimAnswered (ptuLow g) (.tier p t w) grantedWatts
      s.bus.pbuPtu = grantedWatts :: [] ∧ grantedWatts.grant ≠ .refused ∧ s.ptu.claim = some (.tier p t w) ∧
        s.ptu.heldInputs = [] ∧ s.ptu.Sound) ∧
      (ptuLow ⟨1, 0, 0⟩).ports[(70 : Port)].seat = some .t1 ∧ (ptuLow ⟨1, 0, 0⟩).ports[(71 : Port)].seat = none ∧
      (ptuLow ⟨1, 1, 0⟩).lowestFit .t2 (some .t2) = true ∧ (ptuLow ⟨1, 0, 0⟩).lowestFit .t2 none = true ∧
      (ptuLow ⟨1, 0, 0⟩).lowestFit .t3 none = true ∧ (ptuLow ⟨2, 0, 0⟩).lowestFit .t1 (some .t1) = true ∧
      (∀ q ∈ (ptuLow ⟨2, 0, 0⟩).waitList, q ≠ 71 →
        (ptuLow ⟨2, 0, 0⟩).lowestFit (ptuLow ⟨2, 0, 0⟩).ports[q].reqTier none = true) :=
  ⟨fun g p _ _ h => ⟨rfl, by decide, rfl, rfl, sound_with_tier_claim (ptuLow_sound g) h⟩, by decide +kernel,
    by decide +kernel, by decide +kernel, by decide +kernel, by decide +kernel, by decide +kernel, by decide +kernel⟩

/-- GrantedPortClaimEnablesThePort, its refusals and its wake claim: slot 2 is to be woken, and nothing is to be sent. -/
theorem witness_refused_and_wake_claims :
    let no : ClaimAnswer := { grant := .refused, amount := 0 }
    let wake : ClaimAnswer := { grant := .grantedWithWake, amount := 275 }
    (claimAnswered ptuStart.ptu (.port 70 .t3 none) no).bus.pbuPtu = no :: [] ∧ no.grant = .refused ∧
      (claimAnswered ptuStart.ptu (.port 70 .t3 none) no).ptu.heldInputs = [] ∧
      (claimAnswered ptuBusy.ptu (.tier 71 .t3 true) no).ptu.claim = some (.tier 71 .t3 true) ∧
      (claimAnswered ptuBusy.ptu (.wake 2) wake).bus.pbuPtu = wake :: [] ∧ wake.grant = .grantedWithWake ∧
      (claimAnswered ptuBusy.ptu (.wake 2) no).ptu.claim = some (.wake 2) ∧
      (claimAnswered ptuBusy.ptu (.wake 2) no).ptu.heldInputs = [] := by decide +kernel

theorem witness_port_disable :
    let w := word 0x11 0 0 70
    let s := waiting .ptu w ptuBusy
    s.bus.station .ptu = { queue := [(3, w)], service := none } ∧ s.ptu.claim = none ∧ s.ptu.Sound ∧
      w.is .portDisable = true ∧ w.bits 0 16 = (70 : Port).val ∧ s.ptu.ports[(70 : Port)].state ≠ .disabled :=
  ⟨by decide +kernel, rfl, ptuBusy_sound, by decide +kernel, by decide +kernel, by decide +kernel⟩

/-- A message of the SLS waits at the PTU. -/
def slsSays (m : SlsToPtu) : State := { ptuBusy with bus := { ptuBusy.bus with slsPtu := [m] } }

theorem witness_online_report :
    (slsSays (.report 2 .online .rampDone)).bus.slsPtu = .report 2 .online .rampDone :: [] ∧
      (slsSays (.report 2 .online .rampDone)).ptu.claim = none ∧ (slsSays (.report 2 .online .rampDone)).ptu.Sound :=
  ⟨rfl, rfl, ptuBusy_sound⟩

theorem witness_left_online_report :
    (slsSays (.report 2 .standby .idle)).bus.slsPtu = .report 2 .standby .idle :: [] ∧
      SlotState.standby ≠ .online ∧ (slsSays (.report 2 .standby .idle)).ptu.claim = none ∧
      (slsSays (.report 2 .standby .idle)).ptu.Sound := ⟨rfl, by decide, rfl, ptuBusy_sound⟩

theorem witness_sweep :
    (slsSays (.sweep 2 .t2 9)).bus.slsPtu = .sweep 2 .t2 9 :: [] ∧ (slsSays (.sweep 2 .t2 9)).ptu.claim = none ∧
      (slsSays (.sweep 2 .t2 9)).ptu.Sound ∧ (slsSays (.sweep 2 .t2 9)).ptu.view[(2 : Slot)].state ≠ .online :=
  ⟨rfl, rfl, ptuBusy_sound, by decide +kernel⟩

/-- R17, R37: a sweep to tier 2 disables port 70 (T3), and waiting port 71 takes a T2 seat, the lowest that
does for it; slot 2 stays in use. -/
theorem test_sweep_serves_the_wait_list :
    let t := after (exec .identificationSweep (slsSays (.sweep 2 .t2 9))) ptuBusy
    t.ptu.ports[(70 : Port)].state = .disabled ∧ t.ptu.ports[(71 : Port)].seat = some .t2 ∧ t.ptu.waitList = [] ∧
      t.bus.ptuSls = [.sweepDone 2 9] := by decide +kernel

def zoneCountWaits : State := { ptuBusy with bus := { ptuBusy.bus with znuPtu := [(71, 16)] } }

theorem witness_zone_count :
    zoneCountWaits.bus.znuPtu = (71, 16) :: [] ∧ zoneCountWaits.ptu.Sound ∧
      zoneCountWaits.ptu.ports[(71 : Port)].zoneCount ≠ 16 ∧ zoneCountWaits.ptu.ports[(71 : Port)].zoneCount = 0 :=
  ⟨rfl, ptuBusy_sound, by decide +kernel, by decide +kernel⟩

/-- A message of the LCU waits at the PTU. -/
def lcuSays (m : LcuToPtu) : State := { ptuBusy with bus := { ptuBusy.bus with lcuPtu := [m] } }

theorem witness_grant_report :
    (lcuSays (.grant { t1 := 10, t2 := 20, t3 := 41 })).bus.lcuPtu = .grant { t1 := 10, t2 := 20, t3 := 41 } :: [] ∧
      (lcuSays (.grant { t1 := 10, t2 := 20, t3 := 41 })).ptu.claim = none ∧
      (lcuSays (.grant { t1 := 10, t2 := 20, t3 := 41 })).ptu.Sound := ⟨rfl, rfl, ptuBusy_sound⟩

theorem witness_withdrawal :
    (lcuSays (.withdrawal { t1 := 0, t2 := 0, t3 := 0 })).bus.lcuPtu = .withdrawal { t1 := 0, t2 := 0, t3 := 0 } :: [] ∧
      (lcuSays (.withdrawal { t1 := 0, t2 := 0, t3 := 0 })).ptu.claim = none ∧
      (lcuSays (.withdrawal { t1 := 0, t2 := 0, t3 := 0 })).ptu.Sound := ⟨rfl, rfl, ptuBusy_sound⟩

/-- PortEnableClaimsOrIsRefused and PortDisableDisablesThePort, the words that change nothing: port 256, tier 4 and the
tier that port 71 has; an admin-enabled port of a slot that is IDENTIFYING, and one above the maximum tier of its slot; and
a DISABLED port. -/
theorem witness_port_tasks_without_effect :
    (∀ w : TaskWord, (waiting .ptu w ptuBusy).bus.station .ptu = { queue := [(3, w)], service := none }) ∧
      ptuBusy.ptu.claim = none ∧ (portEnableWord 256 1 0).is .portEnable = true ∧
      256 ≤ (portEnableWord 256 1 0).bits 0 16 ∧ 3 < (portEnableWord 255 4 0).bits 16 8 ∧
      (portEnableWord 71 2 0).bits 16 8 = tierNum ptuBusy.ptu.ports[(71 : Port)].reqTier ∧
      ptuBusy.ptu.ports[(71 : Port)].state ≠ .disabled ∧
      (setAt ptuBusy.ptu.view 2 { state := .identifying, maxTier := none })[slotOf 71].state = .identifying ∧
      (setAt ptuBusy.ptu.view 2 { state := .off, maxTier := some .t1 })[slotOf 71].maxTier = some .t1 ∧
      ptuBusy.ptu.ports[(255 : Port)].state = .disabled := by
  refine ⟨fun _ => rfl, ?_⟩
  decide +kernel

/-- Port 70's claim is outstanding and answered; behind a grant report a sweep and a task word are held. -/
def ptuHolding : State :=
  { ptuClaimed with
    ptu := { ptuClaimed.ptu with heldInputs := [.lcu (.grant { t1 := 1, t2 := 2, t3 := 3 }), .sls (.sweep 2 .t2 9), .task] }
    bus := {
      ptuClaimed.bus with
      slsPtu := [.report 2 .online .rampDone], lcuPtu := [.withdrawal .zero]
      stations := setAt ptuClaimed.bus.stations (serverIndex .ptu)
        { ptuClaimed.bus.station .ptu with queue := [(4, word 0x11 0 0 70)] } } }

/-- The hypotheses of the clauses on held inputs. -/
theorem witness_held_inputs :
    ptuHolding.ptu.claim ≠ none ∧ ptuHolding.bus.slsPtu = [.report 2 .online .rampDone] ∧
      ptuHolding.bus.lcuPtu = [.withdrawal .zero] ∧ (slsSays (.sweep 2 .t2 9)).bus.slsPtu = [.sweep 2 .t2 9] ∧
      (ptuHolding.bus.station .ptu).queue = [(4, word 0x11 0 0 70)] ∧ (word 0x11 0 0 70).is .portDisable = true ∧
      ptuHolding.bus.pbuPtu = [{ grant := .grantedWithWake, amount := 282 }] := by decide +kernel

/-- The held inputs follow the answer in their order: the sweep lowers the tier and disables port 70, and the PORT DISABLE
then finds it DISABLED. -/
theorem test_held_inputs_in_order :
    let t := after (exec .claimAnswer ptuHolding) ptuHolding
    t.ptu.heldInputs = [] ∧ t.ptu.granted = { t1 := 1, t2 := 2, t3 := 3 } ∧
      t.ptu.ports[(70 : Port)].reason = .tierUnsupported ∧
      t.bus.outcomes.map (fun o => (o.anchor, o.details)) = [(some 3, details 3 3 0 282), (some 4, details 1 0 0 0)] := by
  decide +kernel

/-- 1.9: the answer to port 70's claim leaves it PARKED with a T3 seat. -/
theorem test_claim_answer_parks_port_70 :
    (after (exec .claimAnswer ptuClaimed) ptuClaimed).ptu.ports[(70 : Port)] =
      { state := .parked, reqTier := .t3, seat := some .t3, reason := .hostEnable, zoneCount := 0 } := by decide +kernel

/-- 1.9: the closing details of port 70 are PARKED, 3, 0, 282. -/
theorem test_claim_answer_details :
    (after (exec .claimAnswer ptuClaimed) ptuClaimed).bus.outcomes.map (fun m => m.details) = [details 3 3 0 282] := by
  decide +kernel

/-! ### Licence Unit and Licence Store -/

/-- A licence record with its check value. -/
def licence (id kind tier seats hours : Nat) : LicenceRecord :=
  let body := toLe 4 id ++ toLe 1 kind ++ toLe 1 tier ++ toLe 2 seats ++ toLe 2 hours ++ zerosLe 2 ++ zerosLe 8
    ++ List.replicate 36 0x51 ++ zerosLe 4
  licenceOf (body ++ toLe 4 (crc32 body).toNat)

/-- R21: the check value of the CRC catalogue's nine digits. -/
theorem test_crc_of_nine_digits :
    crc32 ([0x31, 0x32, 0x33, 0x34, 0x35, 0x36, 0x37, 0x38, 0x39] : List Byte) = 0xCBF43926 := by decide +kernel

/-- R21: the check value of a PERMANENT record, worked out outside the model (zlib). -/
theorem test_licence_check_value : field (licence 0x1234 2 2 20 0).toList 0x3C 4 = 0xD9B1E8E6 := by decide +kernel

def cellOf (st : CellState) (hours : Nat) (r : LicenceRecord) : LicenceCell :=
  { state := st, hours := hours, record := r, withdrawing := false }

/-- Cells 0–4: a BASE of 8 T1 seats, a TRIAL of 4 T2 seats with 1 hour left, a LAPSED TRIAL, a DAMAGED cell, a PERMANENT of
20 T3 seats. -/
def lcuStart : State :=
  let c := State.reset.lcu.cells
  let c := setAt c 0 (cellOf .valid 0 (licence 1 1 1 8 0))
  let c := setAt c 1 (cellOf .valid 1 (licence 2 3 2 4 24))
  let c := setAt c 2 (cellOf .lapsed 0 (licence 3 3 1 5 24))
  let c := setAt c 3 (cellOf .damaged 0 (licence 4 2 1 5 0))
  let c := setAt c 4 (cellOf .valid 0 (licence 5 2 3 20 0))
  { State.reset with lcu := { State.reset.lcu with
      startRead := 32, cells := c, granted := { t1 := 8, t2 := 4, t3 := 20 } } }

/-- An install of record r has all its bytes. -/
def installing (r : LicenceRecord) : State :=
  serving .lcu (word 0x20 0 64 0) r.toList { lcuStart with lcu := { lcuStart.lcu with task := .collecting } }

theorem witness_start_up_read : State.reset.lcu.startRead = (0 : Fin 32).val := rfl

theorem witness_start_up_read_last :
    ({ State.reset with lcu := { State.reset.lcu with startRead := 31 } } : State).lcu.startRead = (31 : Fin 32).val := rfl

/-- LicenceInstallIsCheckedInOrder: a record that passes every check, and cell 5 the lowest EMPTY one. -/
theorem witness_install_passes :
    let r := licence 0x1234 2 2 20 0
    let s := installing r
    (s.bus.service .lcu).map (fun sv => sv.complete) = some true ∧ s.lcu.task = .collecting ∧ s.lcu.freeze = false ∧
      s.lcu.failedInstalls < 5 ∧ licenceCheckRight r = true ∧ licenceBinding r = s.lcu.serialCopy ∧
      licenceKind r ≠ some .base ∧ licenceWellFormed r = true ∧
      (∀ j : Fin 32, (s.lcu.cells[j].state = .valid ∨ s.lcu.cells[j].state = .lapsed) →
        licenceId s.lcu.cells[j].record ≠ licenceId r) ∧
      s.lcu.cells[(5 : Fin 32)].state = .empty ∧ (∀ j : Fin 32, j < 5 → s.lcu.cells[j].state ≠ .empty) ∧
      s.lcu.storeQueue = [] := by decide +kernel

/-- The clauses of refusal: the fifth failure locks out, a wrong check, a wrong binding, a BASE, a duplicate. -/
theorem witness_install_refused :
    licenceCheckRight (setAt (licence 9 2 2 20 0) 63 0) = false ∧
      licenceBinding (licence 9 2 2 20 0) ≠ 7 ∧ licenceKind (licence 9 1 2 20 0) = some .base ∧
      licenceId lcuStart.lcu.cells[(2 : Fin 32)].record = licenceId (licence 3 2 1 1 0) ∧
      licenceWellFormed (licence 9 3 2 257 24) = false := by decide +kernel

/-- An install's write is at the LST. -/
def storing : State :=
  let r := licence 0x1234 2 2 20 0
  let e : StoreEntry := { cell := 5, content := .write 0 r, who := .task }
  let s := serving .lcu (word 0x20 0 64 0) r.toList lcuStart
  { s with lcu := { s.lcu with task := .installing 5 r, lst := { s.lcu.lst with busy := some e } } }

theorem witness_store_write :
    storing.lcu.lst.busy = some { cell := 5, content := .write 0 (licence 0x1234 2 2 20 0), who := .task } ∧
      storing.lcu.task = .installing 5 (licence 0x1234 2 2 20 0) ∧ (storing.bus.service .lcu).isSome = true := by
  decide +kernel

def removing (id : Nat) : State := waiting .lcu (word 0x21 0 0 id) lcuStart

/-- RemoveFreezeAndReportGoByTheTable, its four clauses: no such id; the BASE; the VALID cell 4; the DAMAGED cell 3. -/
theorem witness_remove :
    (∀ id ∈ [99, 1, 5, 4], (removing id).bus.station .lcu = { queue := [(3, word 0x21 0 0 id)], service := none } ∧
      (word 0x21 0 0 id).is .licenceRemove = true) ∧
    lcuStart.lcu.withdrawal = .idle ∧ lcuStart.lcu.freeze = false ∧
    (∀ i : Fin 32, licenceId lcuStart.lcu.cells[i].record = 99 → lcuStart.lcu.cells[i].state = .empty) ∧
    licenceKind lcuStart.lcu.cells[(0 : Fin 32)].record = some .base ∧
    (∀ j : Fin 32, licenceId lcuStart.lcu.cells[j].record = 5 → j = 4) ∧
    (∀ j : Fin 32, licenceId lcuStart.lcu.cells[j].record = 4 → j = 3) := by decide +kernel

theorem witness_freeze_and_report :
    let f := word 0x22 0 0 0
    let r := word 0x23 0 144 0
    (waiting .lcu f lcuStart).bus.station .lcu = { queue := [(3, f)], service := none } ∧ f.is .licenceFreeze = true ∧
      (waiting .lcu r lcuStart).bus.station .lcu = { queue := [(3, r)], service := none } ∧
      r.is .licenceReport = true ∧ r.count ≠ 0 ∧ lcuStart.lcu.cells[(0 : Fin 32)].state ≠ .empty := by decide +kernel

def hourDue : State := { lcuStart with bus := { lcuStart.bus with hourTicks := 1 } }

theorem witness_hour_tick : hourDue.bus.hourTicks = 0 + 1 := rfl

/-- The TRIAL of cell 1 is withdrawn for its lapse, and the PTU has answered. -/
def lapseAnswered : State :=
  let x := { lcuStart.lcu.cells[(1 : Fin 32)] with hours := 0, withdrawing := true }
  { lcuStart with
    lcu := { lcuStart.lcu with cells := setAt lcuStart.lcu.cells 1 x, withdrawal := .lapse }
    bus := { lcuStart.bus with ptuLcu := 1 } }

theorem witness_withdrawal_answer_lapse :
    lapseAnswered.bus.ptuLcu = 0 + 1 ∧ lapseAnswered.lcu.withdrawal = .lapse ∧
      (∀ i : Fin 32, lapseAnswered.lcu.cells[i].withdrawing = false → lapseDue lapseAnswered.lcu.cells[i] = false) ∧
      lapseAnswered.lcu.task = .idle := by decide +kernel

/-- The PERMANENT of cell 4 is withdrawn for its removal, and the PTU has answered. -/
def removalAnswered : State :=
  let s := serving .lcu (word 0x21 0 0 5) [] lcuStart
  let x := { s.lcu.cells[(4 : Fin 32)] with withdrawing := true }
  { s with
    lcu := { s.lcu with cells := setAt s.lcu.cells 4 x, withdrawal := .removal 4, task := .removeWithdrawing 4 }
    bus := { s.bus with ptuLcu := 1 } }

theorem witness_withdrawal_answer_removal :
    removalAnswered.bus.ptuLcu = 0 + 1 ∧ removalAnswered.lcu.withdrawal = .removal 4 ∧
      (∀ j : Fin 32, j ≠ 4 → lapseDue removalAnswered.lcu.cells[j] = false) := by decide +kernel

/-- R25: emptying the PERMANENT's cell leaves G = 8, 4, 0. -/
theorem test_removal_lowers_the_granted_count :
    (after (exec .withdrawalAnswer removalAnswered) removalAnswered).lcu.granted = { t1 := 8, t2 := 4, t3 := 0 } := by
  decide +kernel

/-! ### Power Budget Unit: the worked figures of chapter 3 -/

def moduleOk (wr : Nat) (tin : Int) (available : Nat) : ModuleRec :=
  { State.reset.pbu.modules[0] with state := .ok, wr := wr, tin := tin, telemetry := .fresh, available := available }

def slotOn (i : Slot) (t3 t2 priority : Nat) : SlotEntry :=
  let tier := fun (q : Port) => if q.val % 32 < t3 then Tier.t3 else Tier.t2
  { State.reset.pbu.slots[0] with
    standing := .powered, ws := 300, wsb := 25, priority := priority
    ports := ((portsOf i).take (t3 + t2)).map (fun q => (q, tier q)) }

def trayAt (duty : Nat) : TrayEntry := { present := true, fmax := 80, duty := duty }

/-- The chassis of the worked example: bays 0–2 OK, six trays, slots 0–5 POWERED, slot 6 STANDBY. -/
def pbuBook : Pbu :=
  let slots := State.reset.pbu.slots
  let slots := setAt slots 0 (slotOn 0 0 32 7)
  let slots := setAt slots 1 (slotOn 1 0 32 6)
  let slots := setAt slots 2 (slotOn 2 20 6 5)
  let slots := setAt slots 3 (slotOn 3 20 12 4)
  let slots := setAt slots 4 (slotOn 4 0 32 1)
  let slots := setAt slots 5 (slotOn 5 0 32 0)
  let slots := setAt slots 6 { slotOn 6 0 0 3 with standing := .standby }
  let modules := State.reset.pbu.modules
  let modules := setAt modules 0 (moduleOk 2500 45 2187)
  let modules := setAt modules 1 (moduleOk 2500 38 2500)
  let modules := setAt modules 2 (moduleOk 2500 50 1875)
  { State.reset.pbu with
    modules := modules, slots := slots
    trays := Vector.ofFn (fun t : Fin 6 => trayAt (if t.val < 2 then 55 else if t.val < 4 then 62 else 40))
    usable := 4062, demand := 3065, redundancyLost := false, hold := false }

/-- Rotor 4 has stalled, and bay 0 has lost its input: H = −1310 and the machine is in GRACE. -/
def pbuOver : Pbu :=
  { pbuBook with
    modules := setAt pbuBook.modules 0 { moduleOk 2500 45 0 with state := .inputLost }
    trays := setAt (setAt pbuBook.trays 2 (trayAt 100)) 3 (trayAt 100)
    usable := 1875, demand := 3185, budget := .grace, graceTimer := .running 5000 }

def withPbu (p : Pbu) : State := { State.reset with pbu := p }

theorem pbuBook_sound : pbuBook.Sound := by constructor <;> decide +kernel

theorem pbuOver_sound : pbuOver.Sound := by constructor <;> decide +kernel

/-- The worked example's input loss of bay 0: U = 1875, D as it was, GRACE. -/
theorem test_input_loss_of_bay_0 :
    let s := withPbu { pbuBook with trays := pbuOver.trays, demand := 3185 }
    let t := (after (exec (.moduleLineChange 0 .inputOk false)
      { s with pins := { s.pins with outputOk := setAt s.pins.outputOk 0 true } }) s).pbu
    t.usable = 1875 ∧ t.demand = 3185 ∧ t.headroom = -1310 ∧ t.budget = .grace ∧ t.graceTimer = .running 5000 := by
  decide +kernel

/-- The worked example's grace expiry sheds slot 5: D = 2725, H = −850, SHEDDING. -/
theorem test_grace_expiry_sheds_slot_5 :
    let t := (after (exec .graceTimerExpiry (withPbu pbuOver)) State.reset).pbu
    t.demand = 2725 ∧ t.headroom = -850 ∧ t.budget = .shedding ∧ t.slots[(5 : Slot)].shedPending = true := by
  decide +kernel

/-- A claim of the PTU waits at the PBU. -/
def ptuClaims (m : PtuToPbu) : State :=
  { withPbu pbuBook with bus := { (withPbu pbuBook).bus with ptuPbu := [m] } }

def slsTells (m : SlsToPbu) : State :=
  { withPbu pbuBook with bus := { (withPbu pbuBook).bus with slsPbu := [m] } }

/-- ClaimsAreJudgedByTheHeadroom: H = 997; a port claim for the sleeping slot 6, a tier claim in slot 2, a wake claim for
slot 6, a slot claim of slot 7. -/
theorem witness_claims :
    pbuBook.Sound ∧ pbuBook.hold = false ∧ pbuBook.headroom = 997 ∧
      (ptuClaims (.portClaim 192 .t3)).bus.ptuPbu = .portClaim 192 .t3 :: [] ∧
      (∀ x ∈ pbuBook.slots[slotOf 192].ports, x.1 ≠ 192) ∧ pbuBook.slots[slotOf 192].standing = .standby ∧
      (ptuClaims (.tierClaim 64 .t3 .t2)).bus.ptuPbu = .tierClaim 64 .t3 .t2 :: [] ∧
      (64, Tier.t3) ∈ pbuBook.slots[slotOf 64].ports ∧
      (ptuClaims (.wakeClaim 6)).bus.ptuPbu = .wakeClaim 6 :: [] ∧
      (slsTells (.slotClaim 7 800 100)).bus.slsPbu = .slotClaim 7 800 100 :: [] :=
  ⟨pbuBook_sound, by decide +kernel, by decide +kernel, rfl, by decide +kernel, by decide +kernel, rfl,
    by decide +kernel, rfl, rfl⟩

def dutySays (r : DutyReport) (p : Pbu) : State :=
  { withPbu p with bus := { (withPbu p).bus with clcPbu := [r] } }

/-- ReleasesTakeEffectWhenTaken: one message for each clause, from the book's chassis. -/
theorem witness_releases :
    pbuBook.Sound ∧ (ptuClaims (.portRelease 0)).bus.ptuPbu = .portRelease 0 :: [] ∧
      (ptuClaims (.tierReturn 64 .t1)).bus.ptuPbu = .tierReturn 64 .t1 :: [] ∧
      (64, Tier.t3) ∈ pbuBook.slots[slotOf 64].ports ∧ pbuBook.policy.port.get .t1 ≤ pbuBook.policy.port.get .t3 ∧
      (slsTells (.stepDown 0)).bus.slsPbu = .stepDown 0 :: [] ∧
      (slsTells (.slotRelease 0)).bus.slsPbu = .slotRelease 0 :: [] ∧
      (dutySays { tray := 5, present := true, fmax := 200, duty := 100 } pbuBook).bus.clcPbu =
        { tray := 5, present := true, fmax := 200, duty := 100 } :: [] ∧
      0 ≤ (pbuBook.usable : Int) - demandOf pbuBook.policy.wb pbuBook.policy.port
        (setAt pbuBook.trays 5 { present := true, fmax := 200, duty := 100 }) pbuBook.slots ∧
      (slsTells (.priority 0 7)).bus.slsPbu = .priority 0 7 :: [] ∧
      (slsTells (.shedAnswer 0 true)).bus.slsPbu = .shedAnswer 0 true :: [] :=
  ⟨pbuBook_sound, rfl, rfl, by decide +kernel, by decide +kernel, rfl, rfl, rfl, by decide +kernel, rfl, rfl⟩

/-- The book's chassis with U at 3100. -/
def pbuTight : Pbu :=
  { pbuBook with
    modules := setAt pbuBook.modules 2 (moduleOk 913 40 913), usable := 3100 }

theorem pbuTight_sound : pbuTight.Sound := by constructor <;> decide +kernel

/-- No slot but the shed ones left: SHEDDING with no candidate. -/
def pbuBare : Pbu :=
  { State.reset.pbu with hold := false, budget := .shedding, intervalTimer := .running 1000 }

theorem pbuBare_sound : pbuBare.Sound := by constructor <;> decide +kernel

/-- ShedsTheLowestPriority: a duty report from WITHIN, the grace expiry with slot 5 the victim, and no candidate. -/
theorem witness_sheds :
    (pbuTight.Sound ∧ pbuTight.hold = false ∧ pbuTight.budget = .within ∧ pbuTight.policy.grace ≠ 0 ∧
      (pbuTight.usable : Int) - demandOf pbuTight.policy.wb pbuTight.policy.port
        (setAt pbuTight.trays 5 { present := true, fmax := 200, duty := 100 }) pbuTight.slots < 0) ∧
    (pbuOver.Sound ∧ pbuOver.budget = .grace ∧ pbuOver.graceTimer ≠ .runOut ∧
      pbuOver.slots[(5 : Slot)].standing ≠ .unpowered ∧
      ∀ i : Slot, pbuOver.slots[i].standing ≠ .unpowered → i ≠ 5 →
        pbuOver.slots[(5 : Slot)].priority < pbuOver.slots[i].priority) ∧
    pbuBare.Sound ∧ pbuBare.budget = .shedding ∧ pbuBare.intervalTimer ≠ .runOut ∧
      ∀ i : Slot, pbuBare.slots[i].standing = .unpowered :=
  ⟨⟨pbuTight_sound, by decide +kernel, by decide +kernel, by decide +kernel, by decide +kernel⟩,
    ⟨pbuOver_sound, by decide +kernel, by decide +kernel, by decide +kernel, by decide +kernel⟩,
    pbuBare_sound, by decide +kernel, by decide +kernel, by decide +kernel⟩

/-- Bay 3 IDENTIFYING, try n. -/
def pbuTrying (n : Nat) (retry : Timer) : Pbu :=
  let m := { State.reset.pbu.modules[(3 : Fin 4)] with state := .identifying, tryNo := some n, retryTimer := retry }
  { pbuBook with modules := setAt pbuBook.modules 3 m }

theorem pbuTrying_second_sound : (pbuTrying 2 (.running 100)).Sound := by constructor <;> decide +kernel

theorem pbuTrying_third_sound : (pbuTrying 3 .stopped).Sound := by constructor <;> decide +kernel

/-- Grace 0. -/
def pbuNoGrace : Pbu := { pbuTight with policy := { pbuTight.policy with grace := 0 } }

theorem pbuNoGrace_sound : pbuNoGrace.Sound := by constructor <;> decide +kernel

/-- Two modules of 200 W, a tray of 100 W, no slot powered, grace 0. -/
def pbuSmall : Pbu :=
  { State.reset.pbu with
    hold := false, usable := 400, demand := 250, redundancyLost := false
    modules := setAt (setAt State.reset.pbu.modules 0 (moduleOk 200 40 200)) 1 (moduleOk 200 40 200)
    trays := setAt State.reset.pbu.trays 5 { present := true, fmax := 100, duty := 100 }
    policy := { State.reset.pbu.policy with mode := .combined, grace := 0 } }

theorem pbuSmall_sound : pbuSmall.Sound := by constructor <;> decide +kernel

/-- ShedsTheLowestPriority and PowerPolicyIsClampedAndJudged, with a grace figure of 0: slot 5 is shed; two trays more
leave no candidate; a machine in GRACE; and a policy that asks for redundancy takes U to 200. -/
theorem witness_sheds_without_grace :
    (pbuNoGrace.Sound ∧ pbuNoGrace.hold = false ∧ pbuNoGrace.budget = .within ∧ pbuNoGrace.policy.grace = 0 ∧
      (pbuNoGrace.usable : Int) - demandOf pbuNoGrace.policy.wb pbuNoGrace.policy.port
        (setAt pbuNoGrace.trays 5 { present := true, fmax := 200, duty := 100 }) pbuNoGrace.slots < 0 ∧
      ∀ i : Slot, pbuNoGrace.slots[i].standing ≠ .unpowered → i ≠ 5 →
        pbuNoGrace.slots[(5 : Slot)].priority < pbuNoGrace.slots[i].priority) ∧
    (pbuSmall.Sound ∧ pbuSmall.budget = .within ∧ (∀ i : Slot, pbuSmall.slots[i].standing = .unpowered) ∧
      (pbuSmall.usable : Int) - demandOf pbuSmall.policy.wb pbuSmall.policy.port
        (setAt pbuSmall.trays 4 { present := true, fmax := 200, duty := 100 }) pbuSmall.slots < 0 ∧
      usableOf .nPlus1 pbuSmall.modules = 200) ∧
    pbuOver.budget ≠ .within ∧ (pbuOver.usable : Int) - demandOf pbuOver.policy.wb pbuOver.policy.port
      (setAt pbuOver.trays 5 { present := true, fmax := 200, duty := 100 }) pbuOver.slots < 0 := by
  refine ⟨⟨pbuNoGrace_sound, ?_⟩, ⟨pbuSmall_sound, ?_⟩, ?_⟩ <;> decide +kernel

/-- R58: with a grace figure of 0 the duty report sheds slot 5 at once. -/
theorem test_sheds_without_grace :
    let s := { withPbu pbuNoGrace with bus := { State.reset.bus with
      clcPbu := [{ tray := 5, present := true, fmax := 200, duty := 100 }] } }
    let t := after (exec .dutyReport s) State.reset
    t.pbu.slots[(5 : Slot)].shedPending = true ∧ t.bus.pbuSls = [.shedOrder 5] ∧ t.pbu.graceTimer = .stopped := by
  decide +kernel

/-- The words of LICENCE INSTALL, POWER POLICY and THERMAL PROFILE, each with one area and with a piece list. -/
theorem witness_data_tasks_taken :
    (∀ (v : Server) (w : TaskWord), (waiting v w (withPbu pbuBook)).bus.station v = { queue := [(3, w)], service := none }) ∧
      pbuBook.hold = false ∧ State.reset.pbu.hold = true ∧ (word 0x20 4 64 0 0x9000).is .licenceInstall = true ∧
      (word 0x30 0 32 0 0x9000).is .powerPolicy = true ∧ (word 0x50 4 48 0 0x9000).is .thermalProfile = true ∧
      (word 0x20 4 64 0 0x9000).list = true ∧ (word 0x30 0 32 0 0x9000).count.toNat ≠ 0 := by
  refine ⟨fun v w => ?_, by decide +kernel⟩
  cases v <;> rfl

def moduleAnswers (p : Pbu) (cmd : LineCommand) (o : LineOutcome) (b : Fin 4) : State :=
  { withPbu p with bus := { (withPbu p).bus with
      mlcPbu := [{ req := { who := .pbu, dev := .moduleBay b, cmd := cmd, tag := p.modules[b].epoch }, outcome := o }] } }

/-- ModuleIdentificationMakesThreeTries: presence of bay 3; a retry; a failed try and a third failure; 2000 W rated. -/
theorem witness_module_identification :
    pbuBook.Sound ∧ pbuBook.modules[(3 : Fin 4)].state = .absent ∧
      (pbuTrying 2 (.running 100)).Sound ∧
      (pbuTrying 2 (.running 100)).modules[(3 : Fin 4)].retryTimer = .running 100 ∧
      (pbuTrying 3 .stopped).Sound ∧ (pbuTrying 3 .stopped).modules[(3 : Fin 4)].state = .identifying ∧
      (pbuTrying 3 .stopped).modules[(3 : Fin 4)].tryNo = some 3 ∧ field [0xD0, 0x07] 0 2 = 2000 :=
  ⟨pbuBook_sound, by decide +kernel, pbuTrying_second_sound, by decide +kernel, pbuTrying_third_sound, by decide +kernel,
    by decide +kernel, by decide +kernel⟩

/-- The TB reports a bay's presence. -/
def bayReport (b : Fin 4) (present : Bool) : State :=
  { withPbu pbuBook with bus := { State.reset.bus with tbPbu := [(b, present)] } }

theorem witness_module_messages :
    (bayReport 3 true).bus.tbPbu = (3, true) :: [] ∧ (bayReport 0 false).bus.tbPbu = (0, false) :: [] ∧
      (moduleAnswers (pbuTrying 3 .stopped) .inventory (.ok [0xD0, 0x07]) 3).bus.mlcPbu =
        { req := { who := .pbu, dev := .moduleBay 3, cmd := .inventory
                   tag := (pbuTrying 3 .stopped).modules[(3 : Fin 4)].epoch }, outcome := .ok [0xD0, 0x07] } :: [] ∧
      (pbuTrying 3 .stopped).modules[(3 : Fin 4)].retryTimer = .stopped := by decide +kernel

/-- The book's chassis with the poll of bay 0 outstanding. -/
def pbuPolling : Pbu :=
  { pbuBook with modules := setAt pbuBook.modules 0 { pbuBook.modules[(0 : Fin 4)] with polls := [0] } }

theorem pbuPolling_sound : pbuPolling.Sound := by constructor <;> decide +kernel

theorem witness_module_polls :
    pbuPolling.Sound ∧ pbuPolling.modules[(0 : Fin 4)].state = .ok ∧
      pbuPolling.modules[(0 : Fin 4)].polls = [pbuPolling.modules[(0 : Fin 4)].epoch] ∧
      (moduleAnswers pbuPolling .telemetry .badCheck 0).bus.mlcPbu =
        { req := { who := .pbu, dev := .moduleBay 0, cmd := .telemetry, tag := pbuPolling.modules[(0 : Fin 4)].epoch }
          outcome := .badCheck } :: [] :=
  ⟨pbuPolling_sound, by decide +kernel, by decide +kernel, by decide +kernel⟩

/-- The 32 bytes of a power policy. -/
def policyBytes (mode wb t1 t2 t3 grace idle : Nat) : List Byte :=
  toLe 1 mode ++ zerosLe 1 ++ toLe 2 wb ++ toLe 1 t1 ++ toLe 1 t2 ++ toLe 1 t3 ++ toLe 1 grace ++ toLe 2 idle ++ zerosLe 22

def policySent (bytes : List Byte) (p : Pbu) : State := serving .pbu (word 0x30 0 32 0) bytes (withPbu p)

/-- PowerPolicyIsClampedAndJudged: a mode of none, a rise that does not fit, a policy that is clamped and taken. -/
theorem witness_power_policy :
    pbuBook.Sound ∧
      ((policySent (policyBytes 2 1500 4 3 40 61 60) pbuBook).bus.service .pbu).map (fun sv => sv.complete) = some true ∧
      field (policyBytes 0 150 4 5 7 5 0) 0 1 = 0 ∧
      997 < (demandOf 1000 { t1 := 30, t2 := 30, t3 := 30 } pbuBook.trays pbuBook.slots : Int) - pbuBook.demand ∧
      (demandOf 1000 { t1 := 4, t2 := 4, t3 := 4 } pbuBook.trays pbuBook.slots : Int) - pbuBook.demand ≤ 997 :=
  ⟨pbuBook_sound, by decide +kernel, by decide +kernel, by decide +kernel, by decide +kernel⟩

/-- The book's chassis in the start-up hold, with one slot claim held. -/
def pbuHeld : Pbu :=
  { pbuBook with hold := true, heldClaims := [.sls 7 800 100], awaited := Vector.replicate 4 true
                 finished := Vector.replicate 4 true }

def holdEnds : State := { withPbu pbuHeld with tb := { State.reset.tb with scanTold := true } }

theorem witness_startup_hold :
    holdEnds.pbu.Sound ∧ holdEnds.pbu.hold = true ∧ holdEnds.tb.scanTold = true ∧
      (∀ b : Fin 4, holdEnds.pbu.awaited[b] = true → holdEnds.pbu.finished[b] = true) ∧ 0 ≤ holdEnds.pbu.headroom ∧
      holdEnds.pbu.heldClaims = [.sls 7 800 100] ∧ holdEnds.pbu.slots[(7 : Slot)].standing = .unpowered ∧
      holdEnds.pbu.slots[(7 : Slot)].shedPending = false ∧ holdEnds.oldestWord .pbu = none :=
  ⟨by constructor <;> decide +kernel, by decide +kernel, by decide +kernel, by decide +kernel,
    by decide +kernel, by decide +kernel, by decide +kernel, by decide +kernel, by decide +kernel⟩

/-- A wake claim, a slot claim and a port claim held, in this order. -/
def threeHeld : State :=
  { holdEnds with pbu := { pbuHeld with heldClaims := [.ptu (.wakeClaim 6), .sls 7 800 100, .ptu (.portClaim 224 .t3)] } }

theorem witness_startup_hold_of_three :
    threeHeld.pbu.Sound ∧ threeHeld.pbu.hold = true ∧ threeHeld.tb.scanTold = true ∧
      (∀ b : Fin 4, threeHeld.pbu.awaited[b] = true → threeHeld.pbu.finished[b] = true) ∧ 0 ≤ threeHeld.pbu.headroom ∧
      threeHeld.pbu.heldClaims.length = 3 ∧ (∀ c ∈ threeHeld.pbu.heldClaims, c.command.isSome = true) ∧
      threeHeld.oldestWord .pbu = none :=
  ⟨by constructor <;> decide +kernel, by decide +kernel, by decide +kernel, by decide +kernel,
    by decide +kernel, by decide +kernel, by decide +kernel, by decide +kernel⟩

/-- R56: H is 997. The wake claim takes 275 of it first, so that the slot claim of 800 is refused, and the port claim,
for a slot that is UNPOWERED, needs nothing. -/
theorem test_held_claims_in_order :
    let t := after (exec .startupHoldRelease threeHeld) State.reset
    t.bus.pbuPtu = [{ grant := .grantedWithWake, amount := 275 }, { grant := .granted, amount := 0 }] ∧
      t.bus.pbuSls = [.claimAnswer 7 false 0] ∧ t.pbu.headroom = 722 := by decide +kernel

/-! ### Slot Sequencer -/

def blade : Inventory := { ws := 300, wsb := 25, maxTier := .t3, blade := 7 }

def emptySlot : SlotRec := State.reset.sls.slots[0]

def slotIn (st : SlotState) : SlotRec := { emptySlot with state := st, inventory := some blade }

def onlineSlot : SlotRec := { slotIn .online with railEn := #v[true, true, true], inUse := true }

def standbySlot : SlotRec := { slotIn .standby with railEn := #v[true, false, false] }

def rampingSlot (n : Fin 3) : SlotRec :=
  { slotIn .powering with
    ramp := some { phase := .railWait n, waking := false }, rampTimer := .running 100
    railEn := Vector.ofFn (fun j => decide (j ≤ n)) }

def settlingSlot : SlotRec :=
  { slotIn .powering with
    ramp := some { phase := .settle, waking := false }, rampTimer := .running 200, railEn := #v[true, true, true] }

def idleSlot : SlotRec := { onlineSlot with inUse := false, idleTimer := .running 600000 }

def tryingSlot (n : Nat) (swept : Bool) (retry : Timer) : SlotRec :=
  { emptySlot with
    state := .identifying, ident := some { tryNo := n, sweepPending := swept, byTask := false }, retryTimer := retry
    inventory := if swept then some blade else none }

def claimingSlot (st : SlotState) (withdrawn : Bool) : SlotRec :=
  { slotIn st with
    claim := some { origin := .autoOn, fromState := st, withdrawn := withdrawn }
    railEn := if st = .standby then #v[true, false, false] else #v[false, false, false] }

/-- Slot 5 as given, the others as after reset, with an idle time of 10 minutes. -/
def slotFive (r : SlotRec) : Sls := { State.reset.sls with slots := setAt State.reset.sls.slots 5 r, idleMinutes := 10 }

def withSls (r : SlotRec) (b : Bus := State.reset.bus) : State := { State.reset with sls := slotFive r, bus := b }

theorem emptySlot_sound (i : Slot) : State.reset.sls.slots[i].Sound 10 := by
  constructor <;> revert i <;> decide +kernel

/-- Slot 5 sound makes all sound. -/
theorem slotFive_sound {r : SlotRec} (h : r.Sound 10) : (slotFive r).Sound := by
  intro i
  by_cases e : i = 5
  · subst e; exact h
  · have : (slotFive r).slots[i] = State.reset.sls.slots[i] := by
      have : (5 : Nat) ≠ i.val := fun h => e (Fin.ext h.symm)
      simp [slotFive, setAt, this]
    rw [this]; exact emptySlot_sound i

theorem slots_sound :
    ∀ r ∈ [emptySlot, slotIn .off, onlineSlot, standbySlot, rampingSlot 1, settlingSlot, idleSlot, tryingSlot 3 false .stopped,
      tryingSlot 2 false (.running 100), tryingSlot 1 true .stopped, claimingSlot .off false, claimingSlot .off true,
      claimingSlot .standby false, { slotIn .shed with inUse := true }], (slotFive r).Sound := by
  intro r h
  apply slotFive_sound
  constructor <;> revert r <;> decide +kernel

def mlcToSls (o : LineOutcome) : Bus :=
  { State.reset.bus with mlcSls := [{ req := { who := .sls, dev := .slotMemory 5, cmd := .inventory, tag := 0 }, outcome := o }] }

/-- SlotIdentificationMakesThreeTries: presence of slot 5, a retry, and an answer to its third try. -/
theorem witness_slot_identification :
    (withSls emptySlot { State.reset.bus with tbSls := [(5, true)] }).sls.Sound ∧
      (withSls emptySlot { State.reset.bus with tbSls := [(5, true)] }).bus.tbSls = (5, true) :: [] ∧
      (withSls emptySlot).sls.slots[(5 : Slot)].state = .empty ∧
      (withSls (tryingSlot 2 false (.running 100))).sls.slots[(5 : Slot)].retryTimer = .running 100 ∧
      (withSls (tryingSlot 3 false .stopped) (mlcToSls .noAnswer)).sls.Sound ∧
      (withSls (tryingSlot 3 false .stopped) (mlcToSls .noAnswer)).bus.mlcSls =
        { req := { who := .sls, dev := .slotMemory 5, cmd := .inventory
                   tag := (withSls (tryingSlot 3 false .stopped)).sls.slots[(5 : Slot)].epoch }, outcome := .noAnswer } :: [] ∧
      (withSls (tryingSlot 3 false .stopped)).sls.slots[(5 : Slot)].ident =
        some { tryNo := 3, sweepPending := false, byTask := false } ∧
      (withSls (tryingSlot 3 false .stopped)).sls.slots[(5 : Slot)].retryTimer = .stopped ∧
      field [0x2C, 0x01, 25, 3, 7] 0 2 = 300 :=
  ⟨slots_sound _ (by decide +kernel), rfl, rfl, rfl, slots_sound _ (by decide +kernel), rfl, rfl, rfl, by decide +kernel⟩

/-- AdmissionFollowsTheClaimAnswer: a sweep answered, a claim granted or refused in OFF, a withdrawn claim. -/
theorem witness_admission :
    (withSls (tryingSlot 1 true .stopped) { State.reset.bus with ptuSls := [.sweepDone 5 0] }).sls.Sound ∧
      (withSls (tryingSlot 1 true .stopped)).sls.slots[(5 : Slot)].epoch = 0 ∧
      (withSls (tryingSlot 1 true .stopped)).sls.slots[(5 : Slot)].inventory = some blade ∧
      (withSls (tryingSlot 1 true .stopped)).sls.slots[(5 : Slot)].claim = none ∧
      (withSls (claimingSlot .off false)).sls.Sound ∧ (withSls (claimingSlot .off true)).sls.Sound ∧
      (withSls (claimingSlot .off false) { State.reset.bus with pbuSls := [.claimAnswer 5 true 300] }).bus.pbuSls =
        .claimAnswer 5 true 300 :: [] ∧
      (withSls (claimingSlot .off false)).sls.slots[(5 : Slot)].claim =
        some { origin := .autoOn, fromState := .off, withdrawn := false } ∧
      (withSls (claimingSlot .off false)).sls.slots[(5 : Slot)].state = .off ∧
      (withSls (claimingSlot .off false)).sls.slots[(5 : Slot)].deferred = none ∧
      (withSls (claimingSlot .off false)).sls.slots[(5 : Slot)].orphanTask = false :=
  ⟨slots_sound _ (by decide +kernel), rfl, rfl, rfl, slots_sound _ (by decide +kernel), slots_sound _ (by decide +kernel),
    rfl, rfl, rfl, rfl, rfl⟩

/-- RampsConfirmEachRail: rail 1 waited for, SETTLE, and an ONLINE slot whose rail 2 may fall. -/
theorem witness_ramps :
    (withSls (rampingSlot 1)).sls.Sound ∧
      (withSls (rampingSlot 1)).sls.slots[(5 : Slot)].ramp = some { phase := .railWait 1, waking := false } ∧
      (withSls (rampingSlot 1)).sls.slots[(5 : Slot)].rampTimer = .running 100 ∧
      (withSls settlingSlot).sls.Sound ∧
      (withSls settlingSlot).sls.slots[(5 : Slot)].ramp = some { phase := .settle, waking := false } ∧
      (withSls settlingSlot).sls.slots[(5 : Slot)].rampTimer = .running 200 ∧
      (withSls onlineSlot).sls.Sound ∧ (withSls onlineSlot).sls.slots[(5 : Slot)].state = .online :=
  ⟨slots_sound _ (by decide +kernel), rfl, rfl, slots_sound _ (by decide +kernel), rfl, rfl, slots_sound _ (by decide +kernel), rfl⟩

/-- IdleSlotsSleepAndWake: a notice, a new idle time, the idle timer of slot 5, a wake request. -/
theorem witness_idle :
    (withSls onlineSlot { State.reset.bus with ptuSls := [.useNotice 5 false] }).sls.Sound ∧
      (withSls onlineSlot { State.reset.bus with ptuSls := [.useNotice 5 false] }).bus.ptuSls = .useNotice 5 false :: [] ∧
      (withSls onlineSlot { State.reset.bus with pbuSls := [.idleTime 240] }).bus.pbuSls = .idleTime 240 :: [] ∧
      (withSls idleSlot).sls.Sound ∧ (withSls idleSlot).sls.slots[(5 : Slot)].idleTimer = .running 600000 ∧
      (withSls standbySlot { State.reset.bus with ptuSls := [.wake 5] }).sls.Sound ∧
      (withSls standbySlot { State.reset.bus with ptuSls := [.wake 5] }).bus.ptuSls = .wake 5 :: [] ∧
      (withSls standbySlot).sls.slots[(5 : Slot)].state = .standby ∧
      (withSls onlineSlot).sls.slots[(5 : Slot)].state ≠ .standby :=
  ⟨slots_sound _ (by decide +kernel), rfl, rfl, slots_sound _ (by decide +kernel), rfl, slots_sound _ (by decide +kernel), rfl, rfl,
    by decide +kernel⟩

def slotPower (slot dir : Nat) : TaskWord := word 0x40 0 0 (slot + 256 * dir)

def slotConfigWord (slot priority auto : Nat) : TaskWord := word 0x41 0 0 (slot + 256 * priority + 65536 * auto)

def thermalSlot : SlotRec := slotIn .thermalOff

def hotSls : State := { withSls thermalSlot with sls := { slotFive thermalSlot with hot := #v[false, true] } }

theorem hotSls_sound : hotSls.sls.Sound := by
  have h : (slotFive thermalSlot).Sound := slotFive_sound (by constructor <;> decide +kernel)
  exact h

/-- SlotTasksActByTheState: ON of an OFF slot and of a hot THERMAL_OFF slot, OFF of an ONLINE slot, a priority of 9. -/
theorem witness_slot_tasks :
    (∀ w ∈ [slotPower 5 1, slotPower 5 2, slotConfigWord 5 9 1],
      (waiting .sls w (withSls (slotIn .off))).bus.station .sls = { queue := [(3, w)], service := none } ∧
        w.bits 0 8 = (5 : Slot).val) ∧
    (waiting .sls (slotPower 5 1) (withSls (slotIn .off))).sls.Sound ∧
    (withSls (slotIn .off)).sls.slots[(5 : Slot)].claim = none ∧ (withSls (slotIn .off)).sls.slots[(5 : Slot)].state = .off ∧
    (withSls (slotIn .off)).sls.slots[(5 : Slot)].inventory = some blade ∧
    (slotPower 5 1).is .slotPower = true ∧ (slotPower 5 1).bits 8 8 = 1 ∧ (slotPower 5 2).bits 8 8 = 2 ∧
    (slotConfigWord 5 9 1).is .slotConfig = true ∧
    (waiting .sls (slotPower 5 2) (withSls onlineSlot)).sls.Sound ∧
    hotSls.sls.Sound ∧ hotSls.sls.slots[(5 : Slot)].state = .thermalOff ∧ hotSls.sls.hot[zoneOfSlot 5] = true :=
  ⟨by decide +kernel, slots_sound _ (by decide +kernel), rfl, rfl, rfl, by decide +kernel, by decide +kernel, by decide +kernel,
    by decide +kernel, slots_sound _ (by decide +kernel), hotSls_sound, by decide +kernel, by decide +kernel⟩

/-- OrdersAndRemovalDropThePower: each order, a hot flag and a loss, on an ONLINE and on an OFF slot. -/
theorem witness_orders :
    (withSls onlineSlot { State.reset.bus with pbuSls := [.shedOrder 5] }).bus.pbuSls = .shedOrder 5 :: [] ∧
      (withSls onlineSlot { State.reset.bus with clcSls := [.thermalOff 5] }).bus.clcSls = .thermalOff 5 :: [] ∧
      (withSls onlineSlot { State.reset.bus with clcSls := [.hotFlag 1 true] }).bus.clcSls = .hotFlag 1 true :: [] ∧
      (withSls onlineSlot { State.reset.bus with tbSls := [(5, false)] }).bus.tbSls = (5, false) :: [] ∧
      (withSls onlineSlot).sls.Sound ∧ (withSls (slotIn .off)).sls.Sound ∧
      (withSls onlineSlot).sls.slots[(5 : Slot)].state = .online ∧ (withSls (slotIn .off)).sls.slots[(5 : Slot)].state = .off ∧
      (withSls onlineSlot).sls.slots[(5 : Slot)].ident = none :=
  ⟨rfl, rfl, rfl, rfl, slots_sound _ (by decide +kernel), slots_sound _ (by decide +kernel), rfl, rfl, rfl⟩

/-- The claim in flight is a SLOT POWER's. -/
def taskClaim (st : SlotState) (withdrawn : Bool) : SlotRec :=
  { claimingSlot st withdrawn with claim := some { origin := .task, fromState := st, withdrawn := withdrawn } }

/-- A wake request has woken the slot whose claim, made from STANDBY, is in flight. -/
def wokenClaim : SlotRec :=
  { rampingSlot 1 with claim := some { origin := .task, fromState := .standby, withdrawn := false } }

/-- A SLOT POWER waits behind a withdrawn claim. -/
def deferredSlot (r : SlotRec) : SlotRec :=
  { r with claim := some { origin := .autoOn, fromState := .off, withdrawn := true }, deferred := some .task }

/-- An identification that a SLOT POWER started. -/
def askedSlot (n : Nat) (swept : Bool) : SlotRec :=
  { tryingSlot n swept .stopped with ident := some { tryNo := n, sweepPending := swept, byTask := true } }

def unreadSlot : SlotRec := { emptySlot with state := .fault, cause := .inventory }

def railSlot : SlotRec := { slotIn .fault with cause := .rail 1 }

theorem task_slots_sound :
    ∀ r ∈ [taskClaim .off false, taskClaim .standby false, taskClaim .off true, wokenClaim, deferredSlot (slotIn .off),
      deferredSlot emptySlot, askedSlot 1 true, askedSlot 3 false, unreadSlot, railSlot], (slotFive r).Sound := by
  intro r h
  apply slotFive_sound
  constructor <;> revert r <;> decide +kernel

/-- AdmissionFollowsTheClaimAnswer, SlotIdentificationMakesThreeTries and OrdersAndRemovalDropThePower where a SLOT POWER
waits: on an identification, on a claim answered in its state, in POWERING and withdrawn, and behind a withdrawn claim of a
slot that can be admitted and of one that cannot. -/
theorem witness_slot_task_answers :
    (∀ r ∈ [taskClaim .off false, taskClaim .standby false, taskClaim .off true, wokenClaim, deferredSlot (slotIn .off),
      deferredSlot emptySlot, askedSlot 1 true, askedSlot 3 false], (withSls r).sls.Sound) ∧
    (∀ r ∈ [taskClaim .off false, taskClaim .standby false, taskClaim .off true, wokenClaim],
      (withSls r { State.reset.bus with pbuSls := [.claimAnswer 5 true 300] }).bus.pbuSls = [.claimAnswer 5 true 300] ∧
      r.claim.all (fun k => k.origin == .task) = true ∧ r.claim.isSome = true ∧ r.deferred = none ∧ r.orphanTask = false) ∧
    (wokenClaim.state = .powering ∧ (taskClaim .off true).claim.all (fun k => k.withdrawn) = true) ∧
    (deferredSlot (slotIn .off)).deferred = some .task ∧ (deferredSlot (slotIn .off)).inventory = some blade ∧
    (deferredSlot emptySlot).state = .empty ∧
    (askedSlot 1 true).ident = some { tryNo := 1, sweepPending := true, byTask := true } ∧
    (askedSlot 3 false).ident = some { tryNo := 3, sweepPending := false, byTask := true } :=
  ⟨fun r h => task_slots_sound r (by revert r; decide +kernel), by decide +kernel, by decide +kernel, rfl, rfl, rfl, rfl, rfl⟩

/-- R67, R77: the answer GRANTED with 300 W to a SLOT POWER of a slot in OFF closes it with ADMITTED (2), POWERING (4), the
amount and cause NONE. -/
theorem test_task_admission_closes :
    let s := serving .sls (slotPower 5 1) [] (withSls (taskClaim .off false))
    let s := { s with bus := { s.bus with pbuSls := [.claimAnswer 5 true 300] } }
    (after (exec .slotClaimAnswer s) s).bus.outcomes.map (fun m => (m.cls, m.details)) =
      [(.normal, details 2 4 300 0)] := by decide +kernel

/-- SlotTasksActByTheState: the identification again, NO_SLOT, NO_CHANGE, a claim taken over or withdrawn, a task deferred,
a claim without an inventory, and words that are refused with BAD_PARAMETER. -/
theorem witness_slot_tasks_by_the_row :
    (∀ r ∈ [unreadSlot, railSlot, emptySlot, onlineSlot, slotIn .off, claimingSlot .off false, claimingSlot .off true,
      { slotIn .off with inventory := none }], ∀ w ∈ [slotPower 5 1, slotPower 5 2, slotPower 5 3, slotPower 8 1,
      slotPower 255 2, slotConfigWord 8 9 1],
      (waiting .sls w (withSls r)).bus.station .sls = { queue := [(3, w)], service := none }) ∧
    (slotPower 5 3).bits 8 8 ≠ 1 ∧ (slotPower 5 3).bits 8 8 ≠ 2 ∧ 8 ≤ (slotPower 8 1).bits 0 8 ∧
    8 ≤ (slotPower 255 2).bits 0 8 ∧ 8 ≤ (slotConfigWord 8 9 1).bits 0 8 ∧
    (withSls unreadSlot).sls.Sound ∧ (withSls railSlot).sls.Sound ∧ (withSls (claimingSlot .off true)).sls.Sound :=
  ⟨by decide +kernel, by decide +kernel, by decide +kernel, by decide +kernel, by decide +kernel, by decide +kernel,
    task_slots_sound _ (by decide +kernel), task_slots_sound _ (by decide +kernel), slots_sound _ (by decide +kernel)⟩

/-- R76: a priority of 9 is taken as 7, and the details are 7, 1, 1 and the slot's state (OFF is 3). -/
theorem test_slot_config_clamps :
    let s := waiting .sls (slotConfigWord 5 9 1) (withSls (slotIn .off))
    (after (exec .slotConfig s) s).bus.outcomes.map (fun m => m.details) = [details 7 1 1 3] := by decide +kernel

/-! ### Cooling Controller -/

def runningTray (duty : Nat) : TrayRec :=
  { State.reset.clc.trays[0] with
    state := .running, source := .identified, fmax := 80, rmax := 12000, duty := duty, pwmLatch := 10 * duty }

def okRotor (pulses : Nat) : RotorRec :=
  { State.reset.clc.rotors[0] with
    state := .ok, pulses := pulses, windowDuty := some 70, stallTimer := .running 500, armed := true }

def zoneAt (duty : Nat) : ZoneRec := { State.reset.clc.zones[0] with tz := some 41, duty := duty, boosted := false }

/-- Every tray RUNNING at duty 80, every rotor OK with 250 pulses in a window of duty 70, sensor 0 at 41 °C. -/
def clcBook : Clc :=
  { State.reset.clc with
    sensors := setAt State.reset.clc.sensors 0 { State.reset.clc.sensors[0] with value := 41 }
    zones := Vector.replicate 3 (zoneAt 80)
    trays := Vector.replicate 6 (runningTray 80)
    rotors := Vector.replicate 12 (okRotor 250) }

/-- The checks of Clc.Sound that a computation settles. -/
def clcChecks (c : Clc) : Bool :=
  ((indices 3).all fun z => decide (c.profile[z].tlow < c.profile[z].thigh ∧ c.profile[z].twarn < c.profile[z].tcrit)) &&
  ((indices 3).all fun z =>
    decide (20 ≤ c.profile[z].dmin ∧ c.profile[z].dmin ≤ c.profile[z].dmax ∧ c.profile[z].dmax ≤ 100)) &&
  ((indices 8).all fun n => decide (c.sensors[n].state = .absent ↔ c.mask.getLsbD n.val = false)) &&
  ((indices 3).all fun z => c.zones[z].boosted == boostCondition c z) &&
  ((indices 3).all fun z => !c.zones[z].boosted || c.zones[z].duty == 100) &&
  ((indices 3).all fun z => decide (c.profile[z].dmin ≤ c.zones[z].duty ∧ c.zones[z].duty ≤ 100)) &&
  ((indices 6).all fun t => decide (c.zones[zoneOfTray t].duty ≤ c.trays[t].duty ∧ c.trays[t].duty ≤ 100)) &&
  ((indices 6).all fun t => c.trays[t].state == .running || c.trays[t].duty == 100) &&
  ((indices 6).all fun t => c.trays[t].pwmLatch == 10 * c.trays[t].duty) &&
  ((indices 12).all fun k => match c.trays[trayOfRotor k].state with
    | .absent | .identifying => c.rotors[k].state == .absent
    | .spinup => c.rotors[k].state == .spinup
    | .running => c.rotors[k].state == .ok || c.rotors[k].state == .slow || c.rotors[k].state == .stalled) &&
  ((indices 12).all fun k => decide (c.rotors[k].armed = true ↔ c.trays[trayOfRotor k].state = .running)) &&
  ((indices 3).all fun z => decide (c.zones[z].holdTimer ≠ .stopped ↔ c.zones[z].thermal = .holding))

theorem clcSound_of_checks {c : Clc} (h : clcChecks c = true) : c.Sound := by
  have hall : ∀ {n : Nat} {p : Fin n → Bool}, (indices n).all p = true → ∀ i, p i = true :=
    fun h i => List.all_eq_true.1 h i (List.mem_finRange i)
  unfold clcChecks at h
  simp only [Bool.and_eq_true] at h
  obtain ⟨⟨⟨⟨⟨⟨⟨⟨⟨⟨⟨h1, h2⟩, h3⟩, h4⟩, h5⟩, h6⟩, h7⟩, h8⟩, h9⟩, h10⟩, h11⟩, h12⟩ := h
  exact {
    profile_order := fun z => of_decide_eq_true (hall h1 z)
    profile_duty := fun z => of_decide_eq_true (hall h2 z)
    sensor_mask := fun n => of_decide_eq_true (hall h3 n)
    boosted_right := fun z => by
      rw [beq_iff_eq.1 (hall h4 z)]
      simp [boostCondition, Clc.mustBoost, traysOf, rotorsOf, indices, or_assoc]
    boosted_duty := fun z hb => by
      have := hall h5 z
      simp only [hb, Bool.not_true, Bool.false_or, beq_iff_eq] at this
      exact this
    zone_duty := fun z => of_decide_eq_true (hall h6 z)
    tray_duty := fun t => of_decide_eq_true (hall h7 t)
    tray_full := fun t ht => by
      have := hall h8 t
      simp only [Bool.or_eq_true, beq_iff_eq] at this
      exact this.resolve_left ht
    latch_right := fun t => beq_iff_eq.1 (hall h9 t)
    rotor_tray := fun k => by
      have := hall h10 k
      revert this
      cases c.trays[trayOfRotor k].state <;> simp [or_assoc]
    rotor_armed := fun k => of_decide_eq_true (hall h11 k)
    hold_timer := fun z => of_decide_eq_true (hall h12 z) }

def withClc (c : Clc) (b : Bus := State.reset.bus) : State := { State.reset with clc := c, bus := b }

/-- For the tick's statements: RotorsAreJudgedAndSupervised and ThermalStateFollowsTheTable have no hypothesis on it but at
most this one. -/
theorem witness_cycle_tick : (withClc clcBook).clc.Sound := clcSound_of_checks (by decide +kernel)

/-- CycleTickSetsTheDuties, with a live module that a tick polls. -/
theorem witness_cycle_tick_polls :
    ({ withClc clcBook with pbu := pbuBook } : State).clc.Sound ∧
      ({ withClc clcBook with pbu := pbuBook } : State).pbu.Sound ∧
      pbuBook.modules[(0 : Fin 4)].state = .ok ∧ pbuBook.modules[(0 : Fin 4)].polls = [] :=
  ⟨witness_cycle_tick, pbuBook_sound, by decide +kernel, by decide +kernel⟩

/-- R99, R84: at Twarn (55 °C after reset) TEMP_HIGH is raised for Z0, and the eight sensors are read. -/
theorem test_tick_warns_and_reads :
    let c := { clcBook with sensors := setAt clcBook.sensors 0 { clcBook.sensors[0] with value := 55 } }
    let t := after (exec .cycleTick (withClc c)) State.reset
    (t.bus.toAtu, t.bus.toMlc.length, t.clc.zones[(0 : Fin 3)].high) =
      (State.reset.bus.toAtu ++ [{ raised := true, kind := .tempHigh, object := 0 }], 8, true) := by decide +kernel

def holdingZone : Clc :=
  { clcBook with zones := setAt clcBook.zones 1 { zoneAt 80 with tz := some 66, thermal := .holding, holdTimer := .running 10000 } }

theorem witness_hold_timer :
    (withClc clcBook).clc.zones[(1 : Fin 3)].thermal ≠ .holding ∧
    (withClc holdingZone).clc.zones[(1 : Fin 3)].thermal = .holding ∧
      (withClc holdingZone).clc.zones[(1 : Fin 3)].holdTimer = .running 10000 := by decide +kernel

def sensorSays (o : LineOutcome) (r : SensorRec) : State :=
  withClc { clcBook with sensors := setAt clcBook.sensors 6 r }
    { State.reset.bus with mlcClc := [{ req := { who := .clc, dev := .sensor 6, cmd := .read, tag := 0 }, outcome := o }] }

def heldSensor (st : SensorState) (stale : Nat) : SensorRec :=
  { state := st, value := 25, readOutstanding := true, staleReads := stale }

/-- SensorFollowsItsReads: a stale answer, a good one to a FAILED sensor, a failed one to HELD(2). -/
theorem witness_sensor :
    (sensorSays .noAnswer (heldSensor .held2 0)).bus.mlcClc =
        { req := { who := .clc, dev := .sensor 6, cmd := .read, tag := 0 }, outcome := .noAnswer } :: [] ∧
      0 < (sensorSays .noAnswer (heldSensor .ok 1)).clc.sensors[(6 : Fin 8)].staleReads ∧
      (sensorSays .noAnswer (heldSensor .held2 0)).clc.sensors[(6 : Fin 8)].staleReads = 0 ∧
      (sensorSays .noAnswer (heldSensor .held2 0)).clc.sensors[(6 : Fin 8)].state ≠ .absent ∧
      signed16 (field [0xD8, 0xFF] 0 2) = -40 := by decide +kernel

/-- Tray 2 in SPINUP, one rotor turning and one not. -/
def spinningTray : Clc :=
  let r := { okRotor 0 with state := RotorState.spinup, armed := false, windowDuty := none }
  { clcBook with
    trays := setAt clcBook.trays 2 { runningTray 100 with state := .spinup, spinTimer := .running 5000 }
    rotors := setAt (setAt clcBook.rotors 4 r) 5 { r with stallTimer := .runOut } }

theorem witness_rotors :
    (withClc clcBook).clc.Sound ∧ (withClc clcBook).clc.rotors[(4 : Fin 12)].stallTimer = .running 500 ∧
      (withClc clcBook).clc.rotors[(4 : Fin 12)].armed = true ∧ (withClc clcBook).clc.rotors[(4 : Fin 12)].state = .ok ∧
      (withClc spinningTray).clc.Sound ∧ (withClc spinningTray).clc.trays[(2 : Fin 6)].state = .spinup ∧
      (withClc spinningTray).clc.trays[(2 : Fin 6)].spinTimer = .running 5000 :=
  ⟨clcSound_of_checks (by decide +kernel), by decide +kernel, by decide +kernel, by decide +kernel,
    clcSound_of_checks (by decide +kernel), by decide +kernel, by decide +kernel⟩

/-- Section 5.10, tick 7: the third good window makes the stalled rotor OK, with good run 0. -/
theorem test_third_good_window :
    let r := { okRotor 40000 with state := RotorState.stalled, goodRun := 2 }
    let c := { clcBook with rotors := setAt clcBook.rotors 4 r }
    let t := (after (exec .cycleTick (withClc c)) State.reset).clc.rotors[(4 : Fin 12)]
    t.state = .ok ∧ t.goodRun = 0 := by decide +kernel

/-- Tray 3 out of the book's chassis, its zone boosted, in a given state. -/
def trayOut (st : TrayState) (n : Option Nat) (retry : Timer) : Clc :=
  let gone := { State.reset.clc.rotors[(0 : Fin 12)] with pulses := 7 }
  let tray := { State.reset.clc.trays[(3 : Fin 6)] with state := st, tryNo := n, retryTimer := retry }
  { clcBook with
    zones := setAt clcBook.zones 1 { zoneAt 100 with boosted := true }
    trays := setAt (setAt clcBook.trays 2 (runningTray 100)) 3 tray
    rotors := setAt (setAt clcBook.rotors 6 gone) 7 gone }

def tbToClc (t : Fin 6) (present : Bool) : Bus := { State.reset.bus with tbClc := [(t, present)] }

def mlcToClc (o : LineOutcome) : Bus :=
  { State.reset.bus with
    mlcClc := [{ req := { who := .clc, dev := .tray 3, cmd := .inventory, tag := 0 }, outcome := o }] }

theorem witness_trays :
    (withClc clcBook (tbToClc 2 false)).clc.Sound ∧ (withClc clcBook (tbToClc 2 false)).bus.tbClc = (2, false) :: [] ∧
      (withClc (trayOut .absent none .stopped) (tbToClc 3 true)).clc.Sound ∧
      (withClc (trayOut .absent none .stopped) (tbToClc 3 true)).bus.tbClc = (3, true) :: [] ∧
      (withClc (trayOut .absent none .stopped)).clc.trays[(3 : Fin 6)].state = .absent ∧
      (withClc (trayOut .identifying (some 2) (.running 100))).clc.Sound ∧
      (withClc (trayOut .identifying (some 2) (.running 100))).clc.trays[(3 : Fin 6)].retryTimer = .running 100 ∧
      (withClc (trayOut .identifying (some 3) .stopped) (mlcToClc .badCheck)).clc.Sound ∧
      (withClc (trayOut .identifying (some 3) .stopped) (mlcToClc .badCheck)).bus.mlcClc =
        { req := { who := .clc, dev := .tray 3, cmd := .inventory
                   tag := (trayOut .identifying (some 3) .stopped).trays[(3 : Fin 6)].epoch }, outcome := .badCheck } :: [] ∧
      (withClc (trayOut .identifying (some 3) .stopped)).clc.trays[(3 : Fin 6)].tryNo = some 3 ∧
      field [0x50, 0, 0xE0, 0x2E] 0 2 = 80 ∧ field [0x50, 0, 0xE0, 0x2E] 2 2 = 12000 :=
  ⟨clcSound_of_checks (by decide +kernel), rfl, clcSound_of_checks (by decide +kernel), rfl, by decide +kernel,
    clcSound_of_checks (by decide +kernel), by decide +kernel, clcSound_of_checks (by decide +kernel),
    by decide +kernel, by decide +kernel, by decide +kernel, by decide +kernel⟩

/-- R81, R93: the end of the wait for the next try requests it and changes no field that the page shows. -/
theorem test_tray_retry_marks_nothing :
    let t := after (exec (.trayRetryTimer 3) (withClc (trayOut .identifying (some 2) (.running 100)))) State.reset
    t.bus.toSpw = [] ∧ t.bus.toMlc.length = 1 := by decide +kernel

/-- One zone's 12 bytes of a thermal profile. -/
def zoneBytes (tlow thigh twarn tcrit : Int) (dmin dmax : Nat) : List Byte :=
  toLeSigned16 tlow ++ toLeSigned16 thigh ++ toLeSigned16 twarn ++ toLeSigned16 tcrit ++ toLe 1 dmin ++ toLe 1 dmax ++ zerosLe 2

def profileBytes (z1 : List Byte) (mask : Nat) : List Byte :=
  zoneBytes (-50) 200 55 65 10 255 ++ z1 ++ zoneBytes 30 50 55 65 85 90 ++ toLe 1 mask ++ zerosLe 11

def profileSent (z1 : List Byte) (mask : Nat) : State :=
  serving .clc (word 0x50 0 48 0) (profileBytes z1 mask) (withClc clcBook)

theorem witness_thermal_profile :
    (profileSent (zoneBytes 30 50 55 65 30 90) 0xFE).clc.Sound ∧
      (((profileSent (zoneBytes 30 50 55 65 30 90) 0xFE).bus.service .clc).map fun sv => sv.complete) = some true ∧
      (((profileSent (zoneBytes 50 50 55 65 30 90) 0xFE).bus.service .clc).map fun sv => sv.complete) = some true :=
  ⟨clcSound_of_checks (by decide +kernel), by decide +kernel, by decide +kernel⟩

/-- R88: Tz 41 gives a target of 63 under the default profile, and the rate limit makes 75 of a previous 80. -/
theorem test_tick_falls_by_five :
    (after (exec .cycleTick (withClc clcBook)) State.reset).clc.zones[(0 : Fin 3)].duty = 75 := by decide +kernel

/-- R88: the table of targets for Tz 41, 42 and 45. -/
theorem test_targets_of_the_table :
    [41, 42, 45].map (fun t => rampDuty State.reset.clc.profile[0] t) = [63, 66, 75] := by decide +kernel

/-- R95: Rmax 12000 at duty 70 expects 5880 rpm. -/
theorem test_expected_rpm : expectedRpm 12000 70 = 5880 := by decide

/-! ### Zoning Unit -/

/-- The two zones of section 6.9, with generation 7. -/
def setSeven : ZoneSet :=
  { access := .none, gen := 7, zones := [zoneOf 10 [0, 1, 32], zoneOf 20 [40, 41, 200]] }

/-- The staged set of section 6.9 after task C. -/
def setNine : ZoneSet := { access := .none, gen := 9, zones := [zoneOf 20 [40, 41], zoneOf 30 [1, 40, 201]] }

def withZnu (z : Znu) : State := { State.reset with znu := z }

def znuBook : Znu := { State.reset.znu with active := setSeven, staged := setSeven }

theorem zoneSetSound_of_checks {x : ZoneSet} (h : decide (x.zones.length ≤ 64 ∧
    (x.zones.map (fun z => z.id)).Pairwise (· < ·) ∧ (∀ z ∈ x.zones, z.id ≤ 1023) ∧
    (∀ z ∈ x.zones, z.members ≠ []) ∧ (∀ z ∈ x.zones, z.members.Pairwise (· < ·)) ∧
    membershipTotal x.zones ≤ 2048) = true) : x.Sound := by
  obtain ⟨h1, h2, h3, h4, h5, h6⟩ := of_decide_eq_true h
  exact ⟨h1, h2, h3, h4, h5, h6⟩

theorem setSeven_sound : setSeven.Sound := zoneSetSound_of_checks (by decide +kernel)
theorem setNine_sound : setNine.Sound := zoneSetSound_of_checks (by decide +kernel)

/-- A zone record of a ZONE STAGE. -/
def stageBytes (id n : Nat) (members : List Nat) : List Byte :=
  toLe 2 id ++ toLe 2 n ++ List.replicate 16 (BitVec.ofNat 8 id) ++ (members.map (toLe 2)).flatten
    ++ (if members.length % 2 = 1 then zerosLe 2 else [])

def stageWord (start access count : Nat) : TaskWord := word 0x60 0 count (start + 256 * access) 0x1000

/-- A ZONE STAGE in service at byte `used` of its data. -/
def staging (input : List Byte) (count used : Nat) : State :=
  serving .znu (stageWord 0 0 count) input (withZnu { znuBook with task := .staging setSeven 0 used })

theorem staging_sound (input : List Byte) (count used : Nat) : (staging input count used).znu.Sound :=
  ⟨setSeven_sound, setSeven_sound, List.Pairwise.nil⟩

/-- ZoneStageAppliesItsRecords: a stage taken that names its parameter and one that does not; a record that waits, one
malformed, one that is full, one that fits. -/
theorem witness_zone_stage :
    (waiting .znu (stageWord 2 1 52) (withZnu znuBook)).bus.station .znu =
        { queue := (3, stageWord 2 1 52) :: [], service := none } ∧
      (waiting .znu (stageWord 2 1 52) (withZnu znuBook)).znu.copyDue = false ∧
      (stageWord 2 1 52).is .zoneStage = true ∧ (stageWord 3 1 52).bits 0 8 = 3 ∧ (stageWord 2 1 0).count.toNat = 0 := by
  decide +kernel

theorem witness_zone_record :
    (staging (stageBytes 30 3 [1, 40, 201] ++ stageBytes 20 2 [40, 41]) 52 0).znu.task = .staging setSeven 0 0 ∧
      (((staging (stageBytes 30 3 [1, 40, 201] ++ stageBytes 20 2 [40, 41]) 52 0).bus.service .znu).map (·.complete)) =
        some true ∧
      ((List.range 3).map (fun k => field (stageBytes 30 3 [1, 40, 201]) (20 + 2 * k) 2)).Pairwise (· < ·) ∧
      ¬ ((List.range 2).map (fun k => field (stageBytes 40 2 [5, 3]) (20 + 2 * k) 2)).Pairwise (· < ·) ∧
      recordLength 3 = 28 ∧ recordLength 2 = 24 := by decide +kernel

/-- A staged set of 64 zones: a record of a new id is full. -/
def fullSet : ZoneSet := { access := .none, gen := 1, zones := (List.range 64).map (fun k => zoneOf (2 * k) [5]) }

theorem witness_zone_record_full : fullSet.Sound ∧ (fullSet.zones.filter (fun z => z.id ≠ 31)).length = 64 :=
  ⟨zoneSetSound_of_checks (by decide +kernel), by decide +kernel⟩

def dropWord (id : Nat) : TaskWord := word 0x61 0 0 id
def commitWord (mode gen : Nat) : TaskWord := word 0x62 0 0 gen mode
def readWord (set count : Nat) : TaskWord := word 0x63 0 count set 0x1000
def loadWord (count : Nat) : TaskWord := word 0x64 0 count 0 0x1000
def findWord (set cond start limit count : Nat) : TaskWord :=
  word 0x65 0 count (set + 256 * cond + 65536 * start + 16777216 * limit) 0x1000

/-- The book's two sets, the staged one at generation 9, and a probe. -/
def znuNine : Znu := { znuBook with staged := setNine, findBuffer := [40, 41] }

/-- Port 7 in seventeen zones. -/
def overSet : ZoneSet := { access := .none, gen := 9, zones := (List.range 17).map (fun k => zoneOf k [7]) }

theorem witness_drop_and_commit :
    (waiting .znu (dropWord 20) (withZnu znuNine)).bus.station .znu = { queue := (3, dropWord 20) :: [], service := none } ∧
      (dropWord 20).is .zoneDrop = true ∧ zoneOf 20 [40, 41] ∈ setNine.zones ∧ (dropWord 1024).bits 0 16 = 1024 ∧
      (waiting .znu (commitWord 2 9) (withZnu znuNine)).bus.station .znu =
        { queue := (3, commitWord 2 9) :: [], service := none } ∧
      (commitWord 2 9).is .zoneCommit = true ∧ (commitWord 2 9).commitMode = 2 ∧ (commitWord 1 9).commitMode = 1 ∧
      (commitWord 1 9).param = setNine.gen ∧ (∀ p : Port, holdingZones setNine.zones p ≤ 16) ∧
      16 < holdingZones overSet.zones 7 ∧ ∀ q : Port, q < 7 → holdingZones overSet.zones q ≤ 16 := by decide +kernel

theorem znuNine_sound : znuNine.Sound := ⟨setSeven_sound, setNine_sound, by decide +kernel⟩

/-- An APPLY in service with an answer of the MXW. -/
def applying (m : MxwToZnu) : State :=
  let s := serving .znu (commitWord 2 9) [] (withZnu { znuNine with phase := .building, task := .applying })
  { s with bus := { s.bus with mxwZnu := [m] } }

theorem witness_commit_answers :
    (applying .committed).bus.mxwZnu = .committed :: [] ∧ (applying (.failed 12)).bus.mxwZnu = .failed 12 :: [] ∧
      (applying (.abandoned 200)).bus.mxwZnu = .abandoned 200 :: [] ∧
      (withZnu { znuNine with copyDue := true }).znu.copyDue = true ∧
      (withZnu { znuNine with copyDue := true }).bus.service .znu = none := ⟨rfl, rfl, rfl, rfl, rfl⟩

def loading (entries : List Nat) (count : Nat) : State :=
  serving .znu (loadWord count) (entries.map (toLe 2)).flatten (withZnu { znuNine with task := .loading })

theorem witness_reads_and_searches :
    (waiting .znu (readWord 2 100) (withZnu znuNine)).bus.station .znu =
        { queue := (3, readWord 2 100) :: [], service := none } ∧
      (readWord 2 100).is .zoneRead = true ∧ (readWord 3 100).bits 0 8 = 3 ∧ (loadWord 6).is .zoneFindLoad = true ∧
      (loading [3, 9, 255] 6).znu.task = .loading ∧
      (((loading [3, 9, 255] 6).bus.service .znu).map (·.complete)) = some true ∧
      (findWord 2 4 0 0 8).is .zoneFind = true ∧ (findWord 2 4 0 0 8).bits 8 8 = 4 ∧ (findWord 2 4 63 64 8).bits 24 8 = 64 ∧
      setNine.zones.filter (findHit 4 [40, 41]) = setNine.zones ∧ setNine.zones.filter (findHit 3 [40, 41]) = [zoneOf 20 [40, 41]] := by
  decide +kernel

/-- Records that are refused: of 24 bytes with ports out of order, and of a count that ends after 10 bytes; and a probe
whose second entry breaks the order. -/
theorem witness_refused_data :
    let cut := staging (List.replicate 10 0) 10 0
    (((staging (stageBytes 40 2 [5, 3]) 24 0).bus.service .znu).map (·.complete)) = some true ∧
      ((cut.bus.service .znu).map (·.complete)) = some true ∧ cut.znu.task = .staging setSeven 0 0 ∧
      (loading [9, 3] 6).znu.task = .loading ∧ ((loading [9, 3] 6).bus.service .znu).map (fun sv => sv.input.length) = some 4 := by
  decide +kernel

/-- Section 6.9, task A: details 8, 2, 3, 8. -/
theorem test_stage_of_the_book :
    let s := staging (stageBytes 30 3 [1, 40, 201] ++ stageBytes 20 2 [40, 41]) 52 0
    (after (exec .zoneStageRecord (after (exec .zoneStageRecord s) s)) s).bus.outcomes.map (·.details) =
      [details 8 2 3 8] := by decide +kernel

/-- Section 6.9, task B: refused with details 7 (here), 0, 2, 6. -/
theorem test_stage_malformed :
    (after (exec .zoneStageRecord (staging (stageBytes 40 2 [5, 3]) 24 0)) State.reset).bus.outcomes.map
      (fun o => (o.cls, o.details)) = [(.refused .malformedZone, details 7 0 2 6)] := by decide +kernel

/-- Section 6.9, task E: VERIFIED with details 9, 2, 5, 4. -/
theorem test_verify_of_the_book :
    (after (exec .zoneCommitVerify (waiting .znu (commitWord 1 9) (withZnu znuNine))) State.reset).bus.outcomes.map
      (·.details) = [details 9 2 5 4] := by decide +kernel

/-- Section 6.9, COMMITTED: the counts of ports 0, 32, 40, 200 and 201 go to the PTU. -/
theorem test_committed_of_the_book :
    (after (exec .committed (applying .committed)) State.reset).bus.znuPtu =
      [(0, 0), (32, 0), (40, 2), (200, 0), (201, 1)] := by decide +kernel

/-! ### Matrix Writer -/

/-- The ports of section 7.8 in service. -/
def inService (ports : List Port) : Vector PortRec 256 :=
  ports.foldl (fun v p => setAt v p { State.reset.ptu.ports[0] with state := .inService, seat := some .t1 })
    State.reset.ptu.ports

/-- Sections 7.8's active and staged sets. -/
def activeSet : ZoneSet := { access := .none, gen := 1, zones := [zoneOf 20 [40, 41], zoneOf 30 [1, 40, 201]] }
def stagedSet : ZoneSet := { access := .none, gen := 2, zones := [zoneOf 30 [1, 40, 201], zoneOf 60 [41, 201]] }

def rowOf (ports : List Port) : PortMask := portMask ports

/-- Both banks hold the rows of section 7.8's table. -/
def bankRows : Vector (Option PortMask) 256 :=
  [((1 : Port), rowOf [40, 201]), (40, rowOf [1, 41, 201]), (41, rowOf [40]), (201, rowOf [1, 40])].foldl
    (fun v e => setAt v e.1 (some e.2)) (Vector.replicate 256 (some 0))

def mxwUp : Mxw :=
  { State.reset.mxw with
    linkUp := true, activeBank := some 0, shadows := Vector.replicate 2 bankRows, outstanding := none
    ackTimer := .stopped, number := 9, fullRefresh := false, probeTimer := .stopped }

def fabric (m : Mxw) (b : Bus := State.reset.bus) : State :=
  { State.reset with
    ptu := { State.reset.ptu with ports := inService [1, 40, 41, 201] }
    znu := { State.reset.znu with active := activeSet, staged := stagedSet }
    mxw := m, bus := b }

/-- The checks of Mxw.Sound that a computation settles. -/
def mxwChecks (m : Mxw) : Bool :=
  decide m.recompute.Nodup && decide (m.cursor ≤ 256) &&
    decide (m.fore = .none → m.back = .build → m.cursor < 256) &&
    (m.linkUp || (m.fullRefresh && decide (m.recompute = []) && decide (m.fore = .none) && decide (m.back = .none) &&
      m.outstanding.all (fun o => decide (o.msg = .probe)))) &&
    (!m.linkUp || (m.activeBank.isSome && !m.lost && !m.probeDue &&
      (match m.probeTimer with
        | .running _ => false
        | _ => true) && m.outstanding.all (fun o => decide (o.msg ≠ .probe)))) &&
    (match m.fore with
      | .item rows => decide (rows.length ≤ 512)
      | _ => true) &&
    decide (m.ackTimer = if m.outstanding.isSome then .running 1 else .stopped)

theorem mxwSound_of_checks {m : Mxw} (h : mxwChecks m = true) : m.Sound := by
  simp only [mxwChecks, Bool.and_eq_true, decide_eq_true_eq, Bool.or_eq_true, Bool.not_eq_true', Option.all_eq_true] at h
  obtain ⟨⟨⟨⟨⟨⟨h1, h2⟩, h3⟩, h4⟩, h5⟩, h7⟩, h6⟩ := h
  refine ⟨h1, h2, fun _ _ _ _ _ _ hf hb => h3 hf hb, fun hd => ?_, fun hd => ?_, fun hu => ?_, fun rows e => ?_, h6⟩
  · have := h4.resolve_left (by simp [hd])
    exact ⟨this.1.1.1.1, this.1.1.1.2, this.1.1.2, this.1.2⟩
  · have := h4.resolve_left (by simp [hd])
    exact this.2
  · have h := h5.resolve_left (by simp [hu])
    refine ⟨h.1.1.1.1, h.1.1.1.2, h.1.1.2, fun ms e => ?_, h.2⟩
    rw [e] at h
    exact absurd h.1.2 (by simp)
  · rw [e] at h7
    exact of_decide_eq_true h7

theorem mxwUp_sound : mxwUp.Sound := mxwSound_of_checks (by decide +kernel)

theorem mxwUp_resting : mxwUp.Resting := ⟨rfl, rfl, rfl, rfl, rfl, rfl, rfl⟩

/-- A row write of the fabric's bank 1, number 8, is outstanding. -/
def writing (o : FabricMsg) (retry : Bool) (m : Mxw) : Mxw :=
  { m with outstanding := some { msg := o, number := 8, retry := retry }, ackTimer := .running 1 }

/-- The acknowledgement frames of sections 11.6: type 81h, number, bank, check. -/
def ackFrame (number bank : Nat) : List Byte :=
  [0x81, BitVec.ofNat 8 number, BitVec.ofNat 8 bank, BitVec.ofNat 8 (1024 - 0x81 - number - bank)]

theorem witness_acknowledgements :
    acknowledgementOf (ackFrame 8 1) = some (8, 1) ∧ acknowledgementOf (ackFrame 7 1) = some (7, 1) ∧
      acknowledgementOf [0x81, 8, 1, 0] = none ∧ bankOfByte 1 = some 1 ∧
      State.reset.mxw.outstanding = some { msg := .probe, number := 0, retry := false } := by decide +kernel

theorem witness_switch_acknowledged : (writing (.bankSwitch 1) false { mxwUp with back := .switching }).Sound :=
  mxwSound_of_checks (by decide +kernel)

/-- RowBoundaryTakesTheNextRow: row 40 of the build of section 7.8 is written; row 41 is the next that differs. -/
def buildRow : State :=
  fabric (writing (.rowWrite 1 40 (rowOf [1, 201])) false { mxwUp with back := .build, cursor := 40 })

theorem witness_row_boundary :
    buildRow.mxw.Sound ∧ buildRow.mxw.outstanding = some { msg := .rowWrite 1 40 (rowOf [1, 201]), number := 8, retry := false } ∧
      buildRow.mxw.activeBank = some 0 ∧
      ¬ buildRow.mxw.holds 1 41 (effectiveRow buildRow.znu.staged (inServiceMask buildRow.ptu.ports) 41) := by
  refine ⟨mxwSound_of_checks (by decide +kernel), rfl, rfl, ?_⟩
  show ¬ (_ = _)
  decide +kernel

/-- The last row of a build whose rows all match, and an item of two rows of which the second differs. -/
theorem witness_row_boundary_ends :
    (∀ r : Port, 255 < r → buildRow.mxw.holds 1 r 0) ∧
      ({ buildRow.mxw with fore := .item [(true, 1), (false, 41)] } : Mxw).fore = .item ((true, 1) :: ([] ++ (false, 41) :: [])) :=
  ⟨fun r h => absurd h (by have := r.isLt; simp only [Fin.lt_def]; omega), rfl⟩

theorem witness_link_timers :
    (writing (.rowWrite 1 40 0) true mxwUp).Sound ∧
      (writing (.rowWrite 1 40 0) true mxwUp).outstanding =
        some { msg := .rowWrite 1 40 0, number := 8, retry := true } ∧
      State.reset.mxw.probeTimer = .running 1000 := ⟨mxwSound_of_checks (by decide +kernel), rfl, rfl⟩

/-- The link is lost while a build request and the request to abandon it wait. -/
theorem witness_link_lost_before_the_build :
    let s := fabric (writing (.rowWrite 1 40 0) true { mxwUp with abandon := true }) { State.reset.bus with znuMxw := [.build] }
    s.mxw.Sound ∧ s.mxw.abandon = true ∧ s.bus.znuMxw.contains .build = true ∧
      s.mxw.outstanding = some { msg := .rowWrite 1 40 0, number := 8, retry := true } :=
  ⟨mxwSound_of_checks (by decide +kernel), rfl, by decide +kernel, rfl⟩

/-- A build request with the link DOWN. -/
theorem witness_build_request_link_down :
    let s := { State.reset with bus := { State.reset.bus with znuMxw := [.build] } }
    s.mxw.Sound ∧ s.bus.znuMxw = .build :: [] ∧ s.mxw.linkUp = false :=
  ⟨mxwSound_of_checks (by decide +kernel), rfl, rfl⟩

def ptuToMxw (p : Port) : Bus := { State.reset.bus with ptuMxw := [p] }
def znuToMxw (m : ZnuToMxw) : Bus := { State.reset.bus with znuMxw := [m] }

theorem witness_requests :
    (fabric mxwUp (ptuToMxw 40)).bus.ptuMxw = 40 :: [] ∧ (fabric mxwUp (znuToMxw .build)).bus.znuMxw = .build :: [] ∧
      (fabric { mxwUp with back := .handover } (znuToMxw .replaced)).bus.znuMxw = .replaced :: [] ∧
      (indices 256).filter (fun q => q = 40 ∨ (reach activeSet 40).getLsbD q.val = true) = [1] ++ 40 :: [41, 201] := by
  decide +kernel

/-- Section 7.8: row 41 follows row 40 in the build. -/
theorem test_build_row_of_the_book :
    (after (exec (.acknowledgement (ackFrame 8 0)) buildRow) State.reset).mxw.outstanding =
      some { msg := .rowWrite 1 41 (rowOf [201]), number := 9, retry := false } := by decide +kernel

/-- Row 1 of bank 0, the last of an item, is being written above a build at cursor 90; port 201 waits, and row 41 of bank 1
is not known. -/
def itemEnds : State :=
  fabric (writing (.rowWrite 0 1 (rowOf [40, 201])) false { mxwUp with
    fore := .item [(true, 1)], back := .build, cursor := 90, recompute := [201]
    shadows := #v[bankRows, setAt bankRows 41 none] })

/-- RowBoundaryTakesTheNextRow where the work in hand ends, and RecomputeAndBuildRequestsAreTaken where items waited at
HANDOVER. -/
theorem witness_work_in_hand_ends :
    itemEnds.mxw.Sound ∧ itemEnds.mxw.fore = .item ((true, 1) :: []) ∧ itemEnds.mxw.fullRefresh = false ∧
      itemEnds.mxw.recompute = [] ++ 201 :: [] ∧
      (writing (.rowWrite 0 255 0) false { mxwUp with fore := .refresh 255, fullRefresh := false }).Sound ∧
      ({ mxwUp with back := .handover, recompute := [40] } : Mxw).Sound ∧
      rowsDue itemEnds.znu false 0 40 = [(true, 1), (true, 40), (true, 41), (true, 201)] :=
  ⟨mxwSound_of_checks (by decide +kernel), rfl, rfl, rfl, mxwSound_of_checks (by decide +kernel),
    mxwSound_of_checks (by decide +kernel), by decide +kernel⟩

/-- R130: the rows of 201 in bank 0 match, and so does row 1 of bank 1; 40, in a zone with 1 and 201 under the staged set,
is written there. -/
theorem test_item_during_a_build :
    (after (exec (.acknowledgement (ackFrame 8 0)) itemEnds) State.reset).mxw.outstanding =
      some { msg := .rowWrite 1 40 (rowOf [1, 201]), number := 9, retry := false } := by decide +kernel

/-- Section 7.8: the item for port 40, out of service, first writes row 1 of bank 0 as 201. -/
theorem test_item_of_the_book :
    (after (exec .recomputeAddition { fabric mxwUp (ptuToMxw 40) with
      ptu := { State.reset.ptu with ports := inService [1, 41, 201] } }) State.reset).mxw.outstanding =
      some { msg := .rowWrite 0 1 (rowOf [201]), number := 9, retry := false } := by decide +kernel

/-! ### Alarm Table Unit -/

/-- Section 8.5: places 0–62 hold acknowledged records but for two that have cleared. -/
def bookAlarm (i : Fin 64) : Option AlarmRec :=
  if i = 63 then none
  else if i = 12 then some { freshAlarm 9000 .sensorFailed 4 with state := .clearedUnacked }
  else if i = 30 then some { freshAlarm 8800 .tempHigh 1 with state := .clearedUnacked }
  else if i = 0 then some { freshAlarm 1 .tempCritical 0 with state := .activeAcked }
  else if i = 31 then some { freshAlarm 1 .licenceStoreDamaged 12 with state := .activeAcked }
  else if i.val < 32 then some { freshAlarm 1 .licenceStoreDamaged i.val with state := .activeAcked }
  else some { freshAlarm 1 .licenceLapsed (i.val - 32) with state := .activeAcked }

def atuBook : Atu := { State.reset.atu with table := Vector.ofFn bookAlarm, ledCrit := true, ledMaj := true }

/-- The same table with nothing to evict. -/
def atuFull : Atu :=
  { atuBook with
    table := setAt (setAt atuBook.table 12 (some { freshAlarm 9 .sensorFailed 4 with state := .activeAcked })) 30
      (some { freshAlarm 9 .tempHigh 1 with state := .activeAcked }) }

def alarmAt (a : Atu) (pre : List AlarmRequest) (raised : Bool) (k : AlarmKind) (o : Nat) : State :=
  { State.reset with
    atu := a
    tb := { State.reset.tb with seconds := 10000 }
    bus := { State.reset.bus with toAtu := pre ++ [{ raised := raised, kind := k, object := o }] } }

/-- The checks of Atu.Sound that a computation settles. -/
def atuChecks (a : Atu) : Bool :=
  ((indices 64).all fun i => (indices 64).all fun j => match a.table[i], a.table[j] with
    | some r, some q => !(r.kind == q.kind && r.object == q.object) || i == j
    | _, _ => true) &&
  decide (placesWith a.table (fun r => r.kind != .alarmTableFull) ≤ 63) &&
  ((indices 64).all fun i => a.table[i].all fun r =>
    r.severity == alarmSeverity r.kind && decide (1 ≤ r.raiseCount ∧ r.raiseCount ≤ 255)) &&
  decide (a.dropped ≤ 65535) &&
  (a.relay == (indices 64).any fun i => a.table[i].any fun r => r.state == .activeUnacked && r.severity != .warning) &&
  (a.ledCrit == (indices 64).any fun i => a.table[i].any fun r => r.state != .clearedUnacked && r.severity == .critical) &&
  (a.ledMaj == (indices 64).any fun i => a.table[i].any fun r => r.state != .clearedUnacked && r.severity == .major)

theorem any_places {t : Vector (Option AlarmRec) 64} {q : AlarmRec → Bool} {b : Bool}
    (h : (b == (indices 64).any fun i => t[i].any q) = true) :
    b = true ↔ ∃ (i : Fin 64) (r : AlarmRec), t[i] = some r ∧ q r = true := by
  rw [beq_iff_eq.1 h, List.any_eq_true]
  constructor
  · rintro ⟨i, _, hi⟩
    cases ht : t[i] with
    | none => simp [ht] at hi
    | some r => exact ⟨i, r, ht, by simpa [ht] using hi⟩
  · rintro ⟨i, r, ht, hq⟩
    exact ⟨i, List.mem_finRange i, by simpa [ht] using hq⟩

theorem atuSound_of_checks {a : Atu} (h : atuChecks a = true) : a.Sound := by
  have hall : ∀ {n : Nat} {p : Fin n → Bool}, (indices n).all p = true → ∀ i, p i = true :=
    fun h i => List.all_eq_true.1 h i (List.mem_finRange i)
  unfold atuChecks at h
  simp only [Bool.and_eq_true] at h
  obtain ⟨⟨⟨⟨⟨⟨h1, h2⟩, h3⟩, h4⟩, h5⟩, h6⟩, h7⟩ := h
  have each : ∀ (i : Fin 64) (r : AlarmRec), a.table[i] = some r →
      r.severity = alarmSeverity r.kind ∧ 1 ≤ r.raiseCount ∧ r.raiseCount ≤ 255 := fun i r hr => by
    have := hall h3 i
    simp only [hr, Option.all_some, Bool.and_eq_true, beq_iff_eq, decide_eq_true_eq] at this
    exact this
  exact {
    one_record := fun i j r q hr hq hk ho => by
      have := hall (hall h1 i) j
      simpa [hr, hq, hk, ho] using this
    room_kept := of_decide_eq_true h2
    severity_fixed := fun i r hr => (each i r hr).1
    count_range := fun i r hr => (each i r hr).2
    dropped_range := of_decide_eq_true h4
    outputs := ⟨by simpa using any_places h5, by simpa using any_places h6, by simpa using any_places h7⟩ }

theorem atuBook_sound : atuBook.Sound := atuSound_of_checks (by decide +kernel)
theorem atuFull_sound : atuFull.Sound := atuSound_of_checks (by decide +kernel)

/-- RaisesFindOrMakeRoom: a record to evict, a drop, and a raise of a kind that the table holds. -/
theorem witness_raises :
    (alarmAt atuBook [{ raised := true, kind := .overBudget, object := 0 }] true .fanStalled 4).bus.toAtu =
        [{ raised := true, kind := .overBudget, object := 0 }] ++ { raised := true, kind := .fanStalled, object := 4 } :: [] ∧
      alarmOwner .overBudget ≠ alarmOwner .fanStalled ∧
      placesWith atuBook.table (fun r => r.kind != .alarmTableFull) = 63 ∧
      (atuBook.table[(30 : Fin 64)].map (fun r => r.lastChange)) = some 8800 ∧
      (∀ i : Fin 64, (atuFull.table[i].any fun r => r.state == .clearedUnacked) = false) ∧
      FirstEmpty (setAt atuBook.table 30 none) 30 ∧ FirstEmpty atuFull.table 63 := by
  refine ⟨rfl, by decide, by decide +kernel, by decide +kernel, by decide +kernel, ?_, ?_⟩ <;>
    exact ⟨by decide +kernel, by decide +kernel⟩

def ackWord (place : Nat) : TaskWord := word 0x70 0 0 place

theorem witness_clears_and_acknowledgements :
    (alarmAt atuBook [] false .sensorFailed 4).bus.toAtu = [] ++ { raised := false, kind := .sensorFailed, object := 4 } :: [] ∧
      atuBook.table[(0 : Fin 64)] = some { freshAlarm 1 .tempCritical 0 with state := .activeAcked } ∧
      (waiting .atu (ackWord 0xFFFF) { State.reset with atu := atuBook }).bus.station .atu =
        { queue := (3, ackWord 0xFFFF) :: [], service := none } ∧
      (ackWord 0xFFFF).bits 0 16 = 0xFFFF ∧ (ackWord 64).bits 0 16 = 64 ∧ (ackWord 63).bits 0 16 = 63 ∧
      atuBook.table[(63 : Fin 64)] = none := by decide +kernel

/-- A record to remove in place 0 and ALARM_TABLE_FULL, unacknowledged, in place 1. -/
def atuTwo : Atu :=
  { State.reset.atu with
    table := setAt (setAt State.reset.atu.table 0 (some { freshAlarm 9 .sensorFailed 4 with state := .clearedUnacked })) 1
      (some (freshAlarm 9 .alarmTableFull 0)) }

/-- R142, R141: the removal from place 0 clears ALARM_TABLE_FULL before its turn, so none is moved and both go. -/
theorem test_acknowledge_all_with_table_full :
    let t := after (exec .alarmAcknowledge (waiting .atu (ackWord 0xFFFF) { State.reset with atu := atuTwo })) State.reset
    t.atu.table = State.reset.atu.table ∧ t.bus.outcomes.map (fun o => o.details) = [details 0 2 0 0] := by decide +kernel

/-- ClearsAndAcknowledgementsFreePlaces, its ALARM_TABLE_FULL record: of object 0. -/
theorem witness_table_full_acknowledged :
    atuTwo.Sound ∧ (∀ i : Fin 64, (atuTwo.table[i].all fun r => r.kind != .alarmTableFull || r.object == 0) = true) ∧
      atuTwo.table[(1 : Fin 64)] = some (freshAlarm 9 .alarmTableFull 0) :=
  ⟨atuSound_of_checks (by decide +kernel), by decide +kernel, by decide +kernel⟩

/-- Section 8.5: FAN_STALLED of rotor 4 evicts place 30 and makes RELAY active. -/
theorem test_eviction_of_the_book :
    let t := after (exec (.raise .fanStalled 4) (alarmAt atuBook [] true .fanStalled 4)) State.reset
    t.atu.table[(30 : Fin 64)] = some (freshAlarm 10000 .fanStalled 4) ∧ t.atu.relay = true := by decide +kernel

/-- Section 8.5: OVER_BUDGET is dropped, and ALARM_TABLE_FULL takes place 63. -/
theorem test_drop_of_the_book :
    let t := after (exec (.raise .overBudget 0) (alarmAt atuFull [] true .overBudget 0)) State.reset
    t.atu.table[(63 : Fin 64)] = some (freshAlarm 10000 .alarmTableFull 0) ∧ t.atu.dropped = 1 := by decide +kernel

/-! ### Status Page Writer -/

def pageWrite (addr : Addr) (bytes : List Byte) : Access :=
  { req := .spw, kind := .page, addr := addr, len := bytes.length, data := bytes }

/-- The page at base 10000h; a write of anchor 3's record is in flight too. -/
def spwAt (p : Spw) (accesses : List Access) : State :=
  let h := { State.reset.host.hli with base := 0x10000, mask := 0x10000 }
  { State.reset with
    host := { State.reset.host with hli := h }
    spw := p
    bus := { State.reset.bus with
      accesses := { req := .anchor 3, kind := .record, addr := 0x100D0, len := 48, data := [] } :: accesses
      toSpw := [.header, .slot 2, .header] } }

def batchAt (b : Option Batch) (gen : Word) : Spw :=
  { dirty := [.port 7, .alarmSummary], gen := gen, batchTimer := .stopped, area := .active, batch := b }

theorem spwSound_of_checks {p : Spw} (h : decide ((p.dirty.map pageIndex).Pairwise (· < ·)) = true)
    (hb : (match p.batch with
      | some (.oddGeneration l) | some (.records l) => decide ((l.map pageIndex).Pairwise (· < ·))
      | _ => true) = true)
    (hg : p.gen.getLsbD 0 = match p.batch with
      | some (.oddGeneration _) | some (.records _) => true
      | _ => false) (ha : p.area = .active) : p.Sound := by
  refine ⟨of_decide_eq_true (p := (p.dirty.map pageIndex).Pairwise (· < ·)) h, ?_, hg, fun _ => ha⟩
  cases hq : p.batch with
  | none => trivial
  | some b => cases b <;> simp_all [PageAscending]

theorem witness_page_batches :
    (spwAt (batchAt none 4) []).spw.Sound ∧ (spwAt (batchAt none 4) []).bus.toSpw = [.header] ++ .slot 2 :: [.header] ∧
      PageRecord.slot 2 ∉ [PageRecord.header] ∧
      (spwAt (batchAt (some (.oddGeneration [.port 7])) 5) [pageWrite 0x10400 (toLe 4 5)]).spw.Sound ∧
      (spwAt (batchAt (some (.oddGeneration [.port 7])) 5) [pageWrite 0x10400 (toLe 4 5)]).bus.accesses =
        [{ req := .anchor 3, kind := .record, addr := 0x100D0, len := 48, data := [] }] ++
          pageWrite 0x10400 (toLe 4 5) :: [] ∧
      (spwAt (batchAt (some (.records [])) 5) [pageWrite 0x10400 (toLe 4 5)]).spw.Sound ∧
      (spwAt (batchAt (some .evenGeneration) 6) [pageWrite 0x10400 (toLe 4 6)]).spw.Sound :=
  ⟨spwSound_of_checks (by decide) (by decide) (by decide) rfl, rfl, by decide,
    spwSound_of_checks (by decide) (by decide) (by decide) rfl, rfl,
    spwSound_of_checks (by decide) (by decide) (by decide) rfl,
    spwSound_of_checks (by decide) (by decide) (by decide) rfl⟩

/-- A failed write, its report and its time-out are each among the commands of one clause. -/
theorem witness_failed_page_writes :
    Instr.hostAccessFailed .spw ∈ [Instr.pageWriteFailed, .hostAccessFailed .spw, .hostAccessTimeout .spw] ∧
      Instr.hostAccessTimeout .spw ∈ [Instr.pageWriteFailed, .hostAccessFailed .spw, .hostAccessTimeout .spw] := by decide

/-- 11.5: the slot entry of slot 3 is at 14A0h, alarm place 63 ends the page at 1BC0h. -/
theorem test_page_places :
    pageOffset (.slot 3) = 0x14A0 ∧ pageOffset (.alarmPlace 63) + pageSize (.alarmPlace 63) = 0x1BC0 := by decide

/-- R146, R147: the end of a batch sets the page-changed bit and, by mask bit 16, the interrupt. -/
theorem test_page_changed :
    let t := after (exec .pageWriteDone (spwAt (batchAt (some .evenGeneration) 6) [pageWrite 0x10400 (toLe 4 6)])) State.reset
    t.host.hli.pageChanged = true ∧ t.host.hli.interrupt = true ∧ t.spw.gen = 6 := by decide +kernel

/-! ### Module Line Controller -/

def ask (who : MlcUser) (dev : Device) (cmd : LineCommand) (tag : Nat) : MlcRequest :=
  { who := who, dev := dev, cmd := cmd, tag := tag }

def entry (who : MlcUser) (dev : Device) (cmd : LineCommand) (tags : List Nat) : MlcEntry :=
  { dev := dev, cmd := cmd, requests := tags.map (ask who dev cmd) }

def lineAt (m : Mlc) (requests : List MlcRequest := []) : State :=
  { State.reset with mlc := m, bus := { State.reset.bus with toMlc := requests } }

/-- Section 9.2.1: sensor 5's read waits once, for two requests. -/
def mlcBook : Mlc :=
  { State.reset.mlc with queue := [entry .pbu (.moduleBay 1) .telemetry [0], entry .clc (.sensor 5) .read [0]] }

/-- Twenty-four waiting entries. -/
def mlcFull : Mlc :=
  { State.reset.mlc with
    queue := (indices 8).map (fun n => entry .clc (.sensor n) .read [0]) ++
      (indices 8).map (fun i => entry .sls (.slotMemory i) .inventory [0]) ++
      (indices 4).map (fun b => entry .pbu (.moduleBay b) .telemetry [0]) ++
      (indices 4).map (fun b => entry .pbu (.moduleBay b) .inventory [0]) }

/-- Sensor 5 is being read for two requests, with some bytes of the answer. -/
def reading (received : List Byte) : Mlc :=
  { State.reset.mlc with
    line := .awaiting, current := some (entry .clc (.sensor 5) .read [0, 1]), received := received
    answerTimer := .running 5 }

theorem mlcSound_of_checks {m : Mlc} (h : decide (m.queue.length ≤ 24 ∧ (m.queue.map (fun e => (e.dev, e.cmd))).Nodup ∧
    (∀ e ∈ m.queue, e.requests ≠ []) ∧ (m.current.isSome ↔ m.line = .sending ∨ m.line = .awaiting) ∧
    (m.answerTimer = if m.line = .awaiting then .running 5 else .stopped) ∧ m.idleBits < 10) = true)
    (hr : (m.current.all fun e => decide (m.received.length < 3 + answerLength e.dev e.cmd)) = true) : m.Sound := by
  obtain ⟨h1, h2, h3, h4, h5, h6⟩ := of_decide_eq_true h
  refine ⟨h1, h2, h3, h4, h5, fun e he => ?_, h6⟩
  simpa [he] using hr

theorem witness_line_transactions :
    (lineAt mlcBook [ask .clc (.sensor 5) .read 1]).mlc.Sound ∧ (lineAt mlcFull [ask .clc (.tray 5) .inventory 1]).mlc.Sound ∧
      (lineAt mlcFull [ask .clc (.tray 5) .inventory 1]).bus.toMlc = [] ++ ask .clc (.tray 5) .inventory 1 :: [] ∧
      mlcFull.queue.length = 24 ∧ (lineAt (reading [69, 2])).mlc.Sound ∧ (lineAt (reading [69, 2])).mlc.line = .awaiting ∧
      (lineAt (reading [69, 2])).mlc.current = some (entry .clc (.sensor 5) .read [0, 1]) ∧
      mlcBook.line = .idle ∧ ({ mlcBook with line := .recovery, idleBits := 9 } : Mlc).line = .recovery :=
  ⟨mlcSound_of_checks (by decide +kernel) (by decide +kernel), mlcSound_of_checks (by decide +kernel) (by decide +kernel),
    rfl, by decide +kernel, mlcSound_of_checks (by decide +kernel) (by decide +kernel), rfl, rfl, rfl, rfl⟩

/-- Section 9.2.1: the request frame of sensor 5 is 69, 3, 2, 182. -/
theorem test_request_frame_of_the_book : requestFrame (.sensor 5) .read = [69, 3, 2, 182] := by decide

/-- Section 9.2.1: the answer 69, 2, 41, 0, 144 is OK with 41, delivered twice. -/
theorem test_answer_of_the_book :
    (after (exec (.answerFrame [41, 0, 144]) (lineAt (reading [69, 2]))) State.reset).bus.mlcClc =
      [{ req := ask .clc (.sensor 5) .read 0, outcome := .ok [41, 0] },
        { req := ask .clc (.sensor 5) .read 1, outcome := .ok [41, 0] }] := by decide +kernel

/-! ### Time Base and start-up -/

/-- Every line has been reported absent but for one bay, whose level is high. -/
def lastLine : State :=
  { State.reset with
    tb := { State.reset.tb with
      slots := Vector.replicate 8 { reported := some false, timer := .stopped }
      bays := setAt (Vector.replicate 4 { reported := some false, timer := .stopped }) 2 { reported := none, timer := .running 50 }
      trays := Vector.replicate 6 { reported := some false, timer := .stopped } }
    pins := { State.reset.pins with bayPresent := setAt State.reset.pins.bayPresent 2 true } }

theorem witness_presence :
    (debouncer lastLine.tb (.bay 2)).timer = .running 50 ∧ lineLevel lastLine.pins (.bay 2) ≠ false ∧
      ({ State.reset with bus := { State.reset.bus with toHli := [.lcu, .tb] } } : State).bus.toHli = [.lcu] ++ .tb :: [] ∧
      StartUpSource.tb ∉ [StartUpSource.lcu] := by decide +kernel

/-- R157: the last line's report, of a bay present, tells the PBU and the HLI. -/
theorem test_scan_taken :
    let t := after (exec (.pendingTimerExpiry (.bay 2)) lastLine) State.reset
    t.bus.tbPbu = [(2, true)] ∧ t.bus.toHli = [.tb] ∧ t.pbu.awaited[(2 : Fin 4)] = true := by decide +kernel

/-- R160: both reports make the part READY. -/
theorem test_ready :
    let s := { State.reset with bus := { State.reset.bus with toHli := [.lcu, .tb] } }
    (after (exec (.startUpReport .lcu) (after (exec (.startUpReport .tb) s) s)) s).host.hli.ready = true := by
  decide +kernel

/-! ### What every step keeps: sound states, each with a command in front that changes the block -/

def hasNext (o : Host.Outcome State Fault Refusal) : Bool :=
  match o with
  | .next _ => true
  | _ => false

theorem next_of_hasNext {o : Host.Outcome State Fault Refusal} (h : hasNext o = true) : ∃ t, o = .next t := by
  cases o with
  | next t => exact ⟨t, rfl⟩
  | fault f => simp [hasNext] at h
  | refused r => simp [hasNext] at h

def commanded (c : Instr) (s : State) : State := { s with pending := [c] }

theorem lcuStart_sound : lcuStart.lcu.Sound where
  queue_cells := by decide +kernel
  granted_sums := by intro _ k; cases k <;> decide +kernel
  granted_range := by intro _ k; cases k <;> decide +kernel
  valid_well_formed := by decide +kernel
  installing_well_formed := by
    intro i r h
    exact absurd (show LcuTask.idle = .installing i r from h) (by simp)
  failed_range := by decide +kernel

theorem witness_step_keeps_ports_and_licences :
    (commanded .withdrawal (lcuSays (.withdrawal { t1 := 0, t2 := 0, t3 := 0 }))).ptu.Sound ∧
      (∃ t, step (commanded .withdrawal (lcuSays (.withdrawal { t1 := 0, t2 := 0, t3 := 0 }))) = .next t) ∧
      (commanded .hourTick { lcuStart with bus := { lcuStart.bus with hourTicks := 1 } }).lcu.Sound ∧
      ∃ t, step (commanded .hourTick { lcuStart with bus := { lcuStart.bus with hourTicks := 1 } }) = .next t :=
  ⟨ptuBusy_sound, next_of_hasNext (by decide +kernel), lcuStart_sound, next_of_hasNext (by decide +kernel)⟩

theorem witness_step_keeps_budget :
    (commanded .graceTimerExpiry { State.reset with pbu := pbuOver }).pbu.Sound ∧
      ∃ t, step (commanded .graceTimerExpiry { State.reset with pbu := pbuOver }) = .next t :=
  ⟨pbuOver_sound, next_of_hasNext (by decide +kernel)⟩

theorem witness_step_keeps_slots :
    (commanded .thermalOffOrder hotSls).sls.Sound ∧ ∃ t, step (commanded .thermalOffOrder hotSls) = .next t :=
  ⟨hotSls_sound, next_of_hasNext (by decide +kernel)⟩

theorem witness_step_keeps_cooling :
    (commanded .cycleTick (withClc clcBook)).clc.Sound ∧
      ∃ t, step (commanded .cycleTick (withClc clcBook)) = .next t :=
  ⟨witness_cycle_tick, next_of_hasNext (by decide +kernel)⟩

theorem witness_step_keeps_zones_and_matrix :
    (commanded .zoneFind { State.reset with znu := znuNine }).znu.Sound ∧
      (∃ t, step (commanded .zoneFind { State.reset with znu := znuNine }) = .next t) ∧
      (commanded .ackTimerExpiry buildRow).mxw.Sound ∧ ∃ t, step (commanded .ackTimerExpiry buildRow) = .next t :=
  ⟨znuNine_sound, next_of_hasNext (by decide +kernel), mxwSound_of_checks (by decide +kernel),
    next_of_hasNext (by decide +kernel)⟩

theorem witness_step_keeps_alarms_page_line_and_interrupt :
    (commanded (.raise .fanSlow 4) { State.reset with atu := atuFull }).atu.Sound ∧
      (commanded .batchBegin (spwAt (batchAt none 4) [])).spw.Sound ∧
      (commanded .transactionBegin (lineAt mlcBook)).mlc.Sound ∧
      (commanded (.pageSeen 5) (hostAt idleCtx)).host.InterruptRight ∧
      (∃ t, step (commanded (.raise .fanSlow 4) { State.reset with atu := atuFull }) = .next t) ∧
      (∃ t, step (commanded .batchBegin (spwAt (batchAt none 4) [])) = .next t) ∧
      (∃ t, step (commanded .transactionBegin (lineAt mlcBook)) = .next t) ∧
      ∃ t, step (commanded (.pageSeen 5) (hostAt idleCtx)) = .next t :=
  ⟨atuFull_sound, spwSound_of_checks (by decide) (by decide) (by decide) rfl,
    mlcSound_of_checks (by decide +kernel) (by decide +kernel), by unfold HostSide.InterruptRight; decide +kernel,
    next_of_hasNext (by decide +kernel), next_of_hasNext (by decide +kernel), next_of_hasNext (by decide +kernel),
    next_of_hasNext (by decide +kernel)⟩

end Sys2Proof.Tests
end

/-! PROOFS. The port table under writes of its records (R1, R18, R34 to R39): what is counted, what a record keeps, and what
a run of writes sends. -/

namespace Sys2Proof.Machine

open Sys2Proof

theorem At.eq_of {β : Type} {c d : At β} (own : c.own = d.own) (bus : c.bus = d.bus) : c = d := by
  cases c; cases d; cases own; cases bus; rfl

/-! ### Entries of a table replaced, counted -/

/-- Replacing an entry that the list holds once moves the count by that entry alone. -/
theorem countP_setAt {α : Type} {n : Nat} (v : Vector α n) (i : Fin n) (x : α) (f : α → Bool) {l : List (Fin n)}
    (hl : l.Nodup) (hi : i ∈ l) :
    l.countP (fun j => f (setAt v i x)[j]) + (if f v[i] then 1 else 0) =
      l.countP (fun j => f v[j]) + (if f x then 1 else 0) := by
  have others {m : List (Fin n)} (hm : i ∉ m) : m.countP (fun j => f (setAt v i x)[j]) = m.countP (fun j => f v[j]) :=
    List.countP_congr fun j hj => by rw [setAt_get_ne v i j x (fun e => hm (e ▸ hj))]
  induction l with
  | nil => simp at hi
  | cons a as ih =>
    obtain ⟨ha, has⟩ := List.nodup_cons.1 hl
    simp only [List.countP_cons]
    by_cases e : i = a
    · subst e; rw [others ha, setAt_get_self]; omega
    · have := ih has ((List.mem_cons.1 hi).resolve_left e)
      rw [setAt_get_ne v i a x e]; omega

/-! ### What is counted and listed, whatever the records say -/

/-- R34 and R36: the counts are those of the seats that the records hold, and the wait list is the UNSEATED ports. Every
write of a record keeps this. -/
structure Ptu.Tallied (p : Ptu) : Prop where
  held_counts : ∀ k, p.held.get k = p.holders k
  wait_nodup : p.waitList.Nodup
  wait_unseated : ∀ q : Port, q ∈ p.waitList ↔ p.ports[q].state = .unseated

/-- R1: what one record says agrees with itself and with the slot's view. -/
structure PortRec.Right (v : SlotView) (r : PortRec) : Prop where
  seat_state : r.seat.isSome ↔ (r.state = .inService ∨ r.state = .parked)
  seat_tier : ∀ k, r.seat = some k → tierNum r.reqTier ≤ tierNum k
  service_online : r.seat.isSome → (r.state = .inService ↔ v.state = .online)

/-- R1: every record is right. -/
def Ptu.RecordsRight (p : Ptu) : Prop := ∀ q : Port, (p.ports[q]).Right p.view[slotOf q]

/-- R5, R6, R8: the claim outstanding is made for a port in the state that it asks about. -/
structure Ptu.ClaimRight (p : Ptu) : Prop where
  noted_tier : ∀ (q : Port) (t k : Tier), p.claim = some (.port q t (some k)) → tierNum t ≤ tierNum k
  port_claim : ∀ (q : Port) (t : Tier) (k : Option Tier), p.claim = some (.port q t k) → p.ports[q].state = .disabled
  tier_claim : ∀ (q : Port) (t : Tier) (w : Bool), p.claim = some (.tier q t w) → p.ports[q].state ≠ .disabled

theorem Ptu.sound_iff {p : Ptu} : p.Sound ↔ p.Tallied ∧ p.RecordsRight ∧ p.ClaimRight := by
  constructor
  · intro h
    exact ⟨⟨h.held_counts, h.wait_nodup, h.wait_unseated⟩,
      fun q => ⟨h.seat_state q, h.seat_tier q, h.service_online q⟩, ⟨h.noted_tier, h.port_claim, h.tier_claim⟩⟩
  · rintro ⟨ht, hr, hc⟩
    exact
      { held_counts := ht.held_counts, wait_nodup := ht.wait_nodup, wait_unseated := ht.wait_unseated
        seat_state := fun q => (hr q).seat_state, seat_tier := fun q => (hr q).seat_tier
        service_online := fun q => (hr q).service_online
        noted_tier := hc.noted_tier, port_claim := hc.port_claim, tier_claim := hc.tier_claim }

theorem Ptu.Sound.tallied {p : Ptu} (h : p.Sound) : p.Tallied := (Ptu.sound_iff.1 h).1
theorem Ptu.Sound.recordsRight {p : Ptu} (h : p.Sound) : p.RecordsRight := (Ptu.sound_iff.1 h).2.1

/-- Without a claim outstanding nothing is asked of it. -/
theorem Ptu.claimRight_of_none {p : Ptu} (h : p.claim = none) : p.ClaimRight := by
  constructor <;> simp [h]

/-- A record without a seat is right in any state that has none. -/
theorem PortRec.right_of_seatless {v : SlotView} {r : PortRec} (hs : r.seat = none)
    (h : r.state = .disabled ∨ r.state = .unseated) : r.Right v := by
  constructor
  · rcases h with h | h <;> simp [hs, h]
  · simp [hs]
  · simp [hs]

/-- A record with a seat not below its tier is right in the state that the slot's view gives it. -/
theorem PortRec.right_of_seated {v : SlotView} {r : PortRec} {k : Tier} (hs : r.seat = some k)
    (hk : tierNum r.reqTier ≤ tierNum k) (h : r.state = seatedState v) : r.Right v := by
  unfold seatedState at h
  constructor
  · split_ifs at h <;> simp [hs, h]
  · rintro j hj; rw [hs] at hj; cases hj; exact hk
  · intro _; split_ifs at h with hv <;> simp [h, hv]

namespace PortRec.Right

variable {v : SlotView} {r : PortRec}

/-- A port that is DISABLED or UNSEATED holds no seat. -/
theorem seat_none (h : r.Right v) (hs : r.state = .disabled ∨ r.state = .unseated) : r.seat = none := by
  have := h.seat_state
  rcases hs with hs | hs <;> simpa [hs] using this

/-- A seated port is in the state that the slot's view gives it. -/
theorem state_of_seat (h : r.Right v) {k : Tier} (hs : r.seat = some k) : r.state = seatedState v := by
  have online := h.service_online (by simp [hs])
  have seated := h.seat_state.1 (by simp [hs])
  unfold seatedState
  split_ifs with hv
  · exact online.2 hv
  · exact seated.resolve_left (fun e => hv (online.1 e))

/-- A seated port does not wait and is admin-enabled. -/
theorem state_ne_of_seat (h : r.Right v) {k : Tier} (hs : r.seat = some k) :
    r.state ≠ .unseated ∧ r.state ≠ .disabled := by
  have seated := h.seat_state.1 (by simp [hs])
  rcases seated with e | e <;> simp [e]

/-- An admin-enabled port without a seat waits. -/
theorem unseated_of_seatless (h : r.Right v) (hs : r.seat = none) (he : r.state ≠ .disabled) : r.state = .unseated := by
  have := h.seat_state
  cases hst : r.state <;> simp_all

end PortRec.Right

/-! ### One write -/

/-- R34: the counts after a seat has passed from `old` to `new`. -/
theorem countSeat_get (old new : Option Tier) (h : Counts) (k : Tier) (hk : old = some k → 1 ≤ h.get k) :
    (countSeat old new h).get k + (if old = some k then 1 else 0) = h.get k + (if new = some k then 1 else 0) := by
  unfold countSeat
  cases old with
  | none => cases new with
    | none => simp
    | some j => by_cases e : j = k <;> simp [counts_get_set, e]
  | some i => cases new with
    | none =>
      by_cases e : i = k
      · subst e; have := hk rfl; simp [counts_get_set]; omega
      · simp [counts_get_set, e]
    | some j =>
      by_cases e : i = k <;> by_cases f : j = k
      · subst e; subst f; have := hk rfl; simp [counts_get_set]; omega
      · subst e; have := hk rfl; simp [counts_get_set, f]; omega
      · subst f; simp [counts_get_set, e]
      · simp [counts_get_set, e, f]

/-- A port that keeps its seat leaves the counts as they are. -/
theorem countSeat_same {h : Counts} {seat : Option Tier} (hs : ∀ k, seat = some k → 1 ≤ h.get k) :
    countSeat seat seat h = h := by
  apply counts_ext
  intro k
  have := countSeat_get seat seat h k (hs k)
  omega

theorem waitAfter_same (p : Port) {old new : PortState} (w : List Port) (h : old = .unseated ↔ new = .unseated) :
    waitAfter p old new w = w := by
  unfold waitAfter
  rw [if_neg (by tauto), if_neg (by tauto)]

/-- A port that leaves UNSEATED leaves the list, and one that never was UNSEATED is not on it. -/
theorem waitAfter_left {p : Port} {old new : PortState} {w : List Port} (hw : p ∈ w ↔ old = .unseated)
    (h : new ≠ .unseated) : waitAfter p old new w = w.filter (fun q => q ≠ p) := by
  unfold waitAfter
  rw [if_neg (by tauto)]
  split_ifs with h2
  · rfl
  · have : p ∉ w := by tauto
    exact (List.filter_eq_self.2 fun q hq => by simpa using fun e : q = p => this (e ▸ hq)).symm

namespace Ptu.Tallied

variable {c : At Ptu}

/-- A port that holds a seat is among those counted for its tier. -/
theorem one_le_held {p : Ptu} (h : p.Tallied) {q : Port} {k : Tier} (hs : p.ports[q].seat = some k) :
    1 ≤ p.held.get k := by
  rw [h.held_counts k]
  exact List.countP_pos_iff.2 ⟨q, mem_indices q, by simpa using hs⟩

/-- R34, R36: whatever the record written, the counts and the list follow it. -/
theorem write (h : c.own.Tallied) (p : Port) (r : PortRec) : (ptuWrite p r c).own.Tallied := by
  by_cases e : c.own.ports[p] = r
  · rwa [ptuWrite_same e]
  rw [ptuWrite_own e]
  constructor
  · intro k
    have moved := countP_setAt c.own.ports p r (fun x => decide (x.seat = some k)) (indices_nodup 256) (mem_indices p)
    have counted := countSeat_get c.own.ports[p].seat r.seat c.own.held k (fun hs => h.one_le_held hs)
    have before := h.held_counts k
    simp only [Ptu.holders, decide_eq_true_eq] at moved before ⊢
    omega
  · show (waitAfter _ _ _ _).Nodup
    unfold waitAfter
    split_ifs with h1
    · have : p ∉ c.own.waitList := fun hp => h1.1 ((h.wait_unseated p).1 hp)
      exact List.nodup_append.2 ⟨h.wait_nodup, by simp, by
        intro a ha b hb; rw [List.mem_singleton.1 hb]; exact fun e => this (e ▸ ha)⟩
    · exact h.wait_nodup.filter _
    · exact h.wait_nodup
  · intro q
    by_cases eq : q = p
    · subst eq; rw [setAt_get_self]; exact mem_waitAfter (h.wait_unseated q)
    · rw [setAt_get_ne _ _ _ _ (Ne.symm eq)]
      exact (mem_waitAfter_ne eq).trans (h.wait_unseated q)

end Ptu.Tallied

/-- A right record written keeps the records right. -/
theorem Ptu.RecordsRight.write {c : At Ptu} (h : c.own.RecordsRight) {p : Port} {r : PortRec}
    (hr : r.Right c.own.view[slotOf p]) : (ptuWrite p r c).own.RecordsRight := by
  intro q
  rw [ptuWrite_view, ptuWrite_ports]
  by_cases e : p = q
  · subst e; rwa [setAt_get_self]
  · rw [setAt_get_ne _ _ _ _ e]; exact h q

/-! ### The alarm of the wait list (R36) -/

/-- The request that a change of the wait list sends. -/
def unseatedRequests (before after : List Port) : List AlarmRequest :=
  if before = [] ∧ after ≠ [] then [{ raised := true, kind := .portsUnseated, object := 0 }]
  else if before ≠ [] ∧ after = [] then [{ raised := false, kind := .portsUnseated, object := 0 }]
  else []

theorem unseatedAlarm_eq (before after : List Port) (b : Bus) :
    unseatedAlarm before after b = { b with toAtu := b.toAtu ++ unseatedRequests before after } := by
  unfold unseatedAlarm unseatedRequests
  split_ifs <;> simp [Bus.raise, Bus.clearAlarm]

@[simp] theorem unseatedRequests_same (w : List Port) : unseatedRequests w w = [] := by
  simp [unseatedRequests]

/-- A list that only shrinks sends nothing but the clear at its end. -/
theorem unseatedRequests_sublist {before after : List Port} (h : after.Sublist before) :
    unseatedRequests before after = if before ≠ [] ∧ after = []
      then [{ raised := false, kind := .portsUnseated, object := 0 }] else [] := by
  unfold unseatedRequests
  rw [if_neg]
  rintro ⟨rfl, ha⟩
  exact ha (List.sublist_nil.1 h)

/-- Two shrinkings send what the whole shrinking sends. -/
theorem unseatedRequests_trans {a b c : List Port} (h1 : b.Sublist a) (h2 : c.Sublist b) :
    unseatedRequests a b ++ unseatedRequests b c = unseatedRequests a c := by
  rw [unseatedRequests_sublist h1, unseatedRequests_sublist h2, unseatedRequests_sublist (h2.trans h1)]
  by_cases ha : a = []
  · subst ha; have := List.sublist_nil.1 h1; subst this; simp
  · by_cases hb : b = []
    · subst hb; simp [ha, List.sublist_nil.1 h2]
    · simp [hb, ha]

theorem ptuWrite_toAtu (p : Port) (r : PortRec) (c : At Ptu) :
    (ptuWrite p r c).bus.toAtu = c.bus.toAtu ++ unseatedRequests c.own.waitList (ptuWrite p r c).own.waitList := by
  by_cases h : c.own.ports[p] = r
  · rw [ptuWrite_same h]; simp
  · rw [ptuWrite_own h]
    simp only [ptuWrite, h, if_false, unseatedAlarm_eq, markIf_eq, Bus.mark, Bus.sendPtuMxw]
    split_ifs <;> rfl

/-- R18: a write of another record marks the port, and the licence summary when a figure of it has changed. -/
theorem ptuWrite_toSpw {p : Port} {r : PortRec} {c : At Ptu} (h : c.own.ports[p] ≠ r) :
    (ptuWrite p r c).bus.toSpw = c.bus.toSpw ++ [.port p] ++
      (if (ptuWrite p r c).own.held ≠ c.own.held ∨ (ptuWrite p r c).own.waitList ≠ c.own.waitList
        then [.licenceSummary] else []) := by
  rw [ptuWrite_own h]
  simp only [ptuWrite, h, if_false, unseatedAlarm_eq, markIf_eq, Bus.mark, Bus.sendPtuMxw]
  split_ifs <;> simp_all

/-- A write of another record, whole: the record with what is counted and listed, and the three channels it sends on. -/
theorem ptuWrite_of_ne {p : Port} {r : PortRec} {c : At Ptu} (h : c.own.ports[p] ≠ r) :
    ptuWrite p r c =
      let held := countSeat c.own.ports[p].seat r.seat c.own.held
      let wait := waitAfter p c.own.ports[p].state r.state c.own.waitList
      { own := { c.own with ports := setAt c.own.ports p r, held := held, waitList := wait }
        bus := { c.bus with
          toSpw := c.bus.toSpw ++ [.port p] ++
            (if held ≠ c.own.held ∨ wait ≠ c.own.waitList then [.licenceSummary] else [])
          ptuMxw := c.bus.ptuMxw ++
            (if (c.own.ports[p].state = .inService) ≠ (r.state = .inService) then [p] else [])
          toAtu := c.bus.toAtu ++ unseatedRequests c.own.waitList wait } } := by
  have own := ptuWrite_own h
  have bus := ptuWrite_bus p r c
  rw [ptuWrite_toSpw h, ptuWrite_ptuMxw, ptuWrite_toAtu, own] at bus
  exact At.eq_of own bus

/-! ### A run of writes -/

/-- One port record after another is written, of the ports of the list in its order. -/
inductive PtuWrites : List Port → At Ptu → At Ptu → Prop where
  | nil (c : At Ptu) : PtuWrites [] c c
  | cons (p : Port) (r : PortRec) {l : List Port} {c d : At Ptu} (h : PtuWrites l (ptuWrite p r c) d) :
      PtuWrites (p :: l) c d

namespace PtuWrites

variable {l m : List Port} {c d e : At Ptu}

theorem single (p : Port) (r : PortRec) (c : At Ptu) : PtuWrites [p] c (ptuWrite p r c) := .cons p r (.nil _)

theorem append (h : PtuWrites l c d) (h' : PtuWrites m d e) : PtuWrites (l ++ m) c e := by
  induction h with
  | nil => exact h'
  | cons p r _ ih => exact .cons p r (ih h')

/-- A fold whose every step is a write of its port is a run of writes. -/
theorem foldl {g : At Ptu → Port → At Ptu} (hg : ∀ c p, ∃ r, g c p = ptuWrite p r c) (l : List Port) (c : At Ptu) :
    PtuWrites l c (l.foldl g c) := by
  induction l generalizing c with
  | nil => exact .nil c
  | cons p l ih => obtain ⟨r, hr⟩ := hg c p; exact .cons p r (hr ▸ ih (g c p))

/-- Nothing of the PTU changes but the records, the counts and the list. -/
theorem own_eq (h : PtuWrites l c d) :
    d.own = { c.own with ports := d.own.ports, held := d.own.held, waitList := d.own.waitList } := by
  induction h with
  | nil => rfl
  | cons p r _ ih => rw [ih]; simp

/-- Nothing of the bus changes but the marks, the recompute additions and the alarm requests. -/
theorem bus_eq (h : PtuWrites l c d) :
    d.bus = { c.bus with toSpw := d.bus.toSpw, ptuMxw := d.bus.ptuMxw, toAtu := d.bus.toAtu } := by
  induction h with
  | nil => rfl
  | cons p r _ ih => rw [ih, ptuWrite_bus p r]

theorem view_eq (h : PtuWrites l c d) : d.own.view = c.own.view := by rw [h.own_eq]
theorem claim_eq (h : PtuWrites l c d) : d.own.claim = c.own.claim := by rw [h.own_eq]
theorem granted_eq (h : PtuWrites l c d) : d.own.granted = c.own.granted := by rw [h.own_eq]
theorem heldInputs_eq (h : PtuWrites l c d) : d.own.heldInputs = c.own.heldInputs := by rw [h.own_eq]

theorem tallied (h : PtuWrites l c d) (ht : c.own.Tallied) : d.own.Tallied := by
  induction h with
  | nil => exact ht
  | cons p r _ ih => exact ih (ht.write p r)

/-- A port that the list does not name stands. -/
theorem port_eq (h : PtuWrites l c d) {q : Port} (hq : q ∉ l) : d.own.ports[q] = c.own.ports[q] := by
  induction h with
  | nil => rfl
  | cons p r _ ih =>
    obtain ⟨hp, hl⟩ := not_or.1 (List.mem_cons.not.1 hq)
    rw [ih hl, ptuWrite_port_ne _ _ (Ne.symm hp)]

/-- A run of writes over ports listed once, whose last records say which ports enter or leave IN_SERVICE. -/
theorem ptuMxw_eq (h : PtuWrites l c d) (hl : l.Nodup) :
    d.bus.ptuMxw = c.bus.ptuMxw ++
      l.filter (fun q => decide ((c.own.ports[q].state = .inService) ≠ (d.own.ports[q].state = .inService))) := by
  induction h with
  | nil => simp
  | @cons p r l c d h ih =>
    obtain ⟨hp, hl⟩ := List.nodup_cons.1 hl
    have last : d.own.ports[p] = r := by rw [h.port_eq hp, ptuWrite_ports, setAt_get_self]
    have rest : l.filter (fun q => decide (((ptuWrite p r c).own.ports[q].state = .inService) ≠
          (d.own.ports[q].state = .inService))) =
        l.filter (fun q => decide ((c.own.ports[q].state = .inService) ≠ (d.own.ports[q].state = .inService))) :=
      List.filter_congr fun q hq => by rw [ptuWrite_port_ne r c (ne_of_mem_of_not_mem hq hp).symm]
    rw [ih hl, ptuWrite_ptuMxw, rest, List.filter_cons, last, List.append_assoc]
    split_ifs <;> simp_all

/-- Where no port becomes UNSEATED the list only loses ports, and the alarm is cleared when the last one goes (R36). -/
theorem shrinks (h : PtuWrites l c d) (hl : l.Nodup)
    (hw : ∀ q ∈ l, d.own.ports[q].state = .unseated → c.own.ports[q].state = .unseated) :
    d.own.waitList.Sublist c.own.waitList ∧
      d.bus.toAtu = c.bus.toAtu ++ unseatedRequests c.own.waitList d.own.waitList := by
  induction h with
  | nil => simp
  | @cons p r l c d h ih =>
    obtain ⟨hp, hl⟩ := List.nodup_cons.1 hl
    have last : d.own.ports[p] = r := by rw [h.port_eq hp, ptuWrite_ports, setAt_get_self]
    have first : (ptuWrite p r c).own.waitList.Sublist c.own.waitList := by
      by_cases e : c.own.ports[p] = r
      · rw [ptuWrite_same e]
      · rw [ptuWrite_own e]
        show (waitAfter _ _ _ _).Sublist _
        have := hw p (by simp); rw [last] at this
        unfold waitAfter
        rw [if_neg (by tauto)]
        split_ifs
        · exact List.filter_sublist
        · exact .refl _
    obtain ⟨sub, sent⟩ := ih hl fun q hq e => by
      have := hw q (List.mem_cons_of_mem _ hq) e
      rwa [ptuWrite_port_ne r c (ne_of_mem_of_not_mem hq hp).symm]
    exact ⟨sub.trans first, by rw [sent, ptuWrite_toAtu, List.append_assoc, unseatedRequests_trans first sub]⟩

/-- Where every port keeps its seat and its place, the counts, the list and the alarm stand, and exactly the ports
whose record has changed are marked, in the order of the list (R18). -/
theorem keeps_seats (h : PtuWrites l c d) (hl : l.Nodup) (ht : c.own.Tallied)
    (hk : ∀ q ∈ l, d.own.ports[q].seat = c.own.ports[q].seat ∧
      (c.own.ports[q].state = .unseated ↔ d.own.ports[q].state = .unseated)) :
    d.own.held = c.own.held ∧ d.own.waitList = c.own.waitList ∧ d.bus.toAtu = c.bus.toAtu ∧
      d.bus.toSpw = c.bus.toSpw ++ (l.filter (fun q => d.own.ports[q] ≠ c.own.ports[q])).map .port := by
  induction h with
  | nil => simp
  | @cons p r l c d h ih =>
    obtain ⟨hp, hl⟩ := List.nodup_cons.1 hl
    have last : d.own.ports[p] = r := by rw [h.port_eq hp, ptuWrite_ports, setAt_get_self]
    have stands : ∀ q ∈ l, (ptuWrite p r c).own.ports[q] = c.own.ports[q] := fun q hq =>
      ptuWrite_port_ne r c (ne_of_mem_of_not_mem hq hp).symm
    obtain ⟨held, wait, atu, spw⟩ := ih hl (ht.write p r) fun q hq => by
      rw [stands q hq]; exact hk q (List.mem_cons_of_mem _ hq)
    have rest : l.filter (fun q => d.own.ports[q] ≠ (ptuWrite p r c).own.ports[q]) =
        l.filter (fun q => d.own.ports[q] ≠ c.own.ports[q]) :=
      List.filter_congr fun q hq => by rw [stands q hq]
    have seat := (hk p (by simp)).1
    have place := (hk p (by simp)).2
    rw [last] at seat place
    have first : (ptuWrite p r c).own.held = c.own.held ∧ (ptuWrite p r c).own.waitList = c.own.waitList := by
      by_cases e : c.own.ports[p] = r
      · rw [ptuWrite_same e]; exact ⟨rfl, rfl⟩
      · rw [ptuWrite_own e]
        exact ⟨by rw [seat]; exact countSeat_same fun k hk => ht.one_le_held hk, waitAfter_same p _ place⟩
    refine ⟨held.trans first.1, wait.trans first.2, ?_, ?_⟩
    · rw [atu, ptuWrite_toAtu, first.2]; simp
    · rw [spw, rest, List.filter_cons, last]
      by_cases e : c.own.ports[p] = r
      · rw [ptuWrite_same e]; simp [e]
      · have e' : decide (r ≠ c.own.ports[p]) = true := by simpa using Ne.symm e
        rw [ptuWrite_toSpw e, if_pos e']; simp [first]

end PtuWrites

/-- A fold that writes each port's record anew from the old one: the records after it. -/
theorem foldl_ports {g : At Ptu → Port → At Ptu} {f : Port → PortRec → PortRec}
    (hg : ∀ c p, g c p = ptuWrite p (f p c.own.ports[p]) c) {l : List Port} (hl : l.Nodup) (c : At Ptu) (q : Port) :
    (l.foldl g c).own.ports[q] = if q ∈ l then f q c.own.ports[q] else c.own.ports[q] := by
  induction l generalizing c with
  | nil => simp
  | cons p l ih =>
    obtain ⟨hp, hl⟩ := List.nodup_cons.1 hl
    rw [List.foldl_cons, ih hl, hg, ptuWrite_ports]
    by_cases e : p = q
    · subst e; simp only [hp, if_false, setAt_get_self, List.mem_cons, true_or, if_true]
    · rw [setAt_get_ne _ _ _ _ e]; simp [Ne.symm e]

end Sys2Proof.Machine

/-! PROOFS. Seats given and taken (R35 to R39): the seat rule in the book's terms, wait-list service and reclaim. -/

namespace Sys2Proof.Machine

open Sys2Proof

/-! ### The seat rule (R35) -/

/-- The model's rule with nothing excluded is the book's. -/
theorem seatRule_eq_seatFor (p : Ptu) (r : Tier) : seatRule p.held p.granted r none = p.seatFor r [] := by
  simp [seatRule, Ptu.seatFor, Ptu.fits, tiers]

/-- What the rule answers is the lowest tier that would do. -/
theorem lowestFit_iff {p : Ptu} {r : Tier} {seat : Option Tier} :
    p.lowestFit r seat = true ↔ seatRule p.held p.granted r none = seat := by
  cases seat with
  | none =>
    rw [seatRule_eq_none]
    simp only [Ptu.lowestFit, Ptu.fits, List.all_eq_true, Bool.not_eq_true', Bool.and_eq_false_iff, decide_eq_false_iff_not]
    constructor
    · intro h j hj
      have := h j (by cases j <;> simp [tiers])
      tauto
    · intro h j _
      have := h j
      simp only [ne_eq, reduceCtorEq, not_false_eq_true, and_true] at this
      tauto
  | some k =>
    rw [seatRule_eq_some]
    simp only [Ptu.lowestFit, Ptu.fits, Bool.and_eq_true, decide_eq_true_eq, List.all_eq_true, Bool.or_eq_true,
      Bool.not_eq_true', Bool.and_eq_false_iff, decide_eq_false_iff_not, ne_eq, reduceCtorEq, not_false_eq_true, and_true]
    constructor
    · rintro ⟨hk, lowest⟩
      refine ⟨hk, fun j hj hfit => ?_⟩
      have := lowest j (by cases j <;> simp [tiers])
      omega
    · rintro ⟨hk, lowest⟩
      refine ⟨hk, fun j _ => ?_⟩
      have := lowest j
      omega

/-- With fewer seats left the rule finds none where it found none. -/
theorem seatRule_none_mono {held held' granted : Counts} {r : Tier} (hle : ∀ k, held.get k ≤ held'.get k)
    (h : seatRule held granted r none = none) : seatRule held' granted r none = none := by
  rw [seatRule_eq_none] at h ⊢
  intro j hj
  exact h j ⟨hj.1, lt_of_le_of_lt (hle j) hj.2.1, hj.2.2⟩

/-- The seat found is not below the tier asked for. -/
theorem seatRule_tier {held granted : Counts} {r k : Tier} {ex : Option Tier} (h : seatRule held granted r ex = some k) :
    tierNum r ≤ tierNum k := (seatRule_eq_some.1 h).1.1

theorem seatedState_ne (v : SlotView) : seatedState v ≠ .unseated ∧ seatedState v ≠ .disabled := by
  unfold seatedState; split_ifs <;> simp

/-! ### One waiting port served (R37) -/

/-- The record of a waiting port that takes a seat. -/
def seatedRec (v : SlotView) (k : Tier) (r : PortRec) : PortRec :=
  { r with seat := some k, reason := .seatGranted, state := seatedState v }

theorem serveWaiter_of_none {c : At Ptu} {p : Port}
    (h : seatRule c.own.held c.own.granted c.own.ports[p].reqTier none = none) : serveWaiter c p = c := by
  simp only [serveWaiter, h]

theorem serveWaiter_of_some {c : At Ptu} {p : Port} {k : Tier}
    (h : seatRule c.own.held c.own.granted c.own.ports[p].reqTier none = some k) :
    serveWaiter c p = ptuWrite p (seatedRec c.own.view[slotOf p] k c.own.ports[p]) c := by
  simp only [serveWaiter, h]; rfl

theorem serveWaiter_writes (c : At Ptu) (p : Port) : ∃ r, serveWaiter c p = ptuWrite p r c := by
  cases h : seatRule c.own.held c.own.granted c.own.ports[p].reqTier none with
  | none => exact ⟨_, (serveWaiter_of_none h).trans (ptuWrite_same rfl).symm⟩
  | some k => exact ⟨_, serveWaiter_of_some h⟩

/-- The port is UNSEATED with no seat: it waits for one. -/
def Ptu.Waits (p : Ptu) (q : Port) : Prop := p.ports[q].state = .unseated ∧ p.ports[q].seat = none

theorem Ptu.waits_of_mem {p : Ptu} (ht : p.Tallied) (hr : p.RecordsRight) {q : Port} (hq : q ∈ p.waitList) :
    p.Waits q :=
  have state := (ht.wait_unseated q).1 hq
  ⟨state, (hr q).seat_none (.inr state)⟩

theorem waiterServed_of_none {p : Ptu} {q : Port} (h : seatRule p.held p.granted p.ports[q].reqTier none = none) :
    p.waiterServed q = p := by
  rw [seatRule_eq_seatFor] at h
  simp only [Ptu.waiterServed, h]

theorem waiterServed_of_some {p : Ptu} {q : Port} {k : Tier}
    (h : seatRule p.held p.granted p.ports[q].reqTier none = some k) :
    p.waiterServed q = { p with
      ports := setAt p.ports q (seatedRec p.view[slotOf q] k p.ports[q])
      held := p.held.set k (p.held.get k + 1)
      waitList := p.waitList.filter (fun o => o ≠ q) } := by
  rw [seatRule_eq_seatFor] at h
  simp only [Ptu.waiterServed, h]
  rfl

/-- A waiting port is served as the book says: it takes the seat that it finds and leaves the list, or keeps its place. -/
theorem serveWaiter_own {c : At Ptu} {p : Port} (hw : c.own.Waits p) : (serveWaiter c p).own = c.own.waiterServed p := by
  cases h : seatRule c.own.held c.own.granted c.own.ports[p].reqTier none with
  | none => rw [serveWaiter_of_none h, waiterServed_of_none h]
  | some k =>
    obtain ⟨state, seat⟩ := hw
    have other : c.own.ports[p] ≠ seatedRec c.own.view[slotOf p] k c.own.ports[p] := fun e => by
      have := congrArg PortRec.seat e
      rw [seat] at this; cases this
    have left : (seatedRec c.own.view[slotOf p] k c.own.ports[p]).state ≠ .unseated := (seatedState_ne _).1
    rw [serveWaiter_of_some h, waiterServed_of_some h, ptuWrite_own other, seat, state]
    simp only [waitAfter, ne_eq, not_true_eq_false, if_false, left, not_false_eq_true, and_self, if_true]
    rfl

theorem serveWaiter_held_le {c : At Ptu} {p : Port} (hw : c.own.Waits p) (k : Tier) :
    c.own.held.get k ≤ (serveWaiter c p).own.held.get k := by
  rw [serveWaiter_own hw]
  cases h : seatRule c.own.held c.own.granted c.own.ports[p].reqTier none with
  | none => rw [waiterServed_of_none h]
  | some j =>
    rw [waiterServed_of_some h]
    simp only [counts_get_set]
    split_ifs with e
    · subst e; omega
    · rfl

theorem serveWaiter_recordsRight {c : At Ptu} (hr : c.own.RecordsRight) (p : Port) :
    (serveWaiter c p).own.RecordsRight := by
  cases h : seatRule c.own.held c.own.granted c.own.ports[p].reqTier none with
  | none => rwa [serveWaiter_of_none h]
  | some k =>
    rw [serveWaiter_of_some h]
    exact hr.write (PortRec.right_of_seated rfl (seatRule_tier h) rfl)

/-- Service disables no port and enables none. -/
theorem serveWaiter_disabled {c : At Ptu} {p : Port} (hw : c.own.Waits p) (q : Port) :
    (serveWaiter c p).own.ports[q].state = .disabled ↔ c.own.ports[q].state = .disabled := by
  cases h : seatRule c.own.held c.own.granted c.own.ports[p].reqTier none with
  | none => rw [serveWaiter_of_none h]
  | some k =>
    rw [serveWaiter_of_some h, ptuWrite_ports, setAt_get]
    split_ifs with e
    · subst e; exact iff_of_false (seatedState_ne _).2 (by rw [hw.1]; decide)
    · rfl

/-! ### Wait-list service (R37) -/

section served

variable {l : List Port} {c : At Ptu}

theorem serve_writes (l : List Port) (c : At Ptu) : PtuWrites l c (l.foldl serveWaiter c) :=
  PtuWrites.foldl serveWaiter_writes l c

/-- The ports still to come wait as before. -/
theorem waits_after_serve {p : Port} {l : List Port} (hp : p ∉ l) (hw : ∀ q ∈ l, c.own.Waits q) :
    ∀ q ∈ l, (serveWaiter c p).own.Waits q := by
  intro q hq
  obtain ⟨r, hr⟩ := serveWaiter_writes c p
  have : (serveWaiter c p).own.ports[q] = c.own.ports[q] := by
    rw [hr, ptuWrite_port_ne r c (ne_of_mem_of_not_mem hq hp).symm]
  unfold Ptu.Waits; rw [this]; exact hw q hq

theorem serve_own (hl : l.Nodup) (hw : ∀ q ∈ l, c.own.Waits q) :
    (l.foldl serveWaiter c).own = l.foldl Ptu.waiterServed c.own := by
  induction l generalizing c with
  | nil => rfl
  | cons p l ih =>
    obtain ⟨hp, hl⟩ := List.nodup_cons.1 hl
    rw [List.foldl_cons, List.foldl_cons, ← serveWaiter_own (hw p (by simp))]
    exact ih hl (waits_after_serve hp fun q hq => hw q (List.mem_cons_of_mem _ hq))

theorem serve_recordsRight (l : List Port) (hr : c.own.RecordsRight) : (l.foldl serveWaiter c).own.RecordsRight := by
  induction l generalizing c with
  | nil => exact hr
  | cons p l ih => exact ih (serveWaiter_recordsRight hr p)

theorem serve_disabled (hl : l.Nodup) (hw : ∀ q ∈ l, c.own.Waits q) (q : Port) :
    (l.foldl serveWaiter c).own.ports[q].state = .disabled ↔ c.own.ports[q].state = .disabled := by
  induction l generalizing c with
  | nil => rfl
  | cons p l ih =>
    obtain ⟨hp, hl⟩ := List.nodup_cons.1 hl
    exact (ih hl (waits_after_serve hp fun q hq => hw q (List.mem_cons_of_mem _ hq))).trans
      (serveWaiter_disabled (hw p (by simp)) q)

/-- Service takes seats and gives none back. -/
theorem serve_held_le (hl : l.Nodup) (hw : ∀ q ∈ l, c.own.Waits q) (k : Tier) :
    c.own.held.get k ≤ (l.foldl serveWaiter c).own.held.get k := by
  induction l generalizing c with
  | nil => rfl
  | cons p l ih =>
    obtain ⟨hp, hl⟩ := List.nodup_cons.1 hl
    exact (serveWaiter_held_le (hw p (by simp)) k).trans
      (ih hl (waits_after_serve hp fun q hq => hw q (List.mem_cons_of_mem _ hq)))

/-- Where no port of the list finds a seat, service changes nothing. -/
theorem serve_of_none (h : ∀ q ∈ l, seatRule c.own.held c.own.granted c.own.ports[q].reqTier none = none) :
    l.foldl serveWaiter c = c := by
  induction l with
  | nil => rfl
  | cons p l ih =>
    rw [List.foldl_cons, serveWaiter_of_none (h p (by simp))]
    exact ih fun q hq => h q (List.mem_cons_of_mem _ hq)

/-- A port of the list that still waits after the scan finds no seat. -/
theorem serve_starves (hl : l.Nodup) (hw : ∀ q ∈ l, c.own.Waits q) {q : Port} (hq : q ∈ l)
    (hs : (l.foldl serveWaiter c).own.ports[q].state = .unseated) :
    seatRule (l.foldl serveWaiter c).own.held c.own.granted (l.foldl serveWaiter c).own.ports[q].reqTier none = none := by
  induction l generalizing c with
  | nil => simp at hq
  | cons p l ih =>
    obtain ⟨hp, hl⟩ := List.nodup_cons.1 hl
    have later := waits_after_serve hp fun q hq => hw q (List.mem_cons_of_mem _ hq)
    rw [List.foldl_cons] at hs ⊢
    have granted : (serveWaiter c p).own.granted = c.own.granted := by
      obtain ⟨r, hr⟩ := serveWaiter_writes c p
      rw [hr, ptuWrite_granted]
    rcases List.mem_cons.1 hq with rfl | hq
    · rw [(serve_writes l (serveWaiter c q)).port_eq hp] at hs ⊢
      cases h : seatRule c.own.held c.own.granted c.own.ports[q].reqTier none with
      | none =>
        rw [serveWaiter_of_none h] at later ⊢
        exact seatRule_none_mono (serve_held_le ‹l.Nodup› later) h
      | some k =>
        rw [serveWaiter_of_some h, ptuWrite_ports, setAt_get_self] at hs
        exact absurd hs (seatedState_ne _).1
    · rw [← granted]
      exact ih hl later hq hs

end served

section service

variable {c : At Ptu} (ht : c.own.Tallied) (hr : c.own.RecordsRight)

include ht hr

theorem service_own : (waitListService c).own = c.own.waitList.foldl Ptu.waiterServed c.own :=
  serve_own ht.wait_nodup fun _ hq => Ptu.waits_of_mem ht hr hq

theorem service_disabled (q : Port) :
    (waitListService c).own.ports[q].state = .disabled ↔ c.own.ports[q].state = .disabled :=
  serve_disabled ht.wait_nodup (fun _ hq => Ptu.waits_of_mem ht hr hq) q

/-- R37: after the scan no port left on the list finds a seat. -/
theorem service_starves {q : Port} (hq : q ∈ (waitListService c).own.waitList) :
    (waitListService c).own.lowestFit (waitListService c).own.ports[q].reqTier none = true := by
  have writes := serve_writes c.own.waitList c
  have sub := (writes.shrinks ht.wait_nodup fun q hq _ => (Ptu.waits_of_mem ht hr hq).1).1
  rw [lowestFit_iff]
  have starved := serve_starves ht.wait_nodup (fun _ hq => Ptu.waits_of_mem ht hr hq) (sub.subset hq)
    (((writes.tallied ht).wait_unseated q).1 hq)
  rw [← writes.granted_eq] at starved
  exact starved

end service

theorem service_writes (c : At Ptu) : PtuWrites c.own.waitList c (waitListService c) := serve_writes c.own.waitList c

theorem service_recordsRight {c : At Ptu} (hr : c.own.RecordsRight) : (waitListService c).own.RecordsRight :=
  serve_recordsRight _ hr

/-! ### Reclaim (R39) -/

theorem reclaimPort_writes (k : Tier) (c : At Ptu) (p : Port) : ∃ r, reclaimPort k c p = ptuWrite p r c := by
  cases h : seatRule c.own.held c.own.granted c.own.ports[p].reqTier (some k) <;> simp only [reclaimPort, h] <;>
    exact ⟨_, rfl⟩

/-- A seated port is re-seated in its state, or unseated. -/
theorem reclaimPort_recordsRight {c : At Ptu} (hr : c.own.RecordsRight) {k j : Tier} {p : Port}
    (hs : c.own.ports[p].seat = some j) : (reclaimPort k c p).own.RecordsRight := by
  cases h : seatRule c.own.held c.own.granted c.own.ports[p].reqTier (some k) with
  | none => simp only [reclaimPort, h]; exact hr.write (PortRec.right_of_seatless rfl (.inr rfl))
  | some i =>
    simp only [reclaimPort, h]
    exact hr.write (PortRec.right_of_seated rfl (seatRule_tier h) ((hr p).state_of_seat hs))

theorem reclaimPorts_recordsRight {k : Tier} {l : List Port} {c : At Ptu} (hl : l.Nodup) (hr : c.own.RecordsRight)
    (hs : ∀ q ∈ l, c.own.ports[q].seat = some k) : (l.foldl (reclaimPort k) c).own.RecordsRight := by
  induction l generalizing c with
  | nil => exact hr
  | cons p l ih =>
    obtain ⟨hp, hl⟩ := List.nodup_cons.1 hl
    refine ih hl (reclaimPort_recordsRight hr (hs p (by simp))) fun q hq => ?_
    obtain ⟨r, e⟩ := reclaimPort_writes k c p
    rw [e, ptuWrite_port_ne r c (ne_of_mem_of_not_mem hq hp).symm]
    exact hs q (List.mem_cons_of_mem _ hq)

theorem holdersOf_nodup (k : Tier) (ports : Vector PortRec 256) : (holdersOf k ports).Nodup :=
  (List.nodup_reverse.2 (indices_nodup 256)).filter _

theorem mem_holdersOf {k : Tier} {ports : Vector PortRec 256} {q : Port} :
    q ∈ holdersOf k ports ↔ ports[q].seat = some k := by
  simp [holdersOf]

theorem reclaimPass_recordsRight {c : At Ptu} (hr : c.own.RecordsRight) (k : Tier) :
    (reclaimPass c k).own.RecordsRight :=
  reclaimPorts_recordsRight ((holdersOf_nodup k _).sublist (List.take_sublist _ _)) hr
    fun _ hq => mem_holdersOf.1 (List.mem_of_mem_take hq)

theorem reclaimPass_writes (c : At Ptu) (k : Tier) : ∃ l, PtuWrites l c (reclaimPass c k) :=
  ⟨_, PtuWrites.foldl (reclaimPort_writes k) _ c⟩

/-- The passes for tiers 1, 2 and 3 are one run of writes that keeps the records right. -/
theorem reclaimPasses {c : At Ptu} (hr : c.own.RecordsRight) :
    (∃ l, PtuWrites l c (tiers.foldl reclaimPass c)) ∧ (tiers.foldl reclaimPass c).own.RecordsRight := by
  have passes (ks : List Tier) : ∀ c : At Ptu, c.own.RecordsRight →
      (∃ l, PtuWrites l c (ks.foldl reclaimPass c)) ∧ (ks.foldl reclaimPass c).own.RecordsRight := by
    induction ks with
    | nil => exact fun c hr => ⟨⟨[], .nil c⟩, hr⟩
    | cons k ks ih =>
      intro c hr
      obtain ⟨⟨l, later⟩, right⟩ := ih _ (reclaimPass_recordsRight hr k)
      obtain ⟨m, first⟩ := reclaimPass_writes c k
      exact ⟨⟨m ++ l, first.append later⟩, right⟩
  exact passes tiers c hr

end Sys2Proof.Machine

/-! PROOFS. The operations of the PTU one by one: what each writes, and that each leaves a sound port table sound (R4 to
R17, R38, R39, R112). -/

namespace Sys2Proof.Machine

open Sys2Proof

/-! ### A sound table without a claim outstanding -/

/-- The port table is sound and no claim is outstanding: the PTU may take its next input (R4). -/
structure Ptu.Unclaimed (p : Ptu) : Prop where
  tallied : p.Tallied
  recordsRight : p.RecordsRight
  no_claim : p.claim = none

theorem Ptu.Unclaimed.sound {p : Ptu} (h : p.Unclaimed) : p.Sound :=
  Ptu.sound_iff.2 ⟨h.tallied, h.recordsRight, Ptu.claimRight_of_none h.no_claim⟩

theorem Ptu.Sound.unclaimed {p : Ptu} (h : p.Sound) (hc : p.claim = none) : p.Unclaimed :=
  ⟨h.tallied, h.recordsRight, hc⟩

/-- The claim answered is outstanding no more. -/
theorem Ptu.Sound.dropClaim {p : Ptu} (h : p.Sound) : { p with claim := none : Ptu }.Unclaimed :=
  ⟨⟨h.held_counts, h.wait_nodup, h.wait_unseated⟩, h.recordsRight, rfl⟩

/-- A claim for a port in the state that the claim asks about keeps the table sound. -/
theorem Ptu.Sound.withClaim {p : Ptu} (h : p.Sound) {x : Option PtuClaim}
    (hx : { p with claim := x : Ptu }.ClaimRight) : { p with claim := x : Ptu }.Sound :=
  Ptu.sound_iff.2 ⟨⟨h.held_counts, h.wait_nodup, h.wait_unseated⟩, h.recordsRight, hx⟩

/-- The inputs held say nothing of the ports. -/
theorem Ptu.Sound.withHeldInputs {p : Ptu} (h : p.Sound) (x : List PtuHeld) :
    { p with heldInputs := x : Ptu }.Sound :=
  Ptu.sound_iff.2 ⟨⟨h.held_counts, h.wait_nodup, h.wait_unseated⟩, h.recordsRight,
    ⟨h.noted_tier, h.port_claim, h.tier_claim⟩⟩

section unclaimed

variable {c d : At Ptu} {l : List Port}

theorem Ptu.Unclaimed.of_writes (h : PtuWrites l c d) (ht : c.own.Tallied) (hc : c.own.claim = none)
    (hr : d.own.RecordsRight) : d.own.Unclaimed :=
  ⟨h.tallied ht, hr, h.claim_eq.trans hc⟩

theorem Ptu.Unclaimed.write (h : c.own.Unclaimed) {p : Port} {r : PortRec} (hr : r.Right c.own.view[slotOf p]) :
    (ptuWrite p r c).own.Unclaimed :=
  .of_writes (.single p r c) h.tallied h.no_claim (h.recordsRight.write hr)

theorem Ptu.Unclaimed.service (h : c.own.Unclaimed) : (waitListService c).own.Unclaimed :=
  .of_writes (service_writes c) h.tallied h.no_claim (service_recordsRight h.recordsRight)

end unclaimed

/-! ### Notices and endings leave the table -/

@[simp] theorem ptuRefuse_own (r : Reason) (p : Port) (c : At Ptu) : (ptuRefuse r p c).own = c.own := rfl
@[simp] theorem ptuClose_own (p : Port) (w : Int) (c : At Ptu) : (ptuClose p w c).own = c.own := rfl

/-- R13: the notice is sent when the number of admin-enabled ports has crossed 0, and nothing else changes. -/
theorem noticeIfCrossed_eq (i : Slot) (before : Bool) (c : At Ptu) : noticeIfCrossed i before c =
    { c with bus := { c.bus with ptuSls := c.bus.ptuSls ++
        (if before ≠ slotInUse c.own i then [.useNotice i (slotInUse c.own i)] else []) } } := by
  unfold noticeIfCrossed sendUseNotice
  split_ifs <;> simp [Bus.sendPtuSls]

@[simp] theorem noticeIfCrossed_own (i : Slot) (before : Bool) (c : At Ptu) :
    (noticeIfCrossed i before c).own = c.own := by
  rw [noticeIfCrossed_eq]

@[simp] theorem sendUseNotice_own (i : Slot) (c : At Ptu) : (sendUseNotice i c).own = c.own := rfl

/-- A slot is in use exactly when one of its ports is admin-enabled. -/
theorem slotInUse_iff {p : Ptu} {i : Slot} :
    slotInUse p i = true ↔ ∃ q : Port, slotOf q = i ∧ p.ports[q].state ≠ .disabled := by
  simp [slotInUse, mem_portsOf, PortRec.enabled]

/-- Slots stay in use where no port is enabled or disabled. -/
theorem slotInUse_congr {p p' : Ptu} {i : Slot}
    (h : ∀ q : Port, slotOf q = i → (p.ports[q].state = .disabled ↔ p'.ports[q].state = .disabled)) :
    slotInUse p i = slotInUse p' i := by
  rw [Bool.eq_iff_iff, slotInUse_iff, slotInUse_iff]
  exact exists_congr fun q => and_congr_right fun e => not_congr (h q e)

theorem portsOf_nodup (i : Slot) : (portsOf i).Nodup := by
  refine (indices_nodup 32).map fun a b h => ?_
  have := congrArg Fin.val h
  exact Fin.ext (by simpa [portOf] using this)

/-! ### PORT ENABLE and PORT DISABLE (R6, R8, R11) -/

theorem enabled_iff {r : PortRec} : r.enabled = true ↔ r.state ≠ .disabled := by simp [PortRec.enabled]

/-- R8: the tier that the port has already closes the task. -/
theorem ptuEnablePort_same {p : Port} {t : Tier} {c : At Ptu} (wait : Bool) (on : c.own.ports[p].state ≠ .disabled)
    (ht : t = c.own.ports[p].reqTier) : ptuEnablePort p t wait c = ptuClose p 0 c := by
  simp only [ptuEnablePort, enabled_iff.2 on, ht, and_self, if_true]

/-- R6, R8: a failed check of the slot refuses the task. -/
theorem ptuEnablePort_refused {p : Port} {t : Tier} {c : At Ptu} {why : Reason} (wait : Bool)
    (other : c.own.ports[p].state = .disabled ∨ t ≠ c.own.ports[p].reqTier)
    (h : slotCheck c.own.view[slotOf p] t = some why) : ptuEnablePort p t wait c = ptuRefuse why p c := by
  have : ¬ (c.own.ports[p].enabled = true ∧ t = c.own.ports[p].reqTier) := by rw [enabled_iff]; tauto
  simp only [ptuEnablePort, this, if_false, h]

/-- R8: an admin-enabled port claims its new tier. -/
theorem ptuEnablePort_tier {p : Port} {t : Tier} {c : At Ptu} (wait : Bool) (on : c.own.ports[p].state ≠ .disabled)
    (other : t ≠ c.own.ports[p].reqTier) (h : slotCheck c.own.view[slotOf p] t = none) :
    ptuEnablePort p t wait c =
      { own := { c.own with claim := some (.tier p t wait) }
        bus := c.bus.sendPtuPbu (.tierClaim p c.own.ports[p].reqTier t) } := by
  simp only [ptuEnablePort, enabled_iff.2 on, other, and_false, if_false, h, if_true]

/-- R6: a DISABLED port without a seat in view is refused, unless it may wait. -/
theorem ptuEnablePort_noSeat {p : Port} {t : Tier} {c : At Ptu} (off : c.own.ports[p].state = .disabled)
    (h : slotCheck c.own.view[slotOf p] t = none) (full : seatRule c.own.held c.own.granted t none = none) :
    ptuEnablePort p t false c = ptuRefuse .noSeat p c := by
  have disabled : c.own.ports[p].enabled = false := by simpa [PortRec.enabled] using off
  simp only [ptuEnablePort, disabled, Bool.false_eq_true, false_and, if_false, h, full, Bool.not_false, and_self,
    if_true]

/-- R6: a DISABLED port claims, the seat found noted. -/
theorem ptuEnablePort_port {p : Port} {t : Tier} {wait : Bool} {c : At Ptu} (off : c.own.ports[p].state = .disabled)
    (h : slotCheck c.own.view[slotOf p] t = none)
    (may : seatRule c.own.held c.own.granted t none = none → wait = true) :
    ptuEnablePort p t wait c =
      { own := { c.own with claim := some (.port p t (seatRule c.own.held c.own.granted t none)) }
        bus := c.bus.sendPtuPbu (.portClaim p t) } := by
  have disabled : c.own.ports[p].enabled = false := by simpa [PortRec.enabled] using off
  have goes : ¬ (seatRule c.own.held c.own.granted t none = none ∧ (!wait) = true) := fun e => by simp [may e.1] at e
  simp only [ptuEnablePort, disabled, Bool.false_eq_true, false_and, if_false, h, goes]

theorem ptuEnablePort_sound {c : At Ptu} (h : c.own.Sound) (p : Port) (t : Tier) (wait : Bool) :
    (ptuEnablePort p t wait c).own.Sound := by
  by_cases on : c.own.ports[p].state = .disabled
  · cases check : slotCheck c.own.view[slotOf p] t with
    | some why => rwa [ptuEnablePort_refused wait (.inl on) check]
    | none =>
      by_cases may : seatRule c.own.held c.own.granted t none = none → wait = true
      · rw [ptuEnablePort_port on check may]
        refine h.withClaim ⟨?_, ?_, by simp⟩
        · intro q t' k e
          simp only [Option.some.injEq, PtuClaim.port.injEq] at e
          obtain ⟨-, rfl, found⟩ := e
          exact seatRule_tier found
        · rintro q t' k e; cases e; exact on
      · obtain ⟨full, waits⟩ := Classical.not_imp.1 may
        rw [Bool.not_eq_true] at waits; subst waits
        rwa [ptuEnablePort_noSeat on check full]
  · by_cases same : t = c.own.ports[p].reqTier
    · rwa [ptuEnablePort_same wait on same]
    · cases check : slotCheck c.own.view[slotOf p] t with
      | some why => rwa [ptuEnablePort_refused wait (.inr same) check]
      | none =>
        rw [ptuEnablePort_tier wait on same check]
        exact h.withClaim ⟨by simp, by simp, by rintro q t' w e; cases e; exact on⟩

/-- R6: a port above 255 is refused with no details. -/
theorem ptuEnable_outOfRange {w : TaskWord} {c : At Ptu} (h : 256 ≤ w.bits 0 16) :
    ptuEnable w c = { c with bus := c.bus.refuse .ptu .badParameter .zero } := by
  simp only [ptuEnable, Nat.not_lt.2 h, dif_neg, not_false_eq_true]

theorem ptuEnable_inRange {w : TaskWord} {p : Port} {c : At Ptu} (h : w.bits 0 16 = p.val) :
    ptuEnable w c = match tierOfNat (w.bits 16 8) with
      | none => ptuRefuse .badParameter p c
      | some t => ptuEnablePort p t (w.bits 24 1 == 1) c := by
  have lt : w.bits 0 16 < 256 := h ▸ p.isLt
  have port : (⟨w.bits 0 16, lt⟩ : Port) = p := Fin.ext h
  simp only [ptuEnable, lt, dif_pos, port] <;> rfl

theorem ptuEnable_sound {c : At Ptu} (h : c.own.Sound) (w : TaskWord) : (ptuEnable w c).own.Sound := by
  by_cases range : w.bits 0 16 < 256
  · rw [ptuEnable_inRange (p := ⟨w.bits 0 16, range⟩) rfl]
    split
    · exact h
    · exact ptuEnablePort_sound h _ _ _
  · rwa [ptuEnable_outOfRange (Nat.not_lt.1 range)]

/-- The record of a port that a task disables (R11). -/
def disabledRec (r : PortRec) : PortRec := { r with state := .disabled, seat := none, reason := .hostDisable }

/-- R11: a DISABLED port closes the task. -/
theorem ptuDisablePort_off {p : Port} {c : At Ptu} (watts : Nat) (off : c.own.ports[p].state = .disabled) :
    ptuDisablePort watts p c = ptuClose p 0 c := by
  have disabled : c.own.ports[p].enabled = false := by simpa [PortRec.enabled] using off
  simp only [ptuDisablePort, disabled, Bool.false_eq_true, if_false]

/-- The bus with the release of a port sent, then the port disabled and, if it held a seat, the list served (R11). -/
def releasedPort (p : Port) (c : At Ptu) : At Ptu :=
  let d := ptuWrite p (disabledRec c.own.ports[p]) { c with bus := c.bus.sendPtuPbu (.portRelease p) }
  if c.own.ports[p].seat = none then d else waitListService d

/-- R11: an admin-enabled port is released, and the notice and the task's end follow. -/
theorem ptuDisablePort_on {p : Port} {c : At Ptu} (watts : Nat) (on : c.own.ports[p].state ≠ .disabled) :
    ptuDisablePort watts p c = ptuClose p (-(watts : Int))
      (noticeIfCrossed (slotOf p) (slotInUse c.own (slotOf p)) (releasedPort p c)) := by
  cases seat : c.own.ports[p].seat <;>
    simp only [ptuDisablePort, enabled_iff.2 on, releasedPort, seat, disabledRec, if_true, Option.isSome,
      Bool.false_eq_true, if_false, reduceCtorEq]

theorem ptuDisable_outOfRange {b : Pbu} {w : TaskWord} {c : At Ptu} (h : 256 ≤ w.bits 0 16) :
    ptuDisable b w c = { c with bus := c.bus.refuse .ptu .badParameter .zero } := by
  simp only [ptuDisable, Nat.not_lt.2 h, dif_neg, not_false_eq_true]

theorem ptuDisable_inRange {b : Pbu} {w : TaskWord} {p : Port} {c : At Ptu} (h : w.bits 0 16 = p.val) :
    ptuDisable b w c = ptuDisablePort (reservedWatts b p) p c := by
  have lt : w.bits 0 16 < 256 := h ▸ p.isLt
  have port : (⟨w.bits 0 16, lt⟩ : Port) = p := Fin.ext h
  simp only [ptuDisable, lt, dif_pos, port]

theorem releasedPort_unclaimed {c : At Ptu} (h : c.own.Unclaimed) (p : Port) : (releasedPort p c).own.Unclaimed := by
  have off : (ptuWrite p (disabledRec c.own.ports[p])
      { c with bus := c.bus.sendPtuPbu (.portRelease p) }).own.Unclaimed :=
    Ptu.Unclaimed.write (c := { c with bus := c.bus.sendPtuPbu (.portRelease p) }) h
      (PortRec.right_of_seatless rfl (.inl rfl))
  unfold releasedPort
  dsimp only
  split_ifs
  · exact off
  · exact off.service

theorem ptuDisable_unclaimed {c : At Ptu} (h : c.own.Unclaimed) (b : Pbu) (w : TaskWord) :
    (ptuDisable b w c).own.Unclaimed := by
  by_cases range : w.bits 0 16 < 256
  · rw [ptuDisable_inRange (p := ⟨w.bits 0 16, range⟩) rfl]
    by_cases on : c.own.ports[(⟨w.bits 0 16, range⟩ : Port)].state = .disabled
    · rwa [ptuDisablePort_off _ on]
    · rw [ptuDisablePort_on _ on, ptuClose_own, noticeIfCrossed_own]
      exact releasedPort_unclaimed h _
  · rwa [ptuDisable_outOfRange (Nat.not_lt.1 range)]

/-! ### The answer to a claim (R7 to R10, R16) -/

/-- The state of a port that a granted claim enables (R7). -/
def enabledState (v : SlotView) : Option Tier → PortState
  | none => .unseated
  | some _ => seatedState v

/-- The record of a port that a granted claim enables (R7). -/
def enabledRec (v : SlotView) (t : Tier) (seat : Option Tier) (r : PortRec) : PortRec :=
  { r with state := enabledState v seat, reqTier := t, seat := seat, reason := .hostEnable }

/-- The record of a port that asks for another tier (R9, R10). -/
def askedRec (t : Tier) (r : PortRec) : PortRec := { r with reqTier := t, reason := .hostEnable }

theorem ptuPortGranted_eq (p : Port) (t : Tier) (seat : Option Tier) (a : ClaimAnswer) (c : At Ptu) :
    ptuPortGranted p t seat a c = ptuClose p a.amount (noticeIfCrossed (slotOf p) (slotInUse c.own (slotOf p))
      (let d := ptuWrite p (enabledRec c.own.view[slotOf p] t seat c.own.ports[p]) c
       if a.grant = .grantedWithWake then { d with bus := d.bus.sendPtuSls (.wake (slotOf p)) } else d)) := by
  cases seat <;> rfl

theorem ptuPortGranted_unclaimed {c : At Ptu} (h : c.own.Unclaimed) {p : Port} {t : Tier} {seat : Option Tier}
    (hk : ∀ k, seat = some k → tierNum t ≤ tierNum k) (a : ClaimAnswer) :
    (ptuPortGranted p t seat a c).own.Unclaimed := by
  have right : (enabledRec c.own.view[slotOf p] t seat c.own.ports[p]).Right c.own.view[slotOf p] := by
    cases seat with
    | none => exact PortRec.right_of_seatless rfl (.inr rfl)
    | some k => exact PortRec.right_of_seated rfl (hk k rfl) rfl
  rw [ptuPortGranted_eq, ptuClose_own, noticeIfCrossed_own]
  dsimp only
  split_ifs <;> exact h.write right

section tierGranted

variable {c : At Ptu} {p : Port} {t k : Tier}

/-- R10: a waiting port asks for the new tier, and the list is served. -/
theorem ptuTierGranted_waiting (wait : Bool) (amount : Int) (hs : c.own.ports[p].seat = none) :
    ptuTierGranted p t wait amount c =
      ptuClose p amount (waitListService (ptuWrite p (askedRec t c.own.ports[p]) c)) := by
  simp only [ptuTierGranted, hs]; rw [askedRec, hs]

/-- R9: a seat high enough is kept. -/
theorem ptuTierGranted_kept (wait : Bool) (amount : Int) (hs : c.own.ports[p].seat = some k)
    (high : tierNum t ≤ tierNum k) :
    ptuTierGranted p t wait amount c = ptuClose p amount (ptuWrite p (askedRec t c.own.ports[p]) c) := by
  simp only [ptuTierGranted, hs, high, if_true]; rw [askedRec, hs]

/-- R9: another seat is taken for one too low, and the list is served. -/
theorem ptuTierGranted_raised {j : Tier} (wait : Bool) (amount : Int) (hs : c.own.ports[p].seat = some k)
    (low : tierNum k < tierNum t) (found : seatRule c.own.held c.own.granted t none = some j) :
    ptuTierGranted p t wait amount c = ptuClose p amount
      (waitListService (ptuWrite p { askedRec t c.own.ports[p] with seat := some j } c)) := by
  simp only [ptuTierGranted, hs, Nat.not_le.2 low, if_false, found, askedRec]

/-- R9: without one the port gives its seat up and waits. -/
theorem ptuTierGranted_unseated (amount : Int) (hs : c.own.ports[p].seat = some k) (low : tierNum k < tierNum t)
    (full : seatRule c.own.held c.own.granted t none = none) :
    ptuTierGranted p t true amount c = ptuClose p amount
      (waitListService (ptuWrite p { askedRec t c.own.ports[p] with seat := none, state := .unseated } c)) := by
  simp only [ptuTierGranted, hs, Nat.not_le.2 low, if_false, full, askedRec, if_true]

/-- R9: or the task is refused and the claim returned. -/
theorem ptuTierGranted_noSeat (amount : Int) (hs : c.own.ports[p].seat = some k) (low : tierNum k < tierNum t)
    (full : seatRule c.own.held c.own.granted t none = none) :
    ptuTierGranted p t false amount c =
      ptuRefuse .noSeat p { c with bus := c.bus.sendPtuPbu (.tierReturn p c.own.ports[p].reqTier) } := by
  simp only [ptuTierGranted, hs, Nat.not_le.2 low, if_false, full, Bool.false_eq_true]

/-- The tier asked for is no concern of a port without a seat. -/
theorem PortRec.Right.asked {v : SlotView} {r : PortRec} (h : r.Right v) (hs : r.seat = none) (t : Tier) :
    (askedRec t r).Right v :=
  ⟨h.seat_state, by simp [askedRec, hs], h.service_online⟩

theorem ptuTierGranted_unclaimed (h : c.own.Unclaimed) (wait : Bool) (amount : Int) :
    (ptuTierGranted p t wait amount c).own.Unclaimed := by
  have right := h.recordsRight p
  cases hs : c.own.ports[p].seat with
  | none =>
    rw [ptuTierGranted_waiting wait amount hs]
    exact (h.write (right.asked hs t)).service
  | some k =>
    have state := right.state_of_seat hs
    rcases Nat.lt_or_ge (tierNum k) (tierNum t) with low | high
    · cases found : seatRule c.own.held c.own.granted t none with
      | some j =>
        rw [ptuTierGranted_raised wait amount hs low found]
        exact (h.write (PortRec.right_of_seated (r := { askedRec t c.own.ports[p] with seat := some j }) rfl
          (seatRule_tier found) state)).service
      | none =>
        cases wait with
        | true =>
          rw [ptuTierGranted_unseated amount hs low found]
          exact (h.write (PortRec.right_of_seatless rfl (.inr rfl))).service
        | false => rwa [ptuTierGranted_noSeat amount hs low found]
    · rw [ptuTierGranted_kept wait amount hs high]
      exact h.write (PortRec.right_of_seated hs high state)

end tierGranted

/-- R7 to R10, R16: after an answer no claim is outstanding. -/
theorem ptuAnswer_unclaimed {c : At Ptu} (h : c.own.Sound) (a : ClaimAnswer) : (ptuAnswer a c).own.Unclaimed := by
  have dropped : { c.own with claim := none : Ptu }.Unclaimed := h.dropClaim
  unfold ptuAnswer
  dsimp only
  split
  next free => exact h.unclaimed free
  next p t seat asked =>
    split_ifs
    · exact dropped
    · exact ptuPortGranted_unclaimed dropped (fun k e => h.noted_tier p t k (e ▸ asked)) a
  next =>
    split_ifs
    · exact dropped
    · exact ptuTierGranted_unclaimed dropped _ _
  next => split_ifs <;> exact dropped

/-! ### Slot reports (R14 to R16) -/

/-- The record of a port whose slot has entered ONLINE (R14). -/
def onlineRec (r : PortRec) : PortRec :=
  if r.state = .parked then { r with state := .inService, reason := .slotUp } else r

/-- The record of a port whose slot has entered another state (R15). -/
def leftRec (why : Option PortReason) (r : PortRec) : PortRec :=
  if r.state = .inService ∨ r.state = .parked then { r with state := .parked, reason := why.getD r.reason } else r

theorem portOnline_eq (c : At Ptu) (p : Port) : portOnline c p = ptuWrite p (onlineRec c.own.ports[p]) c := by
  unfold portOnline onlineRec
  dsimp only
  split_ifs
  · rfl
  · exact (ptuWrite_same rfl).symm

theorem portLeftOnline_eq (why : Option PortReason) (c : At Ptu) (p : Port) :
    portLeftOnline why c p = ptuWrite p (leftRec why c.own.ports[p]) c := by
  unfold portLeftOnline leftRec
  dsimp only
  split_ifs
  · rfl
  · exact (ptuWrite_same rfl).symm

/-- A seated port of a slot that is ONLINE is in service. -/
theorem PortRec.Right.online {v w : SlotView} {r : PortRec} (h : r.Right v) (hw : w.state = .online) :
    (onlineRec r).Right w := by
  cases hs : r.seat with
  | none =>
    have : onlineRec r = r := if_neg fun e => by simpa [hs, e] using h.seat_state
    rw [this]
    exact ⟨h.seat_state, h.seat_tier, by simp [hs]⟩
  | some k =>
    have seated := h.seat_state.1 (by simp [hs])
    refine PortRec.right_of_seated (k := k) ?_ ?_ ?_
    · unfold onlineRec; split_ifs <;> exact hs
    · have : (onlineRec r).reqTier = r.reqTier := by unfold onlineRec; split_ifs <;> rfl
      rw [this]; exact h.seat_tier k hs
    · rw [seatedState, if_pos hw, onlineRec]
      split_ifs with e
      · rfl
      · exact seated.resolve_right e

/-- A seated port of a slot that is not ONLINE is PARKED. -/
theorem PortRec.Right.left {v w : SlotView} {r : PortRec} (h : r.Right v) (hw : w.state ≠ .online)
    (why : Option PortReason) : (leftRec why r).Right w := by
  cases hs : r.seat with
  | none =>
    have : leftRec why r = r := if_neg fun e => by simpa [hs, e] using h.seat_state
    rw [this]
    exact ⟨h.seat_state, h.seat_tier, by simp [hs]⟩
  | some k =>
    have seated := h.seat_state.1 (by simp [hs])
    have : leftRec why r = { r with state := .parked, reason := why.getD r.reason } := if_pos seated
    rw [this]
    exact PortRec.right_of_seated hs (h.seat_tier k hs) (by rw [seatedState, if_neg hw])

/-- Right records of a slot that take a new view, with records right by it, and the records of the other slots as they
were: the table after a report. -/
theorem report_recordsRight {c d : At Ptu} {i : Slot} {st : SlotState} {f : PortRec → PortRec}
    (hr : c.own.RecordsRight) (hf : ∀ {v w : SlotView} {r : PortRec}, r.Right v → w.state = st → (f r).Right w)
    (view : d.own.view = (ptuView i st c).own.view)
    (ports : ∀ q : Port, d.own.ports[q] = if q ∈ portsOf i then f c.own.ports[q] else c.own.ports[q]) :
    d.own.RecordsRight := by
  intro q
  have seen : (ptuView i st c).own.view[slotOf q] = if i = slotOf q
      then { state := st, maxTier := if st = .empty then none else c.own.view[i].maxTier } else c.own.view[slotOf q] :=
    updAt_get _ _ _ _
  rw [ports, view, seen]
  by_cases e : slotOf q = i
  · rw [if_pos (mem_portsOf.2 e), if_pos e.symm]; exact hf (hr q) rfl
  · rw [if_neg (mem_portsOf.not.2 e), if_neg (Ne.symm e)]; exact hr q

theorem portsOnline_writes (i : Slot) (c : At Ptu) : PtuWrites (portsOf i) c ((portsOf i).foldl portOnline c) :=
  PtuWrites.foldl (fun c p => ⟨_, portOnline_eq c p⟩) _ c

theorem portsLeft_writes (why : Option PortReason) (i : Slot) (c : At Ptu) :
    PtuWrites (portsOf i) c ((portsOf i).foldl (portLeftOnline why) c) :=
  PtuWrites.foldl (fun c p => ⟨_, portLeftOnline_eq why c p⟩) _ c

theorem ptuReport_online (i : Slot) (c : At Ptu) :
    ptuReport i .online c = sendUseNotice i ((portsOf i).foldl portOnline (ptuView i .online c)) := rfl

theorem ptuReport_left {st : SlotState} (h : st ≠ .online) (i : Slot) (c : At Ptu) :
    ptuReport i st c =
      wakeClaimIfUsed i st ((portsOf i).foldl (portLeftOnline (leaveReason st)) (ptuView i st c)) := by
  simp only [ptuReport, h, if_false]

theorem ptuView_tallied {c : At Ptu} (h : c.own.Tallied) (i : Slot) (st : SlotState) : (ptuView i st c).own.Tallied :=
  ⟨h.held_counts, h.wait_nodup, h.wait_unseated⟩

theorem ptuReport_sound {c : At Ptu} (h : c.own.Unclaimed) (i : Slot) (st : SlotState) :
    (ptuReport i st c).own.Sound := by
  have tallied := ptuView_tallied h.tallied i st
  by_cases e : st = .online
  · subst e
    have writes := portsOnline_writes i (ptuView i .online c)
    have right := report_recordsRight h.recordsRight (fun r w => r.online w) writes.view_eq
      (foldl_ports portOnline_eq (portsOf_nodup i) (ptuView i .online c))
    rw [ptuReport_online, sendUseNotice_own]
    exact (Ptu.Unclaimed.of_writes writes tallied h.no_claim right).sound
  · have writes := portsLeft_writes (leaveReason st) i (ptuView i st c)
    have right := report_recordsRight h.recordsRight (fun r w => r.left (w ▸ e) (leaveReason st)) writes.view_eq
      (foldl_ports (portLeftOnline_eq (leaveReason st)) (portsOf_nodup i) (ptuView i st c))
    have left := (Ptu.Unclaimed.of_writes writes tallied h.no_claim right).sound
    rw [ptuReport_left e]
    unfold wakeClaimIfUsed
    split_ifs
    · exact left.withClaim ⟨by simp, by simp, by simp⟩
    · exact left

/-! ### The identification sweep (R17) -/

/-- The record of a port that the sweep disables (R17). -/
def sweptRec (r : PortRec) : PortRec := { r with state := .disabled, seat := none, reason := .tierUnsupported }

/-- The messages to the PBU replaced: no write of a record reads or adds any. -/
def withPtuPbu (x : List PtuToPbu) (c : At Ptu) : At Ptu := { c with bus := { c.bus with ptuPbu := x } }

theorem ptuWrite_withPtuPbu (p : Port) (r : PortRec) (x : List PtuToPbu) (c : At Ptu) :
    ptuWrite p r (withPtuPbu x c) = withPtuPbu x (ptuWrite p r c) := by
  by_cases h : c.own.ports[p] = r
  · rw [ptuWrite_same h, ptuWrite_same (c := withPtuPbu x c) h]
  · rw [ptuWrite_of_ne h, ptuWrite_of_ne (c := withPtuPbu x c) h]
    rfl

/-- The sweep's ports are written one after another, and their releases stand at the tail of the messages to the PBU. -/
theorem foldl_sweepPort (l : List Port) (c : At Ptu) :
    l.foldl sweepPort c = l.foldl (fun c p => ptuWrite p (sweptRec c.own.ports[p]) c)
      (withPtuPbu (c.bus.ptuPbu ++ l.map .portRelease) c) := by
  have moved (m : List Port) : ∀ (x : List PtuToPbu) (c : At Ptu),
      m.foldl (fun c p => ptuWrite p (sweptRec c.own.ports[p]) c) (withPtuPbu x c) =
        withPtuPbu x (m.foldl (fun c p => ptuWrite p (sweptRec c.own.ports[p]) c) c) := by
    induction m with
    | nil => exact fun _ _ => rfl
    | cons p m ih => exact fun x c => (congrArg (m.foldl _) (ptuWrite_withPtuPbu p _ x c)).trans (ih x _)
  induction l generalizing c with
  | nil => simp [withPtuPbu]
  | cons p l ih =>
    have sent : (sweepPort c p).bus.ptuPbu = c.bus.ptuPbu ++ [.portRelease p] := by
      show (ptuWrite p (sweptRec c.own.ports[p]) c).bus.ptuPbu ++ [.portRelease p] = _
      rw [ptuWrite_bus]
    rw [List.foldl_cons, ih, sent, List.foldl_cons, ptuWrite_withPtuPbu, moved, moved, List.map_cons, List.append_assoc]
    rw [show sweepPort c p = withPtuPbu (sweepPort c p).bus.ptuPbu (ptuWrite p (sweptRec c.own.ports[p]) c) from rfl, moved]
    rfl

/-- Of a view, a record asks only for the slot's state. -/
theorem PortRec.Right.ofState {v w : SlotView} {r : PortRec} (h : r.Right v) (hw : w.state = v.state) : r.Right w :=
  ⟨h.seat_state, h.seat_tier, hw ▸ h.service_online⟩

/-- The maximum tier written into the slot view (R17). -/
def ptuViewTier (i : Slot) (m : Tier) (c : At Ptu) : At Ptu :=
  { c with own := { c.own with view := updAt c.own.view i (fun v => { v with maxTier := some m }) } }

theorem ptuViewTier_state (i : Slot) (m : Tier) (c : At Ptu) (j : Slot) :
    (ptuViewTier i m c).own.view[j].state = c.own.view[j].state := by
  show (updAt c.own.view i _)[j].state = _
  rw [updAt_get]
  split_ifs with e
  · rw [e]
  · rfl

/-- The sweep's start: the tier in the view, and the releases of its ports sent. -/
def sweepStart (i : Slot) (m : Tier) (c : At Ptu) : At Ptu :=
  withPtuPbu (c.bus.ptuPbu ++ (aboveTier c.own i m).map .portRelease) (ptuViewTier i m c)

/-- The ports above the tier disabled one after another. -/
def sweepAbove (i : Slot) (m : Tier) (c : At Ptu) : At Ptu :=
  (aboveTier c.own i m).foldl (fun c p => ptuWrite p (sweptRec c.own.ports[p]) c) (sweepStart i m c)

/-- The ports above the tier disabled, and the list served if one of them held a seat (R17). -/
def sweptPorts (i : Slot) (m : Tier) (c : At Ptu) : At Ptu :=
  if (aboveTier c.own i m).any (fun p => c.own.ports[p].seat.isSome) then waitListService (sweepAbove i m c)
  else sweepAbove i m c

/-- The sweep: the ports disabled, then the notice and the answer to the SLS (R17). -/
theorem ptuSweep_eq (i : Slot) (m : Tier) (tag : Nat) (c : At Ptu) : ptuSweep i m tag c =
    let d := noticeIfCrossed i (slotInUse c.own i) (sweptPorts i m c)
    { d with bus := d.bus.sendPtuSls (.sweepDone i tag) } := by
  have swept : (aboveTier c.own i m).foldl sweepPort (ptuViewTier i m c) = sweepAbove i m c := foldl_sweepPort _ _
  show (let d := noticeIfCrossed i (slotInUse c.own i)
          (if (aboveTier c.own i m).any (fun p => c.own.ports[p].seat.isSome)
            then waitListService ((aboveTier c.own i m).foldl sweepPort (ptuViewTier i m c))
            else (aboveTier c.own i m).foldl sweepPort (ptuViewTier i m c))
        { d with bus := d.bus.sendPtuSls (.sweepDone i tag) }) = _
  rw [swept]
  rfl

theorem sweepAbove_writes (i : Slot) (m : Tier) (c : At Ptu) :
    PtuWrites (aboveTier c.own i m) (sweepStart i m c) (sweepAbove i m c) :=
  PtuWrites.foldl (fun _ _ => ⟨_, rfl⟩) _ _

theorem aboveTier_nodup (p : Ptu) (i : Slot) (m : Tier) : (aboveTier p i m).Nodup := (portsOf_nodup i).filter _

theorem sweepAbove_ports (i : Slot) (m : Tier) (c : At Ptu) (q : Port) :
    (sweepAbove i m c).own.ports[q] = if q ∈ aboveTier c.own i m then sweptRec c.own.ports[q] else c.own.ports[q] :=
  foldl_ports (f := fun _ r => sweptRec r) (fun _ _ => rfl) (aboveTier_nodup _ i m) (sweepStart i m c) q

theorem sweepAbove_unclaimed {c : At Ptu} (h : c.own.Unclaimed) (i : Slot) (m : Tier) :
    (sweepAbove i m c).own.Unclaimed := by
  refine .of_writes (sweepAbove_writes i m c)
    ⟨h.tallied.held_counts, h.tallied.wait_nodup, h.tallied.wait_unseated⟩ h.no_claim fun q => ?_
  rw [sweepAbove_ports, (sweepAbove_writes i m c).view_eq]
  split_ifs
  · exact PortRec.right_of_seatless rfl (.inl rfl)
  · exact (h.recordsRight q).ofState (ptuViewTier_state i m c _)

theorem sweptPorts_unclaimed {c : At Ptu} (h : c.own.Unclaimed) (i : Slot) (m : Tier) :
    (sweptPorts i m c).own.Unclaimed := by
  unfold sweptPorts
  split_ifs
  · exact (sweepAbove_unclaimed h i m).service
  · exact sweepAbove_unclaimed h i m

theorem ptuSweep_unclaimed {c : At Ptu} (h : c.own.Unclaimed) (i : Slot) (m : Tier) (tag : Nat) :
    (ptuSweep i m tag c).own.Unclaimed := by
  rw [ptuSweep_eq]
  dsimp only
  rw [noticeIfCrossed_own]
  exact sweptPorts_unclaimed h i m

/-! ### Grant reports and withdrawals (R38, R39) -/

theorem ptuSetGranted_unclaimed {c : At Ptu} (h : c.own.Unclaimed) (g : Counts) :
    (ptuSetGranted g c).own.Unclaimed :=
  ⟨⟨h.tallied.held_counts, h.tallied.wait_nodup, h.tallied.wait_unseated⟩, h.recordsRight, h.no_claim⟩

theorem ptuGrantReport_unclaimed {c : At Ptu} (h : c.own.Unclaimed) (g : Counts) :
    (ptuGrantReport g c).own.Unclaimed :=
  (ptuSetGranted_unclaimed h g).service

/-- The answer to the LCU leaves the table. -/
theorem ptuWithdrawal_own (g : Counts) (c : At Ptu) :
    (ptuWithdrawal g c).own = (tiers.foldl reclaimPass (ptuSetGranted g c)).own := by
  simp only [ptuWithdrawal]

theorem ptuWithdrawal_unclaimed {c : At Ptu} (h : c.own.Unclaimed) (g : Counts) :
    (ptuWithdrawal g c).own.Unclaimed := by
  have copied := ptuSetGranted_unclaimed h g
  obtain ⟨⟨l, writes⟩, right⟩ := reclaimPasses copied.recordsRight
  rw [ptuWithdrawal_own]
  exact Ptu.Unclaimed.of_writes writes copied.tallied copied.no_claim right

/-! ### Inputs taken and held (R4) -/

theorem ptuApply_sound {c : At Ptu} (h : c.own.Unclaimed) (x : PtuHeld) : (ptuApply x c).own.Sound := by
  cases x with
  | sls m => cases m with
    | report i st cause => exact ptuReport_sound h i st
    | sweep i m tag => exact (ptuSweep_unclaimed h i m tag).sound
  | lcu m => cases m with
    | grant g => exact (ptuGrantReport_unclaimed h g).sound
    | withdrawal g => exact (ptuWithdrawal_unclaimed h g).sound
  | task => exact h.sound

theorem ptuInput_of_claim {c : At Ptu} (h : c.own.claim ≠ none) (x : PtuHeld) :
    ptuInput x c = { c with own := { c.own with heldInputs := c.own.heldInputs ++ [x] } } := by
  rw [ptuInput, if_pos (Option.isSome_iff_ne_none.2 h)]

theorem ptuInput_of_free {c : At Ptu} (h : c.own.claim = none) (x : PtuHeld) : ptuInput x c = ptuApply x c := by
  simp only [ptuInput, h, Option.isSome_none, Bool.false_eq_true, if_false]

theorem ptuInput_sound {c : At Ptu} (h : c.own.Sound) (x : PtuHeld) : (ptuInput x c).own.Sound := by
  by_cases hc : c.own.claim = none
  · rw [ptuInput_of_free hc]; exact ptuApply_sound (h.unclaimed hc) x
  · rw [ptuInput_of_claim hc]; exact h.withHeldInputs _

/-- R112: a zone count is no concern of the claim outstanding. -/
theorem ptuZoneCount_sound {c : At Ptu} (h : c.own.Sound) (p : Port) (n : Nat) : (ptuZoneCount p n c).own.Sound := by
  have writes : PtuWrites [p] c (ptuZoneCount p n c) := .single p _ c
  have right : (ptuZoneCount p n c).own.RecordsRight :=
    h.recordsRight.write ⟨h.seat_state p, h.seat_tier p, h.service_online p⟩
  have state (q : Port) : (ptuZoneCount p n c).own.ports[q].state = c.own.ports[q].state := by
    rw [ptuZoneCount, ptuWrite_ports, setAt_get]
    split_ifs with e
    · rw [e]
    · rfl
  refine Ptu.sound_iff.2 ⟨writes.tallied h.tallied, right, ?_, ?_, ?_⟩ <;> simp only [writes.claim_eq, state]
  · exact h.noted_tier
  · exact h.port_claim
  · exact h.tier_claim

theorem ptuRunTask_sound {s : State} (h : s.ptu.Unclaimed) : (ptuRunTask s).ptu.Sound := by
  unfold ptuRunTask
  split
  · exact h.sound
  · have taken (b : Bus) : ({ own := (s.takeWord .ptu).ptu, bus := b } : At Ptu).own.Unclaimed := by
      rwa [takeWord_ptu]
    split_ifs
    · exact ptuEnable_sound (taken _).sound _
    · exact (ptuDisable_unclaimed (taken _) _ _).sound

theorem ptuTakeHeld_sound {s : State} (h : s.ptu.Unclaimed) (x : PtuHeld) : (ptuTakeHeld x s).ptu.Sound := by
  cases x with
  | task => exact ptuRunTask_sound h
  | sls m => exact ptuApply_sound (c := { own := s.ptu, bus := s.bus }) h (.sls m)
  | lcu m => exact ptuApply_sound (c := { own := s.ptu, bus := s.bus }) h (.lcu m)

theorem ptuDrain_sound (l : List PtuHeld) {s : State} (h : s.ptu.Sound) : (ptuDrain l s).ptu.Sound := by
  induction l generalizing s with
  | nil => exact h
  | cons x l ih =>
    unfold ptuDrain
    split_ifs with hc
    · exact h.withHeldInputs _
    · exact ih (ptuTakeHeld_sound (h.unclaimed (by simpa using hc)) x)

theorem ptuTask_sound {s : State} (h : s.ptu.Sound) (k : TaskKind) : (ptuTask k s).ptu.Sound := by
  unfold ptuTask
  split
  · exact h
  · split_ifs with _ hc
    · exact h
    · exact h.withHeldInputs _
    · exact ptuRunTask_sound (h.unclaimed (by simpa using hc))
    · exact h

theorem ptuAnswerAndDrain_sound {s : State} (h : s.ptu.Sound) (a : ClaimAnswer) :
    (ptuAnswerAndDrain a s).ptu.Sound :=
  ptuDrain_sound _ (Ptu.Sound.withHeldInputs (ptuAnswer_unclaimed (c := { own := s.ptu, bus := s.bus }) h a).sound [])

end Sys2Proof.Machine

/-! PROOFS. The licence table and the store write queue (R22 to R33): each operation of the LCU leaves a sound table sound. -/

namespace Sys2Proof.Machine

open Sys2Proof

/-! ### The seats of the table (R25) -/

/-- Of a cell, the seats that the table grants ask for its state and its record alone. -/
def LicenceCell.licence (c : LicenceCell) : CellState × LicenceRecord := (c.state, c.record)

/-- Tables that hold the same licences grant the same seats. -/
theorem seatsOf_congr {x y : Vector LicenceCell 32} (h : y.map (·.licence) = x.map (·.licence)) (k : Tier) :
    seatsOf y (fun _ => true) k = seatsOf x (fun _ => true) k := by
  have byLicence (z : Vector LicenceCell 32) : seatsOf z (fun _ => true) k =
      (((z.map (·.licence)).toList.filter (fun l => l.1 == .valid && licenceTier l.2 == some k)).map
        (fun l => licenceSeats l.2)).sum := by
    simp only [seatsOf, Vector.toList_map, List.filter_map, List.map_map, Bool.and_true]
    rfl
  rw [byLicence, byLicence, h]

/-- Every VALID cell holds a well-formed record. -/
def TableWellFormed (x : Vector LicenceCell 32) : Prop :=
  ∀ i : Fin 32, x[i].state = .valid → licenceWellFormed x[i].record = true

theorem licenceSeats_le {r : LicenceRecord} (h : licenceWellFormed r = true) : licenceSeats r ≤ 256 := by
  simp only [licenceWellFormed, Bool.and_eq_true, decide_eq_true_eq] at h
  exact h.1.2

/-- 32 cells grant at most 32 × 256 seats (R25). -/
theorem seatsOf_le {x : Vector LicenceCell 32} (h : TableWellFormed x) (k : Tier) :
    seatsOf x (fun _ => true) k ≤ 8192 := by
  set valid := x.toList.filter (fun c => c.state == .valid && true && licenceTier c.record == some k)
  have each : ∀ n ∈ valid.map (fun c => licenceSeats c.record), n ≤ 256 := by
    intro n hn
    obtain ⟨c, hc, rfl⟩ := List.mem_map.1 hn
    obtain ⟨hx, hv⟩ := List.mem_filter.1 hc
    obtain ⟨i, hi, rfl⟩ := List.getElem_of_mem hx
    simp only [Bool.and_eq_true, beq_iff_eq, Vector.getElem_toList] at hv ⊢
    exact licenceSeats_le (h ⟨i, by simpa using hi⟩ hv.1.1)
  calc seatsOf x (fun _ => true) k = (valid.map (fun c => licenceSeats c.record)).sum := rfl
    _ ≤ (valid.map (fun c => licenceSeats c.record)).length • 256 := List.sum_le_card_nsmul _ _ each
    _ ≤ 8192 := by
      have : valid.length ≤ x.toList.length := List.length_filter_le _ _
      simp only [List.length_map, smul_eq_mul, Vector.length_toList] at this ⊢
      omega

theorem grantedOf_get (x : Vector LicenceCell 32) (k : Tier) : (grantedOf x).get k = seatsOf x (fun _ => true) k := by
  cases k <;> rfl

/-! ### A part of the LCU replaced -/

namespace Lcu.Sound

variable {l : Lcu}

theorem withTask (h : l.Sound) {t : LcuTask} (ht : ∀ i r, t = .installing i r → licenceWellFormed r = true) :
    { l with task := t : Lcu }.Sound :=
  ⟨h.queue_cells, h.granted_sums, h.granted_range, h.valid_well_formed, ht, h.failed_range⟩

theorem withStore (h : l.Sound) {q : List StoreEntry} (hq : (q.map (·.cell)).Nodup) (x : Lst) :
    { l with storeQueue := q, lst := x : Lcu }.Sound :=
  ⟨hq, h.granted_sums, h.granted_range, h.valid_well_formed, h.installing_well_formed, h.failed_range⟩

theorem withWithdrawal (h : l.Sound) (w : Withdrawal) : { l with withdrawal := w : Lcu }.Sound :=
  ⟨h.queue_cells, h.granted_sums, h.granted_range, h.valid_well_formed, h.installing_well_formed, h.failed_range⟩

theorem withFreeze (h : l.Sound) (f : Bool) : { l with freeze := f : Lcu }.Sound :=
  ⟨h.queue_cells, h.granted_sums, h.granted_range, h.valid_well_formed, h.installing_well_formed, h.failed_range⟩

theorem withFailed (h : l.Sound) {n : Nat} (hn : n ≤ 5) : { l with failedInstalls := n : Lcu }.Sound :=
  ⟨h.queue_cells, h.granted_sums, h.granted_range, h.valid_well_formed, h.installing_well_formed, hn⟩

/-- Cells that hold the same licences keep the counts right. -/
theorem withCells (h : l.Sound) {x : Vector LicenceCell 32} (hx : x.map (·.licence) = l.cells.map (·.licence)) :
    { l with cells := x : Lcu }.Sound := by
  refine ⟨h.queue_cells, fun hs k => ?_, h.granted_range, fun i hi => ?_, h.installing_well_formed, h.failed_range⟩
  · rw [seatsOf_congr hx]; exact h.granted_sums hs k
  · have same : x[i].licence = l.cells[i].licence := by
      have := congrArg (fun v => v[i]) hx
      simpa using this
    have record : x[i].record = l.cells[i].record := congrArg (·.2) same
    have state : x[i].state = l.cells[i].state := congrArg (·.1) same
    rw [record]; exact h.valid_well_formed i (state ▸ hi)

/-- A table replaced with its counts computed again (R25). -/
theorem withTable (h : l.Sound) {x : Vector LicenceCell 32} (hx : TableWellFormed x) :
    { l with cells := x, granted := grantedOf x : Lcu }.Sound :=
  ⟨h.queue_cells, fun _ k => grantedOf_get x k, fun _ k => grantedOf_get x k ▸ seatsOf_le hx k, hx,
    h.installing_well_formed, h.failed_range⟩

end Lcu.Sound

/-- One cell replaced by one that is not VALID or is well-formed. -/
theorem TableWellFormed.setAt {x : Vector LicenceCell 32} (h : TableWellFormed x) (i : Fin 32) {c : LicenceCell}
    (hc : c.state = .valid → licenceWellFormed c.record = true) : TableWellFormed (setAt x i c) := by
  intro j hj
  rw [setAt_get] at hj ⊢
  split_ifs at hj ⊢ with e
  · exact hc hj
  · exact h j hj

/-- One cell replaced by one with the same licence. -/
theorem setAt_licence {x : Vector LicenceCell 32} {i : Fin 32} {c : LicenceCell} (h : c.licence = x[i].licence) :
    (setAt x i c).map (·.licence) = x.map (·.licence) := by
  ext1 j hj
  have := setAt_get x i ⟨j, hj⟩ c
  simp only [Fin.getElem_fin] at this
  rw [Vector.getElem_map, Vector.getElem_map, this]
  split_ifs with e
  · subst e; exact h
  · rfl

/-! ### The store write queue (R24) -/

theorem storeServe_sound {l : Lcu} (h : l.Sound) : (storeServe l).Sound := by
  rw [storeServe_eq]
  split
  next e rest _ queue =>
    have tail : (rest.map (·.cell)).Nodup := by
      have := h.queue_cells
      rw [queue, List.map_cons] at this
      exact (List.nodup_cons.1 this).2
    exact h.withStore tail _
  next => exact h

theorem storeRequest_sound {l : Lcu} (h : l.Sound) (e : StoreEntry) : (storeRequest e l).Sound :=
  storeServe_sound (h.withStore (storeMerge_nodup h.queue_cells) l.lst)

/-! ### The tasks (R26 to R30) -/

section tasks

variable {c : At Lcu} (h : c.own.Sound)

include h

theorem lcuEnd_sound (cls : OutcomeClass) (d : Details) : (lcuEnd cls d c).own.Sound :=
  h.withTask (by simp)

theorem lcuPhase_sound {t : LcuTask} (ht : ∀ i r, t ≠ .installing i r) : (lcuPhase t c).own.Sound :=
  h.withTask fun i r e => absurd e (ht i r)

theorem lcuFreeze_sound : (lcuFreeze c).own.Sound :=
  lcuEnd_sound (c := { c with own := { c.own with freeze := true } }) (h.withFreeze true) _ _

theorem lcuReportEnd_sound (cls : OutcomeClass) (n : Nat) : (lcuReportEnd cls n c).own.Sound := by
  unfold lcuReportEnd
  split
  · exact lcuEnd_sound h _ _
  · exact h

theorem lcuStopped_sound (n : Nat) : (lcuStopped n c).own.Sound := by
  unfold lcuStopped
  split
  · exact lcuEnd_sound (c := { c with bus := c.bus.freeDetails.2 }) h _ _
  · exact lcuReportEnd_sound h _ _
  · exact h

/-- R26: the count of failed installs rises only from below 5, and a record that is to be written is well-formed. -/
theorem lcuInstall_sound (r : LicenceRecord) : (lcuInstall r c).own.Sound := by
  unfold lcuInstall
  split
  next why counted check =>
    have rises : counted = true → c.own.failedInstalls < 5 := by
      rintro rfl
      by_contra full
      have full : 5 ≤ c.own.failedInstalls := by omega
      simp only [installCheck, full, if_true] at check
      split_ifs at check <;> simp at check
    dsimp only
    split_ifs with hc
    · exact lcuEnd_sound (c := { c with own := _ }) (h.withFailed (rises hc)) _ _
    · exact lcuEnd_sound h _ _
  next check =>
    have wellFormed : licenceWellFormed r = true := by
      unfold installCheck at check
      split_ifs at check
      simp_all
    split
    · exact h
    · exact storeRequest_sound (h.withTask (by rintro i r' e; cases e; exact wellFormed)) _

/-- R27: a record written becomes VALID, and the counts are computed again. -/
theorem installWritten_sound (good : Bool) (i : Fin 32) {r : LicenceRecord} (hr : licenceWellFormed r = true) :
    (installWritten good i r c).own.Sound := by
  unfold installWritten
  split_ifs
  · exact lcuEnd_sound (c := sendGrant (lcuTable _ c))
      (h.withTable (TableWellFormed.setAt h.valid_well_formed i fun _ => hr)) _ _
  · exact lcuEnd_sound h _ _

theorem queueErase_sound (i : Fin 32) (was : CellState) (n : Nat) : (queueErase i was n c).own.Sound :=
  storeRequest_sound (h.withTask (by simp)) _

theorem emptyCell_sound (i : Fin 32) : (emptyCell i c).own.Sound :=
  h.withTable (TableWellFormed.setAt h.valid_well_formed i (c := licenceCellPowerOn) (by rintro ⟨⟩))

/-- R28. -/
theorem lcuRemove_sound (id : Word) : (lcuRemove id c).own.Sound := by
  unfold lcuRemove
  split_ifs
  · exact lcuEnd_sound (c := { c with bus := c.bus.freeWord.2 }) h _ _
  · split
    · exact lcuEnd_sound h _ _
    next i _ =>
      dsimp only
      split_ifs
      · exact lcuEnd_sound h _ _
      · have marked := h.withCells (setAt_licence (c := { c.own.cells[i] with withdrawing := true }) rfl)
        exact (marked.withTask (t := .removeWithdrawing i) (by simp)).withWithdrawal _
      · exact queueErase_sound (emptyCell_sound (c := { c with bus := _ }) h i) _ _ _
      · exact queueErase_sound (emptyCell_sound h i) _ _ _

theorem resumeRemove_sound : (resumeRemove c).own.Sound := by
  unfold resumeRemove
  split
  · split_ifs
    · exact lcuRemove_sound h _
    · exact h
  · exact h

/-! ### Hours, lapses and withdrawals (R25, R31, R32) -/

theorem sendLapses_sound : (sendLapses c).own.Sound := by
  unfold sendLapses
  split_ifs
  · refine (h.withCells ?_).withWithdrawal _
    ext1 j hj
    simp only [Vector.getElem_map]
    split_ifs <;> rfl
  · exact h

theorem lcuHour_sound : (lcuHour c).own.Sound := by
  have hours (is : List (Fin 32)) : ∀ l : Lcu, l.Sound → (is.foldl hourCell l).Sound := by
    induction is with
    | nil => exact fun _ hl => hl
    | cons i is ih =>
      intro l hl
      refine ih _ ?_
      unfold hourCell
      dsimp only
      split_ifs
      · exact storeRequest_sound
          (hl.withCells (setAt_licence (c := { l.cells[i] with hours := l.cells[i].hours - 1 }) rfl)) _
      · exact hl
  have passed := hours (indices 32) c.own h
  unfold lcuHour
  generalize (indices 32).foldl hourCell c.own = l at passed ⊢
  exact sendLapses_sound (c := { c with own := l }) passed

/-- R32: the withdrawn cells lapse one after another; the counts stand until the last one has. -/
theorem lapseCells_wellFormed (is : List (Fin 32)) :
    TableWellFormed (is.foldl lapseCell c).own.cells ∧
      { (is.foldl lapseCell c).own with cells := c.own.cells : Lcu } = c.own := by
  have lapses (is : List (Fin 32)) : ∀ d : At Lcu, TableWellFormed d.own.cells →
      TableWellFormed (is.foldl lapseCell d).own.cells ∧
        { (is.foldl lapseCell d).own with cells := d.own.cells : Lcu } = d.own := by
    induction is with
    | nil => exact fun _ hd => ⟨hd, rfl⟩
    | cons i is ih =>
      intro d hd
      have one : TableWellFormed (lapseCell d i).own.cells ∧
          { (lapseCell d i).own with cells := d.own.cells : Lcu } = d.own := by
        unfold lapseCell
        dsimp only
        split_ifs
        · exact ⟨hd.setAt i (by simp), rfl⟩
        · exact ⟨hd, rfl⟩
      obtain ⟨wf, rest⟩ := ih _ one.1
      refine ⟨wf, ?_⟩
      calc { (is.foldl lapseCell (lapseCell d i)).own with cells := d.own.cells : Lcu }
          = { { (is.foldl lapseCell (lapseCell d i)).own with cells := (lapseCell d i).own.cells : Lcu } with
              cells := d.own.cells } := rfl
        _ = d.own := by rw [rest]; exact one.2
  exact lapses is c h.valid_well_formed

theorem applyAnswer_sound : (applyAnswer c).own.Sound := by
  unfold applyAnswer
  split
  · exact h
  · obtain ⟨wf, rest⟩ := lapseCells_wellFormed h (indices 32)
    generalize (indices 32).foldl lapseCell c = d at wf rest ⊢
    have others : { d.own with cells := c.own.cells : Lcu }.Sound := by rwa [rest]
    exact (others.withWithdrawal .idle).withTable wf
  next i _ =>
    exact queueErase_sound (emptyCell_sound (c := { c with own := { c.own with withdrawal := .idle } })
      (h.withWithdrawal .idle) i) _ _ _

theorem lcuAnswer_sound : (lcuAnswer c).own.Sound :=
  resumeRemove_sound (sendLapses_sound (applyAnswer_sound h))

/-! ### The store's outcomes and the start-up read (R23, R24) -/

theorem storeTold_sound (good : Bool) (e : StoreEntry) : (storeTold good e c).own.Sound := by
  unfold storeTold
  split
  next i r _ task =>
    split
    · exact installWritten_sound h good i (h.installing_well_formed i r task)
    · exact h
  · split
    · exact lcuEnd_sound h _ _
    · exact h
  · exact h

theorem lcuStoreDone_sound (good : Bool) : (lcuStoreDone good c).own.Sound := by
  unfold lcuStoreDone
  split
  · exact h
  · exact storeServe_sound (storeTold_sound (c := { own := _, bus := _ }) (h.withStore h.queue_cells _) _ _)

omit h in
/-- A cell judged VALID holds a well-formed record. -/
theorem judgeStored_wellFormed (ids : List Word) (x : StoreCell) (hv : (judgeStored ids x).state = .valid) :
    licenceWellFormed (judgeStored ids x).record = true := by
  unfold judgeStored at hv ⊢
  dsimp only at hv ⊢
  split_ifs at hv ⊢ <;> simp_all [licenceCellPowerOn]

/-- R23: the counts are computed with the last cell read, and are no figures before. -/
theorem lcuCellRead_sound (hs : c.own.startRead < 32) :
    (lcuCellRead ⟨c.own.startRead, hs⟩ c).own.Sound := by
  have table := TableWellFormed.setAt h.valid_well_formed ⟨c.own.startRead, hs⟩
    (judgeStored_wellFormed (tableIds c.own.cells) c.own.lst.cells[(⟨c.own.startRead, hs⟩ : Fin 32)])
  unfold lcuCellRead
  dsimp only
  split_ifs with last
  · exact ⟨h.queue_cells, fun _ k => grantedOf_get _ k, fun _ k => grantedOf_get _ k ▸ seatsOf_le table k, table,
      h.installing_well_formed, h.failed_range⟩
  · have : c.own.startRead + 1 ≠ 32 := fun e => last (by omega)
    exact ⟨h.queue_cells, fun e => absurd e this, fun e => absurd e this, table, h.installing_well_formed, h.failed_range⟩

end tasks

/-! ### Resets and the loss of power (R20, R22, R23) -/

theorem lcuPowerOn_sound (lst : Lst) : (lcuPowerOn lst).Sound := by
  refine ⟨by simp [lcuPowerOn], by simp [lcuPowerOn], by simp [lcuPowerOn], fun i hi => ?_, by simp [lcuPowerOn],
    by simp [lcuPowerOn]⟩
  simp [lcuPowerOn, licenceCellPowerOn] at hi

theorem lcuManagementReset_sound {l : Lcu} (h : l.Sound) : (lcuManagementReset l).Sound :=
  (h.withFailed (Nat.zero_le 5)).withFreeze false

end Sys2Proof.Machine

/-! PROOFS. Every step keeps the port table and the licence table sound (R1, R5, R22, R24, R25, R34 to R36). -/

namespace Sys2Proof.Machine

open Sys2Proof

/-! ### From one state to the next -/

/-- The port table and the licence table of t are sound if those of s are. -/
def KeepsTables (s t : State) : Prop := (s.ptu.Sound → t.ptu.Sound) ∧ (s.lcu.Sound → t.lcu.Sound)

/-- A command that answers a next state keeps the two tables sound. -/
def OutcomeKeepsTables (s : State) (o : Host.Outcome State Fault Refusal) : Prop := ∀ t, o = .next t → KeepsTables s t

namespace KeepsTables

variable {s t u : State}

theorem of_eq (hp : t.ptu = s.ptu) (hl : t.lcu = s.lcu) : KeepsTables s t := ⟨fun h => hp ▸ h, fun h => hl ▸ h⟩

theorem refl (s : State) : KeepsTables s s := of_eq rfl rfl

theorem trans (h : KeepsTables s t) (h' : KeepsTables t u) : KeepsTables s u :=
  ⟨fun e => h'.1 (h.1 e), fun e => h'.2 (h.2 e)⟩

theorem ofPtu (hp : s.ptu.Sound → t.ptu.Sound) (hl : t.lcu = s.lcu) : KeepsTables s t := ⟨hp, fun h => hl ▸ h⟩

theorem ofLcu (hp : t.ptu = s.ptu) (hl : s.lcu.Sound → t.lcu.Sound) : KeepsTables s t := ⟨fun h => hp ▸ h, hl⟩

theorem takeWord (s : State) (v : Server) : KeepsTables s (s.takeWord v) := of_eq (by simp) (by simp)

/-- What a state keeps, one with the same two blocks keeps. -/
theorem of_same (h : KeepsTables t u) (hp : t.ptu = s.ptu) (hl : t.lcu = s.lcu) : KeepsTables s u :=
  (of_eq hp hl).trans h

/-- The LCU at work keeps its table sound. -/
theorem onLcu {f : At Lcu → At Lcu} (hf : ∀ c : At Lcu, c.own.Sound → (f c).own.Sound) (s : State) :
    KeepsTables s (s.onLcu f) :=
  ofLcu rfl (hf { own := s.lcu, bus := s.bus })

theorem forgetTask (s : State) : KeepsTables s { s with ptu := s.ptu.forgetTask } :=
  ofPtu (fun h => h.withHeldInputs _) rfl

end KeepsTables

namespace OutcomeKeepsTables

variable {s t : State}

theorem next (h : KeepsTables s t) : OutcomeKeepsTables s (.next t) := by rintro u ⟨⟩; exact h

/-- Where neither block is at work both tables stand. -/
theorem kept (hp : t.ptu = s.ptu) (hl : t.lcu = s.lcu) : OutcomeKeepsTables s (.next t) := next (.of_eq hp hl)

end OutcomeKeepsTables

/-! ### The commands of the other blocks -/

/-- The commands by which neither the PTU nor the LCU does anything. -/
def isElsewhere : Instr → Bool
  | .powerOnReset | .managementReset | .linkReset | .powerLoss | .halt _
  | .pieceFetchDone _ _ | .dataReadDone _ _ | .dataWriteDone _ | .hostAccessFailed _ | .hostAccessTimeout _
  | .portEnable | .portDisable | .claimAnswer | .slotOnlineReport | .slotLeftOnlineReport | .identificationSweep
  | .zoneCount | .grantReport | .withdrawal | .licenceCellReadDone | .licenceInstall | .licenceRemove
  | .licenceFreeze | .licenceReport | .storeWriteDone _ | .hourTick | .withdrawalAnswer => false
  | _ => true

theorem takePolicyWord_kept (s : State) : (takePolicyWord s).ptu = s.ptu ∧ (takePolicyWord s).lcu = s.lcu := by
  unfold takePolicyWord
  split <;> simp

theorem pageWriteFault_kept (s : State) : (pageWriteFault s).ptu = s.ptu ∧ (pageWriteFault s).lcu = s.lcu := by
  unfold pageWriteFault
  split <;> exact ⟨rfl, rfl⟩

theorem pageWritten_kept (s : State) : (pageWritten s).ptu = s.ptu ∧ (pageWritten s).lcu = s.lcu := by
  unfold pageWritten nextPageWrite
  split <;> (try split) <;> exact ⟨rfl, rfl⟩

theorem abandonApply_kept (s : State) : (abandonApply s).ptu = s.ptu ∧ (abandonApply s).lcu = s.lcu := by
  unfold abandonApply
  split <;> exact ⟨rfl, rfl⟩

/-- By a command of another block both tables stand. -/
theorem exec_elsewhere {c : Instr} (hc : isElsewhere c = true) (s : State) : OutcomeKeepsTables s (exec c s) := by
  cases c with
  -- one block at work, always
  | areaBaseLowWrite _ | interruptMaskWrite _ | readOnlyRegisterWrite _ _ | start _ | resume _ | accept _ | pageSeen _
  | moduleRetryTimer _ | moduleLineChange _ _ _ | slotRetryTimer _ | railGoodRise _ _ | railTimerExpiry _
  | settleTimerExpiry _ | railGoodFall _ _ | idleTimerExpiry _ | tachEdge _ | stallTimerExpiry _
  | spinupTimerExpiry _ | holdTimerExpiry _ | trayRetryTimer _ | zoneStageRecord | acknowledgement _ | ackTimerExpiry
  | probeTimerExpiry | batchTimerExpiry | transactionBegin | requestSent | answerFrame _ | answerTimerExpiry
  | lineActivity | recoveryIdle _ => exact .kept rfl rfl
  | cycleTick =>
    exact .kept (t := ((s.onTb tbTick).onClc controlCycle).onPbu pollModules)
      (by rw [onPbu_ptu, onClc_ptu, onTb_ptu]) (by rw [onPbu_lcu, onClc_lcu, onTb_lcu])
  -- one block at work when its message, access, condition or timer is there
  | anchorReadDone _ _ | wordFetchDone _ _ | taskOutcome _ | recordWriteDone _ | bayPresenceGained | bayPresenceLost
  | moduleInventoryAnswer | telemetryAnswer | portClaim | tierClaim | wakeClaimJudged | slotClaim | portRelease
  | tierReturn | standbyStepDown | slotRelease | dutyReport | priorityUpdate | graceTimerExpiry | intervalTimerExpiry
  | shedAnswer | slotPresenceGained | slotPresenceLost | slotInventoryAnswer | sweepDone | slotClaimAnswer
  | useNoticeTaken | idleTimeUpdate | wakeRequest | shedOrder | thermalOffOrder | hotFlagReport | sensorAnswer
  | trayPresenceLost | trayPresenceGained | trayInventoryAnswer | switchSent | committed | failed | abandoned
  | stagedCopy | recomputeAddition | buildRequest | activeSetReplaced | raise _ _ | clear _ _ | dirtyMark _
  | batchBegin | mlcRequest _ | presenceLineChange _ _ | pendingTimerExpiry _ | startUpReport _
  | areaBaseHighWrite _ =>
    simp only [exec, execAnchorReadDone, execWordFetchDone, execTaskOutcome, execRecordWriteDone,
      execBayPresenceGained, execBayPresenceLost, execModuleInventoryAnswer, execTelemetryAnswer, execPortClaim,
      execTierClaim, execWakeClaimJudged, execSlotClaim, execPortRelease, execTierReturn, execStandbyStepDown,
      execSlotRelease, execDutyReport, execPriorityUpdate, execGraceTimerExpiry, execIntervalTimerExpiry,
      execShedAnswer, execSlotPresenceGained, execSlotPresenceLost, execSlotInventoryAnswer, execSweepDone,
      execSlotClaimAnswer, execUseNoticeTaken, execIdleTimeUpdate, execWakeRequest, execShedOrder,
      execThermalOffOrder, execHotFlagReport, execSensorAnswer, execTrayPresenceLost, execTrayPresenceGained,
      execTrayInventoryAnswer, execSwitchSent, execCommitted, execFailed, execAbandoned, execStagedCopy,
      execRecomputeAddition, execBuildRequest, execActiveSetReplaced, execRaise, execClear, execDirtyMark,
      execBatchBegin, execMlcRequest, execPresenceLineChange, execPendingTimerExpiry, execStartUpReport,
      execAreaBaseHighWrite]
    split <;> exact .kept rfl rfl
  -- a task word taken
  | alarmAcknowledge | zoneDrop | zoneCommitVerify | zoneCommitApply | slotPowerOn | slotPowerOff | slotConfig
  | thermalProfile | zoneStage | zoneFindLoad =>
    simp only [exec, execAlarmAcknowledge, execZoneDrop, execZoneCommitVerify, execZoneCommitApply, execSlotPowerOn,
      execSlotPowerOff, execSlotConfig, execThermalProfile, execZoneStage, execZoneFindLoad]
    repeat' split
    all_goals exact .kept (by simp) (by simp)
  | zoneRead | zoneFind =>
    simp only [exec, execZoneRead, execZoneFind]
    repeat' split
    all_goals exact .kept (by simp) (by simp)
  -- a policy word, and the pages
  | powerPolicy | startupHoldRelease =>
    simp only [exec, execPowerPolicy, execStartupHoldRelease]
    repeat' split
    all_goals exact .kept (by simp [takePolicyWord_kept]) (by simp [takePolicyWord_kept])
  | pageWriteDone | pageWriteFailed =>
    simp only [exec, execPageWriteDone, execPageWriteFailed]
    repeat' split
    all_goals exact .kept (by simp [pageWritten_kept, pageWriteFault_kept]) (by simp [pageWritten_kept, pageWriteFault_kept])
  | _ => cases hc

/-! ### Data that moves (R172, R173) -/

theorem settle_keeps (v : Server) (s : State) : KeepsTables s (settle v s) := by
  cases v <;> exact .of_eq rfl rfl

theorem blockStopped_keeps (v : Server) (n : Nat) (s : State) : KeepsTables s (blockStopped v n s) := by
  cases v with
  | lcu => exact .onLcu (fun _ h => lcuStopped_sound h n) s
  | ptu | pbu | sls | clc | znu | atu => exact .of_eq rfl rfl

theorem outputDone_keeps (v : Server) (n : Nat) (s : State) : KeepsTables s (outputDone v n s) := by
  cases v with
  | lcu => exact .onLcu (fun _ h => lcuReportEnd_sound h .normal n) s
  | ptu | pbu | sls | clc | znu | atu => exact .of_eq rfl rfl

theorem stopDelivery_keeps (a : Fin 16) (v : Server) (f : MoveFailure) (s : State) :
    KeepsTables s (stopDelivery a v f s) := by
  unfold stopDelivery
  dsimp only
  split_ifs
  · exact (settle_keeps v s).trans ((blockStopped_keeps v _ _).of_same rfl rfl)
  · exact settle_keeps v s

theorem finishMove_keeps (a : Fin 16) (v : Server) (input : Bool) (r : MoveResult) (s : State) :
    KeepsTables s (finishMove a v input r s) := by
  cases r with
  | going => exact .refl s
  | done =>
    unfold finishMove
    dsimp only
    split_ifs
    · exact .refl s
    · exact outputDone_keeps v _ s
  | failed f => exact stopDelivery_keeps a v f s

theorem withMove_keeps (a : Fin 16) (s : State)
    (f : Server → Service → Movement → At HostSide → At HostSide × MoveResult) : KeepsTables s (withMove a s f) := by
  unfold withMove
  split
  · split
    · exact (finishMove_keeps a _ _ _ _).of_same rfl rfl
    · exact .refl s
  · exact .refl s

theorem accessFailed_keeps (a : Fin 16) (x : Access) (s : State) : KeepsTables s (accessFailed a x s) := by
  unfold accessFailed
  dsimp only
  split
  · exact .of_eq rfl rfl
  · exact .of_eq rfl rfl
  · split
    · exact stopDelivery_keeps a _ _ s
    · exact .refl s
  · split
    · exact stopDelivery_keeps a _ _ s
    · exact .refl s
  · split
    · exact stopDelivery_keeps a _ _ s
    · exact .refl s
  · exact .of_eq rfl rfl
  · exact .refl s

theorem hostAccessFault_keeps (r : Requester) (s : State) : KeepsTables s (hostAccessFault r s) := by
  cases r with
  | spw => exact .of_eq (pageWriteFault_kept s).1 (pageWriteFault_kept s).2
  | anchor a =>
    unfold hostAccessFault
    dsimp only
    split
    · exact .refl s
    · exact (accessFailed_keeps a _ _).of_same rfl rfl

/-! ### HALT and the resets (R170, R176) -/

theorem haltBlock_keeps (a : Fin 16) (s : State) : KeepsTables s (haltBlock a s) := by
  unfold haltBlock
  split_ifs
  · exact .of_eq (abandonApply_kept s).1 (abandonApply_kept s).2
  · exact .refl s

theorem ptuUnqueued_keeps (before after : State) : KeepsTables after (ptuUnqueued before after) := by
  unfold ptuUnqueued
  split_ifs
  · exact .refl after
  · exact .forgetTask after

theorem execHalt_keeps (w : Word) (s : State) : OutcomeKeepsTables s (execHalt w s) := by
  have halted : KeepsTables s (ptuUnqueued s (s.onHost (runAction .halt w (aeHalt s.tb.seconds)))) :=
    (ptuUnqueued_keeps s _).of_same rfl rfl
  unfold execHalt
  dsimp only
  split
  · split_ifs
    · exact .next (halted.trans (haltBlock_keeps _ _))
    · exact .next halted
  · exact .next halted

theorem stopMoving_keeps (v : Server) (s : State) : KeepsTables s (stopMoving v s) := by
  have settled := settle_keeps v s
  unfold stopMoving
  dsimp only
  split
  · exact settled
  · split
    · exact settled
    · split_ifs
      · exact settled
      · exact settled.trans (blockStopped_keeps v 0 _)

/-- R176: the intake queues emptied and the tasks detached, the held task word forgotten. -/
def tasksDetached (s : State) : State :=
  { s with bus := dropAeAccesses (detachTasks s.bus), ptu := s.ptu.forgetTask }

/-- R176: no block's data moves on. -/
def dataStopped (s : State) : State :=
  stopMoving .znu (stopMoving .clc (stopMoving .pbu (stopMoving .lcu s)))

theorem dataStopped_keeps (s : State) : KeepsTables s (dataStopped s) :=
  (stopMoving_keeps .lcu s).trans ((stopMoving_keeps .pbu _).trans
    ((stopMoving_keeps .clc _).trans (stopMoving_keeps .znu _)))

/-- The registers, the contexts and the page writer at their reset values change neither table. -/
theorem resetHostSide_tables (s : State) :
    (resetHostSide s).ptu = (dataStopped (tasksDetached (abandonApply s))).ptu ∧
      (resetHostSide s).lcu = (dataStopped (tasksDetached (abandonApply s))).lcu := by
  simp only [resetHostSide, onSpw_ptu, onSpw_lcu, dataStopped, tasksDetached, and_self]

theorem resetHostSide_keeps (s : State) : KeepsTables s (resetHostSide s) := by
  have abandoned : KeepsTables s (abandonApply s) := .of_eq (abandonApply_kept s).1 (abandonApply_kept s).2
  have detached (t : State) : KeepsTables t (tasksDetached t) := .ofPtu (fun h => h.withHeldInputs _) rfl
  obtain ⟨ptu, lcu⟩ := resetHostSide_tables s
  exact ((abandoned.trans (detached _)).trans (dataStopped_keeps _)).trans (.of_eq ptu lcu)

theorem znuManagementReset_keeps (s : State) : KeepsTables s (znuManagementReset s) := by
  unfold znuManagementReset
  dsimp only
  split_ifs <;> exact .of_eq rfl rfl

/-- R2, R34, R36: the port table at power-on. -/
theorem ptuPowerOn_sound : ptuPowerOn.Sound := by
  have record (q : Port) : ptuPowerOn.ports[q] = portRecPowerOn := by simp [ptuPowerOn]
  have off : PortRec.Right (ptuPowerOn.view[slotOf (0 : Port)]) portRecPowerOn := PortRec.right_of_seatless rfl (.inl rfl)
  refine Ptu.sound_iff.2 ⟨⟨fun k => ?_, List.nodup_nil, fun q => ?_⟩, fun q => ?_, Ptu.claimRight_of_none rfl⟩
  · have none_held : ptuPowerOn.holders k = 0 := by
      simp only [Ptu.holders, record, portRecPowerOn]; simp
    rw [none_held]; cases k <;> rfl
  · rw [record]; simp [ptuPowerOn, portRecPowerOn]
  · rw [record]; exact PortRec.right_of_seatless rfl (.inl rfl)

/-! ### The commands of the PTU and of the LCU -/

/-- The PTU at work keeps its table sound. -/
theorem KeepsTables.onPtu {f : At Ptu → At Ptu} (hf : ∀ c : At Ptu, c.own.Sound → (f c).own.Sound) (s : State) :
    KeepsTables s (s.onPtu f) :=
  ofPtu (hf { own := s.ptu, bus := s.bus }) rfl

/-- The PTU alone takes a message. -/
theorem OutcomeKeepsTables.onPtu {f : At Ptu → At Ptu} (hf : ∀ c : At Ptu, c.own.Sound → (f c).own.Sound) (s : State)
    (b : Bus) : OutcomeKeepsTables s (.next ((s.withBus b).onPtu f)) :=
  .next ((KeepsTables.onPtu hf (s.withBus b)).of_same rfl rfl)

/-- The LCU alone takes a message. -/
theorem OutcomeKeepsTables.onLcu {f : At Lcu → At Lcu} (hf : ∀ c : At Lcu, c.own.Sound → (f c).own.Sound) (s : State)
    (b : Bus) : OutcomeKeepsTables s (.next ((s.withBus b).onLcu f)) :=
  .next ((KeepsTables.onLcu hf (s.withBus b)).of_same rfl rfl)

theorem ptuRunTask_lcu (s : State) : (ptuRunTask s).lcu = s.lcu := by
  unfold ptuRunTask
  split
  · rfl
  · split_ifs <;> simp

theorem ptuTask_lcu (k : TaskKind) (s : State) : (ptuTask k s).lcu = s.lcu := by
  unfold ptuTask
  split
  · rfl
  · split_ifs
    · rfl
    · rfl
    · exact ptuRunTask_lcu s
    · rfl

theorem ptuTakeHeld_lcu (x : PtuHeld) (s : State) : (ptuTakeHeld x s).lcu = s.lcu := by
  cases x with
  | task => exact ptuRunTask_lcu s
  | sls m => rfl
  | lcu m => rfl

theorem ptuDrain_lcu (l : List PtuHeld) (s : State) : (ptuDrain l s).lcu = s.lcu := by
  induction l generalizing s with
  | nil => rfl
  | cons x l ih =>
    unfold ptuDrain
    split_ifs
    · rfl
    · exact (ih _).trans (ptuTakeHeld_lcu x s)

/-- A task of the LCU is taken. -/
theorem KeepsTables.onLcuTaken {f : At Lcu → At Lcu} (hf : ∀ c : At Lcu, c.own.Sound → (f c).own.Sound) (s : State) :
    KeepsTables s ((s.takeWord .lcu).onLcu f) :=
  (KeepsTables.takeWord s .lcu).trans (KeepsTables.onLcu hf _)

theorem execLicenceReport_keeps (s : State) : OutcomeKeepsTables s (execLicenceReport s) := by
  have reporting (n : Nat) (c : At Lcu) (h : c.own.Sound) : (lcuPhase (.reporting n) c).own.Sound :=
    lcuPhase_sound h (by simp)
  have begun (n : Nat) (out : List Byte) :
      KeepsTables s (((s.takeWord .lcu).onLcu (lcuPhase (.reporting n))).onHost (beginOutput .lcu out)) :=
    (KeepsTables.onLcuTaken (reporting n) s).trans (.of_eq rfl rfl)
  unfold execLicenceReport
  split
  · exact .next (.refl s)
  · dsimp only
    split_ifs
    · exact .next ((begun _ _).trans (KeepsTables.onLcu (fun _ h => lcuReportEnd_sound h _ _) _))
    · exact .next (begun _ _)
    · exact .next (.refl s)

/-- Every command keeps both tables sound. -/
theorem exec_keeps (c : Instr) (s : State) : OutcomeKeepsTables s (exec c s) := by
  by_cases hc : isElsewhere c = true
  · exact exec_elsewhere hc s
  cases c with
  -- the PTU
  | portEnable => exact .next (.ofPtu (fun h => ptuTask_sound h _) (ptuTask_lcu _ s))
  | portDisable => exact .next (.ofPtu (fun h => ptuTask_sound h _) (ptuTask_lcu _ s))
  | claimAnswer =>
    simp only [exec, execClaimAnswer]
    split
    · exact .next (.refl s)
    · refine .next (.ofPtu (fun h => ptuAnswerAndDrain_sound ?_ _) (ptuDrain_lcu _ _))
      exact h
  | slotOnlineReport | identificationSweep | grantReport | withdrawal =>
    simp only [exec, execSlotOnlineReport, execIdentificationSweep, execGrantReport, execWithdrawal]
    split
    · exact .onPtu (fun _ h => ptuInput_sound h _) s _
    · exact .next (.refl s)
  | slotLeftOnlineReport =>
    simp only [exec, execSlotLeftOnlineReport]
    split
    · split
      · exact .next (.refl s)
      · exact .onPtu (fun _ h => ptuInput_sound h _) s _
    · exact .next (.refl s)
  | zoneCount =>
    simp only [exec, execZoneCount]
    split
    · exact .onPtu (fun _ h => ptuZoneCount_sound h _ _) s _
    · exact .next (.refl s)
  -- the LCU
  | licenceCellReadDone =>
    simp only [exec, execLicenceCellReadDone]
    split
    next hs => exact .next (.ofLcu rfl fun h => lcuCellRead_sound (c := { own := s.lcu, bus := s.bus }) h hs)
    next => exact .next (.refl s)
  | licenceInstall =>
    simp only [exec, execLicenceInstall]
    split
    · split
      · exact .next (.onLcu (fun _ h => lcuInstall_sound h _) s)
      · exact .next (.refl s)
    · split
      · exact .next (.refl s)
      · split
        · exact .next ((KeepsTables.onLcuTaken (fun _ h => lcuPhase_sound h (by simp)) s).trans (.of_eq rfl rfl))
        · exact .next (.refl s)
  | licenceRemove =>
    simp only [exec, execLicenceRemove]
    split
    · exact .next (.refl s)
    · split
      · exact .next (KeepsTables.onLcuTaken (fun _ h => resumeRemove_sound (lcuPhase_sound h (by simp))) s)
      · exact .next (.refl s)
  | licenceFreeze =>
    simp only [exec, execLicenceFreeze]
    split
    · exact .next (.refl s)
    · split
      · exact .next (KeepsTables.onLcuTaken (fun _ h => lcuFreeze_sound h) s)
      · exact .next (.refl s)
  | licenceReport => exact execLicenceReport_keeps s
  | storeWriteDone good => exact .next (.onLcu (fun _ h => lcuStoreDone_sound h good) s)
  | hourTick =>
    simp only [exec, execHourTick]
    split
    · exact .next (.refl s)
    · exact .onLcu (fun _ h => lcuHour_sound h) s _
  | withdrawalAnswer =>
    simp only [exec, execWithdrawalAnswer]
    split
    · exact .next (.refl s)
    · exact .onLcu (fun _ h => lcuAnswer_sound h) s _
  -- data that moves
  | pieceFetchDone a bytes =>
    simp only [exec, execPieceFetchDone]
    split
    · exact .next (.refl s)
    · exact .next ((withMove_keeps a _ _).of_same rfl rfl)
  | dataReadDone a bytes =>
    simp only [exec, execDataReadDone]
    split
    · exact .next (.refl s)
    · split
      · exact .next ((withMove_keeps a _ _).of_same rfl rfl)
      · exact .next (.refl s)
  | dataWriteDone a =>
    simp only [exec, execDataWriteDone]
    split
    · exact .next (.refl s)
    · exact .next ((withMove_keeps a _ _).of_same rfl rfl)
  | hostAccessFailed r => exact .next (hostAccessFault_keeps r s)
  | hostAccessTimeout r => exact .next (hostAccessFault_keeps r s)
  -- HALT, the resets and the loss of power
  | halt w => exact execHalt_keeps w s
  | powerOnReset => exact .next ⟨fun _ => ptuPowerOn_sound, fun _ => lcuPowerOn_sound s.lcu.lst⟩
  | managementReset =>
    have reset := resetHostSide_keeps s
    have cleared : KeepsTables (resetHostSide s) { resetHostSide s with lcu := lcuManagementReset (resetHostSide s).lcu } :=
      .ofLcu rfl lcuManagementReset_sound
    exact .next ((reset.trans cleared).trans (znuManagementReset_keeps _))
  | linkReset => exact .next (resetHostSide_keeps s)
  | powerLoss => exact .next (.ofLcu rfl fun h => h.withStore (q := []) List.nodup_nil _)
  | _ => exact absurd rfl hc

theorem step_keeps (s : State) : OutcomeKeepsTables s (step s) := by
  unfold step
  split
  · exact .next (.refl s)
  · rename_i c rest _
    intro t ht
    exact (exec_keeps c { s with pending := rest } t ht).of_same rfl rfl

/-- Settles O4: each operation of the PTU and of the LCU keeps its own table sound, and every other command leaves both
tables as they are. -/
theorem everyStepKeepsPortsAndLicencesSound : Obligations.EveryStepKeepsPortsAndLicencesSound := by
  unfold Obligations.EveryStepKeepsPortsAndLicencesSound
  exact fun s t h => step_keeps s t h

end Sys2Proof.Machine

/-! PROOFS. Power-on reset (R2, R34, R40, R45, R50, R51, R56, R61, R81, R82, R102, R122, R126, R136, R146, R151, R161,
R164): every block sound, with the stated values. -/

namespace Sys2Proof.Machine

open Sys2Proof

/-! ### Each block at power-on -/

theorem pbuPowerOn_sound : pbuPowerOn.Sound := by
  constructor <;> decide

theorem slotRecPowerOn_sound (minutes : Nat) : slotRecPowerOn.Sound minutes := by
  constructor <;> simp [slotRecPowerOn, railsDue]

theorem slsPowerOn_sound : slsPowerOn.Sound := by
  intro i
  have : slsPowerOn.slots[i] = slotRecPowerOn := by simp [slsPowerOn]
  rw [this]
  exact slotRecPowerOn_sound _

theorem clcPowerOn_mustBoost (z : Fin 3) : clcPowerOn.mustBoost z :=
  ⟨⟨2 * z.val, by omega⟩, Fin.ext (by simp [zoneOfTray]), .inl (by simp [clcPowerOn])⟩

theorem clcPowerOn_sound : clcPowerOn.Sound where
  profile_order z := by simp [clcPowerOn, zoneProfilePowerOn]
  profile_duty z := by simp [clcPowerOn, zoneProfilePowerOn]
  sensor_mask n := by
    have : clcPowerOn.sensors[n].state = .ok := by simp [clcPowerOn]
    rw [this]
    revert n; decide
  boosted_right z := iff_of_true (by simp [clcPowerOn]) (clcPowerOn_mustBoost z)
  boosted_duty z := by simp [clcPowerOn]
  zone_duty z := by simp [clcPowerOn, zoneProfilePowerOn]
  tray_duty t := by simp [clcPowerOn]
  tray_full t := by simp [clcPowerOn]
  latch_right t := by simp [clcPowerOn]
  rotor_tray k := by
    have : clcPowerOn.trays[trayOfRotor k].state = .absent := by simp [clcPowerOn]
    rw [this]
    simp [clcPowerOn]
  rotor_armed k := by simp [clcPowerOn]
  hold_timer z := by simp [clcPowerOn]

theorem zoneSetPowerOn_sound : zoneSetPowerOn.Sound := by
  constructor <;> simp [zoneSetPowerOn, membershipTotal]

theorem znuPowerOn_sound : znuPowerOn.Sound :=
  ⟨zoneSetPowerOn_sound, zoneSetPowerOn_sound, List.Pairwise.nil⟩

theorem mxwPowerOn_sound : mxwPowerOn.Sound := by
  constructor <;> simp [mxwPowerOn]

theorem atuPowerOn_place (i : Fin 64) : atuPowerOn.table[i] = none := by simp [atuPowerOn]

theorem atuPowerOn_sound : atuPowerOn.Sound := by
  constructor
  · intro i j r q h; rw [atuPowerOn_place] at h; cases h
  · simp [placesWith, atuPowerOn]
  · intro i r h; rw [atuPowerOn_place] at h; cases h
  · intro i r h; rw [atuPowerOn_place] at h; cases h
  · simp [atuPowerOn]
  · constructor
    all_goals
      refine iff_of_false (by simp [atuPowerOn]) ?_
      rintro ⟨i, r, h, -⟩
      rw [atuPowerOn_place] at h
      cases h

theorem spwPowerOn_sound : spwPowerOn.Sound := by
  constructor <;> simp [spwPowerOn, PageAscending]

theorem mlcPowerOn_sound : mlcPowerOn.Sound := by
  constructor <;> simp [mlcPowerOn]

theorem hostPowerOn_interruptRight : hostPowerOn.InterruptRight := by
  simp [HostSide.InterruptRight, hostPowerOn, hliPowerOn, anchorPowerOn]

theorem reset_sound : State.reset.Sound where
  ptu := ptuPowerOn_sound
  lcu := lcuPowerOn_sound lstBlank
  pbu := pbuPowerOn_sound
  sls := slsPowerOn_sound
  clc := clcPowerOn_sound
  znu := znuPowerOn_sound
  mxw := mxwPowerOn_sound
  atu := atuPowerOn_sound
  spw := spwPowerOn_sound
  mlc := mlcPowerOn_sound
  interrupt := hostPowerOn_interruptRight

/-- Settles O3: each block's invariant at its power-on value, and the values read off the definition. -/
theorem resetIsSoundAndHoldsTheStatedValues : Obligations.ResetIsSoundAndHoldsTheStatedValues := by
  unfold Obligations.ResetIsSoundAndHoldsTheStatedValues
  refine ⟨reset_sound, ?_⟩
  simp [State.reset, State.powerOn, ptuPowerOn, portRecPowerOn, lcuPowerOn, pbuPowerOn, moduleRecPowerOn,
    policyPowerOn, slotEntryPowerOn, slsPowerOn, slotRecPowerOn, clcPowerOn, zoneProfilePowerOn, znuPowerOn,
    zoneSetPowerOn, mxwPowerOn, atuPowerOn, spwPowerOn, mlcPowerOn, tbPowerOn, hostPowerOn, hliPowerOn,
    anchorPowerOn, Counts.zero]

end Sys2Proof.Machine

/-! PROOFS. PORT ENABLE: a claim, or the first failing check (R4, R6, R8, R12). -/

namespace Sys2Proof.Machine

open Sys2Proof

/-! ### Checks 1 and 2 of the slot (R6) -/

/-- The slot can take no port (R6, check 1). -/
def SlotView.shut (v : SlotView) : Prop := v.state = .empty ∨ v.state = .identifying ∨ v.state = .fault

/-- The view has a maximum tier that is not below t (R6, check 2). -/
def SlotView.admits (v : SlotView) (t : Tier) : Prop := ∃ m, v.maxTier = some m ∧ tierNum t ≤ tierNum m

theorem slotCheck_of_shut {v : SlotView} (h : v.shut) (t : Tier) : slotCheck v t = some .noSlot := by
  rcases h with h | h | h <;> simp only [slotCheck, h]

/-- Past check 1 the tier decides. -/
theorem slotCheck_of_open {v : SlotView} (h : ¬ v.shut) (t : Tier) : slotCheck v t = match v.maxTier with
    | none => some .tierUnsupported
    | some m => if tierNum t ≤ tierNum m then none else some .tierUnsupported := by
  unfold SlotView.shut at h
  cases hs : v.state <;> simp_all [slotCheck] <;> rfl

theorem slotCheck_of_admits {v : SlotView} {t : Tier} (h : ¬ v.shut) (ht : v.admits t) : slotCheck v t = none := by
  obtain ⟨m, hm, le⟩ := ht
  simp only [slotCheck_of_open h, hm, le, if_true]

theorem slotCheck_of_above {v : SlotView} {t : Tier} (h : ¬ v.shut) (ht : ¬ v.admits t) :
    slotCheck v t = some .tierUnsupported := by
  rw [slotCheck_of_open h]
  split
  · rfl
  next m hm => exact if_neg fun le => ht ⟨m, hm, le⟩

/-! ### A task word of the PTU taken (R4) -/

theorem tierOfNat_tierNum (t : Tier) : tierOfNat (tierNum t) = some t := by cases t <;> rfl

theorem tierOfNat_outOfRange {n : Nat} (h : n = 0 ∨ 3 < n) : tierOfNat n = none :=
  match n, h with
  | 0, _ => rfl
  | _ + 4, _ => rfl

section taken

variable {s : State} {a : Fin 16} {w : TaskWord} {rest : List (Fin 16 × TaskWord)}

theorem takeWord_ptuPbu (s : State) (v : Server) : (s.takeWord v).bus.ptuPbu = s.bus.ptuPbu := by
  unfold State.takeWord
  split <;> rfl

variable (hq : s.bus.station .ptu = { queue := (a, w) :: rest, service := none }) (hc : s.ptu.claim = none)

include hq in
theorem oldestWord_ptu : s.oldestWord .ptu = some w :=
  oldestWord_eq_some.2 ⟨by rw [hq], a, rest, by rw [hq]⟩

include hq hc

/-- With no claim outstanding the word at the front is taken and its task run. -/
theorem ptuTask_runs {k : TaskKind} (hw : w.is k = true) : ptuTask k s = ptuRunTask s := by
  simp only [ptuTask, hq, hw, if_true, hc, Option.isSome_none, Bool.false_eq_true, if_false]

/-- PORT ENABLE of the word at the front: what it makes of the PTU and of the bus. -/
theorem exec_portEnable (hw : w.is .portEnable = true) {d : At Ptu}
    (h : ptuEnable w { own := s.ptu, bus := (s.takeWord .ptu).bus } = d) :
    exec .portEnable s = .next { s.takeWord .ptu with ptu := d.own, bus := d.bus } := by
  have run : exec .portEnable s = .next ((s.takeWord .ptu).onPtu (ptuEnable w)) := by
    show Host.Outcome.next (ptuTask .portEnable s) = _
    rw [ptuTask_runs hq hc hw]
    simp only [ptuRunTask, oldestWord_ptu hq, hw, if_true]
  rw [run, State.onPtu, takeWord_ptu, h]

/-- A task that ends at once leaves the port table. -/
theorem exec_portEnable_ends (hw : w.is .portEnable = true) {b : Bus}
    (h : ptuEnable w { own := s.ptu, bus := (s.takeWord .ptu).bus } = { own := s.ptu, bus := b }) :
    exec .portEnable s = .next { s.takeWord .ptu with bus := b } := by
  rw [exec_portEnable hq hc hw h]
  exact congrArg Host.Outcome.next (by rw [← takeWord_ptu s .ptu])

/-- The claim is noted and sent, and no port record changes. -/
theorem exec_portEnable_claims (hw : w.is .portEnable = true) {x : PtuClaim} {m : PtuToPbu}
    (h : ptuEnable w { own := s.ptu, bus := (s.takeWord .ptu).bus } =
      { own := { s.ptu with claim := some x }, bus := (s.takeWord .ptu).bus.sendPtuPbu m }) :
    exec .portEnable s = .next { s.takeWord .ptu with
      ptu := { s.ptu with claim := some x }
      bus := { (s.takeWord .ptu).bus with ptuPbu := s.bus.ptuPbu ++ [m] } } := by
  rw [exec_portEnable hq hc hw h, ← takeWord_ptuPbu s .ptu]
  rfl

end taken

/-- A port and a tier in range (R6). -/
theorem ptuEnable_of_tier {w : TaskWord} {p : Port} {t : Tier} (c : At Ptu) (hp : w.bits 0 16 = p.val)
    (ht : w.bits 16 8 = tierNum t) : ptuEnable w c = ptuEnablePort p t (w.bits 24 1 == 1) c := by
  rw [ptuEnable_inRange hp, ht, tierOfNat_tierNum]

/-- R4: with a claim outstanding the word keeps its place among the held inputs. -/
theorem ptuTask_holds {s : State} {a : Fin 16} {w : TaskWord} {rest : List (Fin 16 × TaskWord)} {k : TaskKind}
    (hq : (s.bus.station .ptu).queue = (a, w) :: rest) (hc : s.ptu.claim ≠ none) (hw : w.is k = true) :
    ptuTask k s = { s with ptu := { s.ptu with
      heldInputs := if .task ∈ s.ptu.heldInputs then s.ptu.heldInputs else s.ptu.heldInputs ++ [.task] } } := by
  have waits : s.ptu.claim.isSome = true := Option.isSome_iff_ne_none.2 hc
  simp only [ptuTask, hq, hw, if_true, waits, List.contains_iff_mem]
  split_ifs <;> rfl

/-- Settles O16: each check of PORT ENABLE, in its order, picks the branch that the statement names. -/
theorem portEnableClaimsOrIsRefused : Obligations.PortEnableClaimsOrIsRefused := by
  unfold Obligations.PortEnableClaimsOrIsRefused
  refine ⟨?_, ?_, ?_, ?_⟩
  · intro s a w rest p t m hq hc hw hp ht empty identifying fault hm le
    have check := slotCheck_of_admits (v := s.ptu.view[slotOf p])
      (fun h => h.elim empty fun h => h.elim identifying fault) ⟨m, hm, le⟩
    constructor
    · intro seat off fit waits
      have found := lowestFit_iff.1 fit
      apply exec_portEnable_claims hq hc hw
      rw [ptuEnable_of_tier _ hp ht, ptuEnablePort_port off check]
      · rw [found]
      · rw [found]; intro e; rw [waits e]; rfl
    · intro on other
      apply exec_portEnable_claims hq hc hw
      rw [ptuEnable_of_tier _ hp ht, ptuEnablePort_tier _ on other check]
  · intro s a w rest p t hq hc hw hp ht off v refusedWith shut low
    have refused {why : Reason} (check : slotCheck v t = some why) : refusedWith why := by
      apply exec_portEnable_ends hq hc hw
      rw [ptuEnable_of_tier _ hp ht, ptuEnablePort_refused _ (.inl off) check]
      rfl
    refine ⟨fun h => refused (slotCheck_of_shut h t), fun h hl => refused (slotCheck_of_above h hl), ?_⟩
    intro h hl full noWait
    apply exec_portEnable_ends hq hc hw
    rw [ptuEnable_of_tier _ hp ht, noWait]
    exact ptuEnablePort_noSeat off (slotCheck_of_admits h hl) (lowestFit_iff.1 full)
  · intro s a w rest hq hc hw taken ends
    refine ⟨fun h => exec_portEnable_ends hq hc hw (ptuEnable_outOfRange h), ?_⟩
    intro p hp words
    refine ⟨fun h => ?_, ?_⟩
    · apply exec_portEnable_ends hq hc hw
      rw [ptuEnable_inRange hp, tierOfNat_outOfRange h]
      rfl
    · intro t ht on v shut low
      have refused {why : Reason} (other : t ≠ s.ptu.ports[p].reqTier) (check : slotCheck v t = some why) :
          ends (taken.refuse .ptu why words) := by
        apply exec_portEnable_ends hq hc hw
        rw [ptuEnable_of_tier _ hp ht, ptuEnablePort_refused _ (.inr other) check]
        rfl
      refine ⟨fun same => ?_, fun other h => refused other (slotCheck_of_shut h t),
        fun other h hl => refused other (slotCheck_of_above h hl)⟩
      apply exec_portEnable_ends hq hc hw
      rw [ptuEnable_of_tier _ hp ht, ptuEnablePort_same _ on same]
      rfl
  · rintro s a w rest c hq hc (⟨rfl, hw⟩ | ⟨rfl, hw⟩)
    · exact congrArg Host.Outcome.next (ptuTask_holds hq hc hw)
    · exact congrArg Host.Outcome.next (ptuTask_holds hq hc hw)

end Sys2Proof.Machine

/-! PROOFS. What the PTU's operations send, and how its tasks end. -/

namespace Sys2Proof.Machine

open Sys2Proof

/-! ### The end of a task -/

/-- The end of a task touches stations, outcomes and accesses alone. -/
theorem endTask_frame (b : Bus) (v : Server) (cls : OutcomeClass) (d : Details) :
    b.endTask v cls d = { b with
      stations := (b.endTask v cls d).stations
      outcomes := (b.endTask v cls d).outcomes
      accesses := (b.endTask v cls d).accesses } := by
  cases h : b.service v with
  | none => rw [endTask_of_free cls d h]
  | some sv => rw [endTask_of_service cls d h]; rfl

/-- The three channels that writes of port records send on, replaced. -/
def withChannels (b : Bus) (spw : List PageRecord) (mxw : List Port) (atu : List AlarmRequest) : Bus :=
  { b with toSpw := spw, ptuMxw := mxw, toAtu := atu }

/-- A task ends the same way whatever waits on these channels. -/
theorem endTask_withChannels (b : Bus) (v : Server) (cls : OutcomeClass) (d : Details) (spw : List PageRecord)
    (mxw : List Port) (atu : List AlarmRequest) :
    (withChannels b spw mxw atu).endTask v cls d = withChannels (b.endTask v cls d) spw mxw atu := by
  cases h : b.service v with
  | none => rw [endTask_of_free cls d h, endTask_of_free (b := withChannels b spw mxw atu) cls d h]
  | some sv =>
    rw [endTask_of_service cls d h, endTask_of_service (b := withChannels b spw mxw atu) cls d h]
    rfl

theorem endTask_queue (b : Bus) (v : Server) (cls : OutcomeClass) (d : Details) :
    ((b.endTask v cls d).station v).queue = (b.station v).queue := by
  cases h : b.service v with
  | none => rw [endTask_of_free cls d h]
  | some sv =>
    rw [endTask_of_service cls d h]
    show ((b.setStation v { b.station v with service := none }).station v).queue = (b.station v).queue
    rw [setStation_station_self]

/-- The task whose word was just taken ends: its queue keeps the words behind it and its anchor has the outcome. -/
theorem endTask_taken {s : State} {v : Server} {a : Fin 16} {w : TaskWord} {rest : List (Fin 16 × TaskWord)} {b : Bus}
    (cls : OutcomeClass) (d : Details) (hq : (s.bus.station v).queue = (a, w) :: rest)
    (hb : b.stations = (s.takeWord v).bus.stations) :
    ((b.endTask v cls d).station v).queue = rest ∧
      (b.endTask v cls d).outcomes = b.outcomes ++
        [{ server := v, anchor := some a, cls := cls, details := d }] := by
  have station : b.station v =
      { queue := rest, service := some { anchor := some a, word := w, input := [], output := [] } } := by
    show b.stations[serverIndex v] = _
    rw [hb, takeWord_of_queue hq]
    exact setStation_station_self s.bus v _
  refine ⟨by rw [endTask_queue, station], ?_⟩
  rw [endTask_of_service cls d (congrArg Station.service station)]

/-! ### Places on the wait list (R12) -/

theorem waitPosition_of_notMem {w : List Port} {p : Port} (h : p ∉ w) : waitPosition w p = 0 := by
  have : w.findIdx? (fun q => decide (q = p)) = none := by
    rw [List.findIdx?_eq_none_iff]
    intro q hq
    simpa using ne_of_mem_of_not_mem hq h
  simp only [waitPosition, this]

theorem waitPosition_of_mem {w : List Port} {p : Port} (h : p ∈ w) : waitPosition w p = w.idxOf p + 1 := by
  have found : w.findIdx? (fun q => decide (q = p)) = some (w.idxOf p) := by
    rw [List.findIdx?_eq_some_iff_getElem]
    refine ⟨List.idxOf_lt_length_of_mem h, by simp, fun j hj => ?_⟩
    have := List.not_of_lt_findIdx hj
    simpa using this
  simp only [waitPosition, found]

/-! ### Runs of writes -/

namespace PtuWrites

variable {l : List Port} {c d : At Ptu}

/-- No write at all is a run over any ports. -/
theorem idle (l : List Port) (c : At Ptu) : PtuWrites l c c := by
  induction l with
  | nil => exact .nil c
  | cons p l ih => exact .cons p c.own.ports[p] (by rwa [ptuWrite_same rfl])

/-- Of ports that wait, those that are found in service after the run have entered it. -/
theorem ptuMxw_of_waiting (h : PtuWrites l c d) (hl : l.Nodup) (hw : ∀ q ∈ l, c.own.ports[q].state = .unseated) :
    d.bus.ptuMxw = c.bus.ptuMxw ++ l.filter (fun q => d.own.ports[q].state = .inService) := by
  rw [h.ptuMxw_eq hl]
  congr 1
  refine List.filter_congr fun q hq => ?_
  rw [hw q hq]
  simp

end PtuWrites

end Sys2Proof.Machine

/-! PROOFS. PORT DISABLE (R11): the port released, the list served, the notice and the task's end. -/

namespace Sys2Proof.Machine

open Sys2Proof

/-! ### The table with one port disabled -/

/-- R11: the port is DISABLED with no seat, its seat is free and it waits no more. -/
def Ptu.portOff (u : Ptu) (p : Port) : Ptu :=
  { u with
    ports := setAt u.ports p (disabledRec u.ports[p])
    held := match u.ports[p].seat with
      | none => u.held
      | some k => u.held.set k (u.held.get k - 1)
    waitList := u.waitList.filter (fun q => q ≠ p) }

section released

variable {c : At Ptu} {p : Port}

/-- The port written DISABLED, with its release sent: the start of the list's service. -/
def portOffAt (p : Port) (c : At Ptu) : At Ptu :=
  ptuWrite p (disabledRec c.own.ports[p]) { c with bus := c.bus.sendPtuPbu (.portRelease p) }

theorem portOffAt_own (h : c.own.Unclaimed) (on : c.own.ports[p].state ≠ .disabled) :
    (portOffAt p c).own = c.own.portOff p := by
  have other : c.own.ports[p] ≠ disabledRec c.own.ports[p] := fun e => on (e ▸ rfl)
  have left := waitAfter_left (new := PortState.disabled) (h.tallied.wait_unseated p) (by decide)
  rw [portOffAt, ptuWrite_own (c := { c with bus := c.bus.sendPtuPbu (.portRelease p) }) other]
  unfold Ptu.portOff countSeat
  simp only [disabledRec, left] <;> rfl

theorem portOffAt_unclaimed (h : c.own.Unclaimed) : (portOffAt p c).own.Unclaimed :=
  Ptu.Unclaimed.write (c := { c with bus := c.bus.sendPtuPbu (.portRelease p) }) h
    (PortRec.right_of_seatless rfl (.inl rfl))

theorem releasedPort_of_seatless (hs : c.own.ports[p].seat = none) : releasedPort p c = portOffAt p c := by
  simp only [releasedPort, hs, if_true, portOffAt]

theorem releasedPort_of_seated (hs : c.own.ports[p].seat ≠ none) :
    releasedPort p c = waitListService (portOffAt p c) := by
  simp only [releasedPort, hs, if_false, portOffAt]

variable (h : c.own.Unclaimed) (on : c.own.ports[p].state ≠ .disabled)

include h in
theorem releasedPort_nodup : (p :: c.own.waitList.filter (fun q => q ≠ p)).Nodup :=
  List.nodup_cons.2 ⟨by simp, h.tallied.wait_nodup.filter _⟩

include h on

theorem releasedPort_own : (releasedPort p c).own =
    if c.own.ports[p].seat = none then c.own.portOff p
    else (c.own.portOff p).waitList.foldl Ptu.waiterServed (c.own.portOff p) := by
  split_ifs with hs
  · rw [releasedPort_of_seatless hs, portOffAt_own h on]
  · have off := portOffAt_unclaimed (p := p) h
    rw [releasedPort_of_seated hs, service_own off.tallied off.recordsRight, portOffAt_own h on]

/-- The port and then the ports that wait behind it are written. -/
theorem releasedPort_writes : PtuWrites (p :: c.own.waitList.filter (fun q => q ≠ p))
    { c with bus := c.bus.sendPtuPbu (.portRelease p) } (releasedPort p c) := by
  have wait : c.own.waitList.filter (fun q => q ≠ p) = (portOffAt p c).own.waitList := by
    rw [portOffAt_own h on]; rfl
  refine .cons p (disabledRec c.own.ports[p]) ?_
  show PtuWrites _ (portOffAt p c) _
  by_cases hs : c.own.ports[p].seat = none
  · rw [releasedPort_of_seatless hs]; exact .idle _ _
  · rw [releasedPort_of_seated hs, wait]; exact service_writes _

/-- The port itself is DISABLED. -/
theorem releasedPort_self : (releasedPort p c).own.ports[p] = disabledRec c.own.ports[p] := by
  have written : (portOffAt p c).own.ports[p] = disabledRec c.own.ports[p] := by
    rw [portOffAt, ptuWrite_ports, setAt_get_self]
  by_cases hs : c.own.ports[p].seat = none
  · rw [releasedPort_of_seatless hs, written]
  · rw [releasedPort_of_seated hs, (service_writes _).port_eq, written]
    rw [portOffAt_own h on]
    simp [Ptu.portOff]

/-- A port that does not wait stands. -/
theorem releasedPort_port {q : Port} (hq : q ≠ p) (hw : c.own.ports[q].state ≠ .unseated) :
    (releasedPort p c).own.ports[q] = c.own.ports[q] := by
  refine (releasedPort_writes h on).port_eq ?_
  simp only [List.mem_cons, hq, List.mem_filter, h.tallied.wait_unseated, hw, false_and, or_self, not_false_eq_true]

/-- Of the other ports none is enabled or disabled. -/
theorem releasedPort_disabled (q : Port) :
    (releasedPort p c).own.ports[q].state = .disabled ↔ q = p ∨ c.own.ports[q].state = .disabled := by
  by_cases e : q = p
  · subst e; rw [releasedPort_self h on]; simp [disabledRec]
  · have off := portOffAt_unclaimed (p := p) h
    have stands : (portOffAt p c).own.ports[q] = c.own.ports[q] := ptuWrite_port_ne _ _ (Ne.symm e)
    by_cases hs : c.own.ports[p].seat = none
    · rw [releasedPort_of_seatless hs, stands]; simp [e]
    · rw [releasedPort_of_seated hs, service_disabled off.tallied off.recordsRight, stands]; simp [e]

/-- R13: the slot is out of use when the port was its last. -/
theorem releasedPort_inUse : slotInUse (releasedPort p c).own (slotOf p) = false ↔
    ∀ q : Port, slotOf q = slotOf p → q ≠ p → c.own.ports[q].state = .disabled := by
  rw [Bool.eq_false_iff, ne_eq, slotInUse_iff]
  simp only [releasedPort_disabled h on, not_exists, not_and, not_not]
  exact forall₂_congr fun q _ => by tauto

/-- R36: the list only loses ports, and the alarm follows. -/
theorem releasedPort_shrinks : (releasedPort p c).own.waitList.Sublist c.own.waitList ∧
    (releasedPort p c).bus.toAtu = c.bus.toAtu ++
      unseatedRequests c.own.waitList (releasedPort p c).own.waitList := by
  refine (releasedPort_writes h on).shrinks (releasedPort_nodup h) fun q hq hs => ?_
  rcases List.mem_cons.1 hq with rfl | hq
  · rw [releasedPort_self h on] at hs; cases hs
  · exact (h.tallied.wait_unseated q).1 (List.mem_filter.1 hq).1

theorem releasedPort_ptuMxw : (releasedPort p c).bus.ptuMxw =
    c.bus.ptuMxw ++ (if c.own.ports[p].state = .inService then [p] else []) ++
      c.own.waitList.filter (fun q => (releasedPort p c).own.ports[q].state = .inService) := by
  have self : (releasedPort p c).own.ports[p].state = .disabled := by rw [releasedPort_self h on]; rfl
  have others : (c.own.waitList.filter (fun q => q ≠ p)).filter (fun q => decide
        ((c.own.ports[q].state = .inService) ≠ ((releasedPort p c).own.ports[q].state = .inService))) =
      c.own.waitList.filter (fun q => (releasedPort p c).own.ports[q].state = .inService) := by
    rw [List.filter_filter]
    refine List.filter_congr fun q hq => ?_
    by_cases e : q = p
    · subst e; simp only [self]; simp
    · simp only [(h.tallied.wait_unseated q).1 hq]; simp [e]
  rw [(releasedPort_writes h on).ptuMxw_eq (releasedPort_nodup h), List.filter_cons, self]
  rw [show ({ c with bus := c.bus.sendPtuPbu (.portRelease p) } : At Ptu).own = c.own from rfl, others]
  split_ifs <;> simp_all [Bus.sendPtuPbu]

end released

/-! ### PORT DISABLE of the word at the front -/

/-- A word is of one kind. -/
theorem TaskWord.is_ne {w : TaskWord} {j k : TaskKind} (h : w.is k = true) (hjk : j ≠ k) : w.is j = false := by
  simp only [TaskWord.is, beq_iff_eq] at h
  simpa [TaskWord.is, h] using Ne.symm hjk

theorem exec_portDisable {s : State} {a : Fin 16} {w : TaskWord} {rest : List (Fin 16 × TaskWord)}
    (hq : s.bus.station .ptu = { queue := (a, w) :: rest, service := none }) (hc : s.ptu.claim = none)
    (hw : w.is .portDisable = true) {d : At Ptu}
    (h : ptuDisable s.pbu w { own := s.ptu, bus := (s.takeWord .ptu).bus } = d) :
    exec .portDisable s = .next { s.takeWord .ptu with ptu := d.own, bus := d.bus } := by
  have run : exec .portDisable s = .next ((s.takeWord .ptu).onPtu (ptuDisable s.pbu w)) := by
    show Host.Outcome.next (ptuTask .portDisable s) = _
    rw [ptuTask_runs hq hc hw]
    simp only [ptuRunTask, oldestWord_ptu hq, TaskWord.is_ne hw (by decide : TaskKind.portEnable ≠ .portDisable),
      Bool.false_eq_true, if_false]
  rw [run, State.onPtu, takeWord_ptu, h]

/-- The word taken touches the bus and the anchors of the host side alone. -/
theorem takeWord_frame (s : State) (v : Server) :
    s.takeWord v = { s with bus := (s.takeWord v).bus, host := (s.takeWord v).host } := by
  unfold State.takeWord
  split <;> rfl

/-- And of the bus the block's station alone. -/
theorem takeWord_bus (s : State) (v : Server) :
    (s.takeWord v).bus = { s.bus with stations := (s.takeWord v).bus.stations } := by
  unfold State.takeWord
  split <;> rfl

/-- R12: the details of a port that is DISABLED and does not wait. -/
theorem portDetails_disabled {u : Ptu} {p : Port} (watts : Int) (off : u.ports[p].state = .disabled)
    (seatless : u.ports[p].seat = none) (hw : p ∉ u.waitList) :
    portDetails u p watts = { w0 := 1, w1 := 0, w2 := 0, w3 := signedWord watts } := by
  simp only [portDetails, off, seatless, waitPosition_of_notMem hw]
  rfl

/-- What a PORT DISABLE of an admin-enabled port leaves on the bus: the release of the port, the notice of the slot and
the end of the task. -/
theorem disabled_bus {c : At Ptu} (h : c.own.Unclaimed) {p : Port} (on : c.own.ports[p].state ≠ .disabled)
    (watts : Nat) {b : Bus} (hb : b = (ptuDisablePort watts p c).bus) :
    b.ptuPbu = c.bus.ptuPbu ++ [.portRelease p] ∧ b.ptuMxw = (releasedPort p c).bus.ptuMxw ∧
      b.toAtu = (releasedPort p c).bus.toAtu ∧
      b.ptuSls = c.bus.ptuSls ++ (if ∀ q : Port, slotOf q = slotOf p → q ≠ p → c.own.ports[q].state = .disabled
        then [.useNotice (slotOf p) false] else []) := by
  have inUse : slotInUse c.own (slotOf p) = true := slotInUse_iff.2 ⟨p, rfl, on⟩
  have writes := (releasedPort_writes h on).bus_eq
  have crossed := releasedPort_inUse h on
  rw [ptuDisablePort_on watts on, inUse, noticeIfCrossed_eq] at hb
  rw [hb, ptuClose, Bus.closeNormal, endTask_frame]
  refine ⟨by rw [writes]; rfl, rfl, rfl, ?_⟩
  show (releasedPort p c).bus.ptuSls ++ _ = _
  rw [writes]
  cases hu : slotInUse (releasedPort p c).own (slotOf p) with
  | true =>
    rw [if_neg (crossed.not.1 (by simp [hu]))]; simp [Bus.sendPtuPbu]
  | false =>
    rw [if_pos (crossed.1 hu)]; simp [Bus.sendPtuPbu]

/-- And the task whose word was just taken ends NORMAL with the watts given back (R12). -/
theorem disabled_end {s : State} {a : Fin 16} {w : TaskWord} {rest : List (Fin 16 × TaskWord)} {p : Port} {c : At Ptu}
    (hq : (s.bus.station .ptu).queue = (a, w) :: rest) (hc : c.bus = (s.takeWord .ptu).bus) (h : c.own.Unclaimed)
    (on : c.own.ports[p].state ≠ .disabled) (watts : Nat) {b : Bus} (hb : b = (ptuDisablePort watts p c).bus) :
    (b.station .ptu).queue = rest ∧ b.service .ptu = none ∧ b.outcomes = s.bus.outcomes ++ [{
      server := .ptu, anchor := some a, cls := .normal
      details := { w0 := 1, w1 := 0, w2 := 0, w3 := signedWord (-(watts : Int)) } }] := by
  have off := releasedPort_unclaimed h p
  have self := releasedPort_self h on
  have writes := (releasedPort_writes h on).bus_eq
  have left : p ∉ (releasedPort p c).own.waitList := by
    rw [off.tallied.wait_unseated, self]; simp [disabledRec]
  have ended : b = (noticeIfCrossed (slotOf p) (slotInUse c.own (slotOf p)) (releasedPort p c)).bus.endTask .ptu .normal
      { w0 := 1, w1 := 0, w2 := 0, w3 := signedWord (-(watts : Int)) } := by
    rw [hb, ptuDisablePort_on watts on, ptuClose, Bus.closeNormal, noticeIfCrossed_own,
      portDetails_disabled _ (congrArg PortRec.state self) (congrArg PortRec.seat self) left]
  have stations : (noticeIfCrossed (slotOf p) (slotInUse c.own (slotOf p)) (releasedPort p c)).bus.stations =
      (s.takeWord .ptu).bus.stations := by
    rw [noticeIfCrossed_eq, writes, ← hc]; rfl
  have sent : (noticeIfCrossed (slotOf p) (slotInUse c.own (slotOf p)) (releasedPort p c)).bus.outcomes =
      s.bus.outcomes := by
    rw [noticeIfCrossed_eq, writes]
    show c.bus.outcomes = _
    rw [hc, takeWord_bus]
  obtain ⟨queue, outcomes⟩ := endTask_taken .normal
    { w0 := 1, w1 := 0, w2 := 0, w3 := signedWord (-(watts : Int)) } hq stations
  rw [ended]
  exact ⟨queue, endTask_service _ _ _ _, outcomes.trans (by rw [sent])⟩

/-- Settles O18: the port is released, the list served if a seat came free, and the task ends. -/
theorem portDisableDisablesThePort : Obligations.PortDisableDisablesThePort := by
  unfold Obligations.PortDisableDisablesThePort
  constructor
  · intro s a w rest p hq hc hs hw hp on
    let c : At Ptu := { own := s.ptu, bus := (s.takeWord .ptu).bus }
    have h : c.own.Unclaimed := hs.unclaimed hc
    generalize hd : ptuDisablePort (reservedWatts s.pbu p) p c = d
    have own : d.own = (releasedPort p c).own := by
      rw [← hd, ptuDisablePort_on _ on, ptuClose_own, noticeIfCrossed_own]
    have self : d.own.ports[p] = disabledRec s.ptu.ports[p] := by rw [own, releasedPort_self h on]
    have writes : PtuWrites _ _ (releasedPort p c) := releasedPort_writes h on
    have off : (releasedPort p c).own.Unclaimed := releasedPort_unclaimed h p
    have left : p ∉ d.own.waitList := by rw [own, off.tallied.wait_unseated, releasedPort_self h on]; simp [disabledRec]
    have stood : c.bus = { s.bus with stations := c.bus.stations } := takeWord_bus s .ptu
    obtain ⟨sub, alarm⟩ := releasedPort_shrinks h on
    obtain ⟨toPbu, toMxw, toAtu, toSls⟩ := disabled_bus h on (reservedWatts s.pbu p) (congrArg At.bus hd.symm)
    obtain ⟨queue, free, outcomes⟩ := disabled_end (congrArg Station.queue hq) (c := c) rfl h on (reservedWatts s.pbu p)
      (congrArg At.bus hd.symm)
    refine ⟨_, exec_portDisable hq hc hw ((ptuDisable_inRange hp).trans hd), ?_, ?_, ?_, ?_, self, left, ?_, ?_, ?_, ?_, ?_,
      ?_, ?_, queue, free, outcomes⟩
    · exact congrArg (fun t : State => { t with ptu := d.own, bus := d.bus }) (takeWord_frame s .ptu)
    · exact own.trans (releasedPort_own h on)
    · rw [toSls, stood]
    · rw [toAtu, alarm, unseatedRequests_sublist sub, ← own, stood]
    · rw [own]; exact sub
    · rw [own, writes.own_eq]
    · intro seatless
      have : d.own = s.ptu.portOff p := by rw [own, releasedPort_own h on]; exact if_pos seatless
      refine ⟨?_, ?_, fun q hq => ?_⟩
      · show d.own.held = _
        rw [this]; simp only [Ptu.portOff, seatless]
      · exact congrArg Ptu.waitList this
      · show d.own.ports[q] = _
        rw [this]; exact setAt_get_ne _ _ _ _ (Ne.symm hq)
    · intro seated
      rw [own, releasedPort_of_seated seated]
      have start := portOffAt_unclaimed (p := p) h
      exact fun q hq => service_starves start.tallied start.recordsRight hq
    · intro q hq hw
      rw [own]; exact releasedPort_port h on hq hw
    · rw [toPbu, stood]
    · rw [toMxw, releasedPort_ptuMxw h on, own, stood]
  · intro s a w rest hq hc hw taken
    have ends {b : Bus} (h : ptuDisable s.pbu w { own := s.ptu, bus := taken } = { own := s.ptu, bus := b }) :
        exec .portDisable s = .next { s.takeWord .ptu with bus := b } := by
      rw [exec_portDisable hq hc hw h]
      exact congrArg Host.Outcome.next (by rw [← takeWord_ptu s .ptu])
    refine ⟨fun range => ends (ptuDisable_outOfRange range), fun p hp off => ends ?_⟩
    rw [ptuDisable_inRange hp, ptuDisablePort_off _ off]
    rfl

end Sys2Proof.Machine

/-! PROOFS. The reports of the SLS (R14 to R16): what they write, and what they send. -/

namespace Sys2Proof.Machine

open Sys2Proof

/-- Where every port keeps its seat and its place nothing changes but the records, the marks of those that changed, and
the recompute additions of those that entered or left IN_SERVICE. -/
theorem PtuWrites.seats_kept {l : List Port} {c d : At Ptu} (h : PtuWrites l c d) (hl : l.Nodup) (ht : c.own.Tallied)
    (hk : ∀ q ∈ l, d.own.ports[q].seat = c.own.ports[q].seat ∧
      (c.own.ports[q].state = .unseated ↔ d.own.ports[q].state = .unseated)) :
    d.own = { c.own with ports := d.own.ports } ∧
      d.bus = { c.bus with
        toSpw := c.bus.toSpw ++ (l.filter (fun q => d.own.ports[q] ≠ c.own.ports[q])).map .port
        ptuMxw := c.bus.ptuMxw ++ l.filter (fun q => decide
          ((c.own.ports[q].state = .inService) ≠ (d.own.ports[q].state = .inService))) } := by
  obtain ⟨held, wait, atu, spw⟩ := h.keeps_seats hl ht hk
  have own := h.own_eq
  have bus := h.bus_eq
  rw [held, wait] at own
  rw [spw, h.ptuMxw_eq hl, atu] at bus
  exact ⟨own, bus⟩

/-! ### The records that a report writes -/

theorem onlineRec_of_parked {r : PortRec} (h : r.state = .parked) :
    onlineRec r = { r with state := .inService, reason := .slotUp } := if_pos h

theorem onlineRec_ne (r : PortRec) : onlineRec r ≠ r ↔ r.state = .parked := by
  by_cases h : r.state = .parked
  · rw [onlineRec_of_parked h]
    exact iff_of_true (fun e => by have := congrArg PortRec.state e; rw [h] at this; cases this) h
  · simp only [onlineRec, h, if_false, ne_eq, not_true_eq_false]

/-- Exactly the PARKED ports enter IN_SERVICE. -/
theorem onlineRec_enters (r : PortRec) :
    (r.state = .inService) ≠ ((onlineRec r).state = .inService) ↔ r.state = .parked := by
  by_cases h : r.state = .parked
  · simp [onlineRec_of_parked h, h]
  · simp [onlineRec, h]

theorem onlineRec_of_not {r : PortRec} (h : r.state ≠ .parked) : onlineRec r = r := if_neg h

/-- A report of ONLINE moves no seat and ends no wait. -/
theorem onlineRec_keeps (r : PortRec) :
    (onlineRec r).seat = r.seat ∧ (r.state = .unseated ↔ (onlineRec r).state = .unseated) ∧
      (r.state = .disabled ↔ (onlineRec r).state = .disabled) := by
  by_cases h : r.state = .parked
  · rw [onlineRec_of_parked h]; simp [h]
  · rw [onlineRec_of_not h]; simp

theorem leftRec_of_seated {r : PortRec} (why : Option PortReason) (h : r.state = .inService ∨ r.state = .parked) :
    leftRec why r = { r with state := .parked, reason := why.getD r.reason } := if_pos h

theorem leftRec_of_not {r : PortRec} (why : Option PortReason) (h : ¬ (r.state = .inService ∨ r.state = .parked)) :
    leftRec why r = r := if_neg h

/-- Exactly the ports IN_SERVICE leave it. -/
theorem leftRec_leaves (why : Option PortReason) (r : PortRec) :
    (r.state = .inService) ≠ ((leftRec why r).state = .inService) ↔ r.state = .inService := by
  by_cases h : r.state = .inService ∨ r.state = .parked
  · rw [leftRec_of_seated why h]; rcases h with h | h <;> simp [h]
  · rw [leftRec_of_not why h]; simpa using fun e => h (.inl e)

/-- Nor does a report of any other state. -/
theorem leftRec_keeps (why : Option PortReason) (r : PortRec) :
    (leftRec why r).seat = r.seat ∧ (r.state = .unseated ↔ (leftRec why r).state = .unseated) ∧
      (r.state = .disabled ↔ (leftRec why r).state = .disabled) := by
  by_cases h : r.state = .inService ∨ r.state = .parked
  · rw [leftRec_of_seated why h]; rcases h with h | h <;> simp [h]
  · rw [leftRec_of_not why h]; simp

/-! ### A report taken from its channel -/

/-- The command of a report, by the state that it says. -/
theorem exec_slotReport {s : State} {i : Slot} {st : SlotState} {cause : ReportCause} {rest : List SlsToPtu}
    (hm : s.bus.slsPtu = .report i st cause :: rest) :
    exec (if st = .online then .slotOnlineReport else .slotLeftOnlineReport) s =
      .next ((s.withBus { s.bus with slsPtu := rest }).onPtu (ptuInput (.sls (.report i st cause)))) := by
  by_cases e : st = .online
  · subst e
    show execSlotOnlineReport s = _
    simp only [execSlotOnlineReport, hm]
  · rw [if_neg e]
    show execSlotLeftOnlineReport s = _
    simp only [execSlotLeftOnlineReport, hm, e, if_false]

/-- With no claim outstanding the report is taken at once. -/
theorem exec_slotReport_of_free {s : State} {i : Slot} {st : SlotState} {cause : ReportCause} {rest : List SlsToPtu}
    (hm : s.bus.slsPtu = .report i st cause :: rest) (hc : s.ptu.claim = none) {d : At Ptu}
    (hd : ptuReport i st { own := s.ptu, bus := { s.bus with slsPtu := rest } } = d) :
    exec (if st = .online then .slotOnlineReport else .slotLeftOnlineReport) s =
      .next { s with ptu := d.own, bus := d.bus } := by
  rw [exec_slotReport hm, State.onPtu]
  have taken : ptuInput (.sls (.report i st cause)) { own := s.ptu, bus := { s.bus with slsPtu := rest } } = d :=
    (ptuInput_of_free hc _).trans hd
  exact congrArg (fun d : At Ptu => Host.Outcome.next { s with ptu := d.own, bus := d.bus }) taken

/-! ### The ports of the slot -/

/-- The ports of a slot written anew in ascending order, each with its seat and its place kept: the channels and the
table in terms of the old records alone. -/
theorem slotPorts_eq {i : Slot} {f : PortRec → PortRec} {v d : At Ptu} (run : PtuWrites (portsOf i) v d)
    (ht : v.own.Tallied)
    (ports : ∀ q : Port, d.own.ports[q] = if q ∈ portsOf i then f v.own.ports[q] else v.own.ports[q])
    (keeps : ∀ r, (f r).seat = r.seat ∧ (r.state = .unseated ↔ (f r).state = .unseated) ∧
      (r.state = .disabled ↔ (f r).state = .disabled)) :
    d.own = { v.own with ports := d.own.ports } ∧ slotInUse d.own i = slotInUse v.own i ∧
      d.bus = { v.bus with
        toSpw := v.bus.toSpw ++ ((portsOf i).filter (fun q => d.own.ports[q] ≠ v.own.ports[q])).map .port
        ptuMxw := v.bus.ptuMxw ++ (portsOf i).filter (fun q => decide
          ((v.own.ports[q].state = .inService) ≠ ((f v.own.ports[q]).state = .inService))) } := by
  have written : ∀ q ∈ portsOf i, d.own.ports[q] = f v.own.ports[q] := fun q hq => by rw [ports, if_pos hq]
  obtain ⟨own, bus⟩ := run.seats_kept (portsOf_nodup i) ht fun q hq => by
    rw [written q hq]; exact ⟨(keeps _).1, (keeps _).2.1⟩
  refine ⟨own, slotInUse_congr fun q hq => ?_, ?_⟩
  · rw [written q (mem_portsOf.2 hq)]; exact (keeps _).2.2.symm
  · have entered : (portsOf i).filter (fun q => decide
          ((v.own.ports[q].state = .inService) ≠ (d.own.ports[q].state = .inService))) =
        (portsOf i).filter (fun q => decide
          ((v.own.ports[q].state = .inService) ≠ ((f v.own.ports[q]).state = .inService))) :=
      List.filter_congr fun q hq => by rw [written q hq]
    rw [← entered]
    exact bus

/-- R14, the ports: what the run over the slot's ports makes of the table and of the bus. -/
theorem portsOnline_ports {i : Slot} {c d : At Ptu} (h : c.own.Unclaimed)
    (hd : (portsOf i).foldl portOnline (ptuView i .online c) = d) :
    d.own = { (ptuView i .online c).own with ports := d.own.ports } ∧ slotInUse d.own i = slotInUse c.own i ∧
      (∀ q : Port, d.own.ports[q] = if slotOf q = i ∧ c.own.ports[q].state = .parked
        then { c.own.ports[q] with state := .inService, reason := .slotUp } else c.own.ports[q]) ∧
      d.bus = { c.bus with
        toSpw := c.bus.toSpw ++ ((portsOf i).filter (fun q => c.own.ports[q].state = .parked)).map .port
        ptuMxw := c.bus.ptuMxw ++ (portsOf i).filter (fun q => c.own.ports[q].state = .parked) } := by
  have run := portsOnline_writes i (ptuView i .online c)
  have ports := foldl_ports portOnline_eq (portsOf_nodup i) (ptuView i .online c)
  rw [hd] at run ports
  obtain ⟨own, used, bus⟩ := slotPorts_eq run (ptuView_tallied h.tallied i .online) ports onlineRec_keeps
  have changed : (portsOf i).filter (fun q => d.own.ports[q] ≠ (ptuView i .online c).own.ports[q]) =
      (portsOf i).filter (fun q => c.own.ports[q].state = .parked) := List.filter_congr fun q hq => by
    rw [ports, if_pos hq]; exact decide_eq_decide.2 (onlineRec_ne _)
  rw [changed] at bus
  simp only [onlineRec_enters] at bus
  refine ⟨own, used, fun q => (ports q).trans ?_, bus⟩
  simp only [mem_portsOf, onlineRec, ite_and]
  rfl

/-- R15, the ports. -/
theorem portsLeft_ports {i : Slot} {st : SlotState} {c d : At Ptu} (why : Option PortReason) (h : c.own.Unclaimed)
    (hd : (portsOf i).foldl (portLeftOnline why) (ptuView i st c) = d) :
    d.own = { (ptuView i st c).own with ports := d.own.ports } ∧ slotInUse d.own i = slotInUse c.own i ∧
      (∀ q : Port, d.own.ports[q] = if slotOf q = i ∧ (c.own.ports[q].state = .inService ∨ c.own.ports[q].state = .parked)
        then { c.own.ports[q] with state := .parked, reason := why.getD c.own.ports[q].reason }
        else c.own.ports[q]) ∧
      d.bus = { c.bus with
        toSpw := c.bus.toSpw ++ ((portsOf i).filter (fun q => d.own.ports[q] ≠ c.own.ports[q])).map .port
        ptuMxw := c.bus.ptuMxw ++ (portsOf i).filter (fun q => c.own.ports[q].state = .inService) } := by
  have run := portsLeft_writes why i (ptuView i st c)
  have ports := foldl_ports (portLeftOnline_eq why) (portsOf_nodup i) (ptuView i st c)
  rw [hd] at run ports
  obtain ⟨own, used, bus⟩ := slotPorts_eq run (ptuView_tallied h.tallied i st) ports (leftRec_keeps why)
  simp only [leftRec_leaves] at bus
  refine ⟨own, used, fun q => (ports q).trans ?_, bus⟩
  simp only [mem_portsOf, leftRec, ite_and]
  rfl

/-- R13: the bit of the notice. -/
theorem slotInUse_eq_decide (u : Ptu) (i : Slot) :
    slotInUse u i = decide (∃ q : Port, slotOf q = i ∧ u.ports[q].state ≠ .disabled) := by
  rw [Bool.eq_iff_iff, slotInUse_iff, decide_eq_true_iff]

/-- Settles O19. -/
theorem slotReportsServeOrParkThePorts : Obligations.SlotReportsServeOrParkThePorts := by
  unfold Obligations.SlotReportsServeOrParkThePorts
  refine ⟨?_, ?_, ?_⟩
  · intro s i cause rest hm hc hs moved
    generalize hd : (portsOf i).foldl portOnline
      (ptuView i .online { own := s.ptu, bus := { s.bus with slsPtu := rest } }) = d
    obtain ⟨own, used, ports, bus⟩ :=
      portsOnline_ports (c := { own := s.ptu, bus := { s.bus with slsPtu := rest } }) (hs.unclaimed hc) hd
    have report : ptuReport i .online { own := s.ptu, bus := { s.bus with slsPtu := rest } } = sendUseNotice i d :=
      congrArg (sendUseNotice i) hd
    refine ⟨_, exec_slotReport_of_free hm hc report, rfl, own, ports, ?_⟩
    · show (sendUseNotice i d).bus = _
      rw [sendUseNotice, used, bus, slotInUse_eq_decide]
      rfl
  · intro s i st cause rest hm off hc hs used wakes why
    generalize hd : (portsOf i).foldl (portLeftOnline (leaveReason st))
      (ptuView i st { own := s.ptu, bus := { s.bus with slsPtu := rest } }) = d
    obtain ⟨own, inUse, ports, bus⟩ :=
      portsLeft_ports (c := { own := s.ptu, bus := { s.bus with slsPtu := rest } }) (leaveReason st) (hs.unclaimed hc) hd
    have report : ptuReport i st { own := s.ptu, bus := { s.bus with slsPtu := rest } } = wakeClaimIfUsed i st d :=
      (ptuReport_left off i _).trans (congrArg (wakeClaimIfUsed i st) hd)
    have asked : wakes ↔ st = .standby ∧ slotInUse d.own i = true := by rw [inUse, slotInUse_iff]
    have reason (old : PortReason) : (leaveReason st).getD old = why old := by cases st <;> rfl
    have run := exec_slotReport_of_free hm hc report
    rw [if_neg off] at run
    have records (e : At Ptu) (he : e.own.ports = d.own.ports) : ∀ q : Port, e.own.ports[q] = if slotOf q = i ∧
        (s.ptu.ports[q].state = .inService ∨ s.ptu.ports[q].state = .parked)
        then { s.ptu.ports[q] with state := .parked, reason := why s.ptu.ports[q].reason } else s.ptu.ports[q] := by
      intro q; rw [he, ports, ← reason]
    by_cases hw : wakes
    · have woken : wakeClaimIfUsed i st d = 
          { own := { d.own with claim := some (.wake i) }, bus := d.bus.sendPtuPbu (.wakeClaim i) } :=
        if_pos (asked.1 hw)
      rw [woken] at run
      refine ⟨_, run, rfl, ?_, records _ rfl, ?_⟩
      · rw [if_pos hw]; exact congrArg (fun u : Ptu => { u with claim := some (.wake i) }) own
      · rw [if_pos hw]; exact congrArg (fun b : Bus => b.sendPtuPbu (.wakeClaim i)) bus
    · have quiet : wakeClaimIfUsed i st d = d := if_neg (asked.not.1 hw)
      rw [quiet] at run
      refine ⟨_, run, rfl, ?_, records _ rfl, ?_⟩
      · rw [if_neg hw, ← hc]; exact own
      · rw [if_neg hw]; exact bus
  · intro s i st cause rest hm hc
    rw [exec_slotReport hm, State.onPtu, ptuInput_of_claim hc]
    rfl

end Sys2Proof.Machine

/-! PROOFS. The identification sweep and the zone counts (R17, R112). -/

namespace Sys2Proof.Machine

open Sys2Proof

/-- A run of writes over ports that do not wait after it: exactly they leave the list. -/
theorem PtuWrites.waitList_eq {l : List Port} {c d : At Ptu} (h : PtuWrites l c d) (hl : l.Nodup) (ht : c.own.Tallied)
    (hw : ∀ q ∈ l, d.own.ports[q].state ≠ .unseated) :
    d.own.waitList = c.own.waitList.filter (fun q => !decide (q ∈ l)) := by
  induction h with
  | nil => simp
  | @cons p r l c d h ih =>
    obtain ⟨hp, hl⟩ := List.nodup_cons.1 hl
    have last : d.own.ports[p] = r := by rw [h.port_eq hp, ptuWrite_ports, setAt_get_self]
    have left : r.state ≠ .unseated := last ▸ hw p (by simp)
    have first : (ptuWrite p r c).own.waitList = c.own.waitList.filter (fun q => q ≠ p) := by
      by_cases e : c.own.ports[p] = r
      · have : p ∉ c.own.waitList := by rw [ht.wait_unseated, e]; exact left
        rw [ptuWrite_same e]
        exact (List.filter_eq_self.2 fun q hq => by simpa using ne_of_mem_of_not_mem hq this).symm
      · rw [ptuWrite_own e]; exact waitAfter_left (ht.wait_unseated p) left
    rw [ih hl (ht.write p r) fun q hq => hw q (List.mem_cons_of_mem _ hq), first, List.filter_filter]
    refine List.filter_congr fun q _ => ?_
    by_cases e : q = p <;> simp [e]

/-! ### The table after the sweep's own writes -/

/-- R17: the port is admin-enabled above the tier. -/
def Ptu.isAbove (u : Ptu) (i : Slot) (m : Tier) (q : Port) : Bool :=
  decide (slotOf q = i ∧ u.ports[q].state ≠ .disabled ∧ tierNum m < tierNum u.ports[q].reqTier)

theorem mem_aboveTier {u : Ptu} {i : Slot} {m : Tier} {q : Port} : q ∈ aboveTier u i m ↔ u.isAbove i m q = true := by
  simp [aboveTier, Ptu.isAbove, mem_portsOf, PortRec.enabled]

theorem aboveTier_eq (u : Ptu) (i : Slot) (m : Tier) : aboveTier u i m = (portsOf i).filter (u.isAbove i m) := by
  refine List.filter_congr fun q hq => ?_
  rw [Bool.eq_iff_iff]
  simp [Ptu.isAbove, mem_portsOf.1 hq, PortRec.enabled]

/-- The tier-k seats of the ports that the sweep disables. -/
def Ptu.seatsAbove (u : Ptu) (i : Slot) (m k : Tier) : Nat :=
  (indices 256).countP (fun q => u.isAbove i m q && decide (u.ports[q].seat = some k))

/-- R17: the table with the ports above the tier disabled and their seats free. -/
def Ptu.sweptTo (u : Ptu) (i : Slot) (m : Tier) : Ptu :=
  { u with
    view := setAt u.view i { u.view[i] with maxTier := some m }
    ports := Vector.ofFn (fun q : Port => if u.isAbove i m q then sweptRec u.ports[q] else u.ports[q])
    held := { t1 := u.held.t1 - u.seatsAbove i m .t1, t2 := u.held.t2 - u.seatsAbove i m .t2
              t3 := u.held.t3 - u.seatsAbove i m .t3 }
    waitList := u.waitList.filter (fun q => !u.isAbove i m q) }

/-- The records after the sweep's own writes. -/
theorem sweepAbove_port (i : Slot) (m : Tier) (c : At Ptu) (q : Port) : (sweepAbove i m c).own.ports[q] =
    if c.own.isAbove i m q then sweptRec c.own.ports[q] else c.own.ports[q] := by
  rw [sweepAbove_ports]
  simp only [mem_aboveTier]

section sweep

variable {c : At Ptu} (h : c.own.Unclaimed) (i : Slot) (m : Tier)

include h

/-- The seats counted after the sweep's writes are those of the ports that it leaves. -/
theorem sweepAbove_held (k : Tier) :
    (sweepAbove i m c).own.held.get k = c.own.held.get k - c.own.seatsAbove i m k := by
  have after := (sweepAbove_unclaimed h i m).tallied.held_counts k
  have before := h.tallied.held_counts k
  have split := List.countP_eq_countP_filter_add (indices 256) (fun q => decide (c.own.ports[q].seat = some k))
    (c.own.isAbove i m)
  rw [List.countP_filter, List.countP_filter] at split
  have left : (sweepAbove i m c).own.holders k =
      (indices 256).countP (fun q => decide (c.own.ports[q].seat = some k) && !c.own.isAbove i m q) := by
    refine List.countP_congr fun q _ => ?_
    rw [sweepAbove_port]
    cases e : c.own.isAbove i m q <;> simp [sweptRec]
  have gone : c.own.seatsAbove i m k =
      (indices 256).countP (fun q => decide (c.own.ports[q].seat = some k) && c.own.isAbove i m q) :=
    List.countP_congr fun q _ => by rw [Bool.and_comm]
  simp only [Ptu.holders] at before
  simp only [← left, ← gone] at split
  omega

theorem sweepAbove_own : (sweepAbove i m c).own = c.own.sweptTo i m := by
  have writes := sweepAbove_writes i m c
  have ports : (sweepAbove i m c).own.ports =
      Vector.ofFn (fun q : Port => if c.own.isAbove i m q then sweptRec c.own.ports[q] else c.own.ports[q]) := by
    refine Vector.ext fun j hj => ?_
    rw [Vector.getElem_ofFn]
    exact sweepAbove_port i m c ⟨j, hj⟩
  have held : (sweepAbove i m c).own.held = (c.own.sweptTo i m).held := by
    apply counts_ext
    intro k
    rw [sweepAbove_held h]
    cases k <;> rfl
  have wait : (sweepAbove i m c).own.waitList = c.own.waitList.filter (fun q => !c.own.isAbove i m q) := by
    rw [writes.waitList_eq (aboveTier_nodup _ i m)
      ⟨h.tallied.held_counts, h.tallied.wait_nodup, h.tallied.wait_unseated⟩]
    · exact List.filter_congr fun q _ => by simp only [mem_aboveTier, Bool.decide_eq_true]
    · intro q hq
      rw [sweepAbove_ports, if_pos hq]; simp [sweptRec]
  rw [writes.own_eq, ports, held, wait]
  rfl

end sweep

/-! ### The sweep's ports and the list's service -/

section swept

variable {c : At Ptu} (h : c.own.Unclaimed) (i : Slot) (m : Tier)

/-- The ports that the sweep may write: those above the tier, then those that wait behind them. -/
def sweepReach (c : At Ptu) (i : Slot) (m : Tier) : List Port :=
  aboveTier c.own i m ++ c.own.waitList.filter (fun q => !c.own.isAbove i m q)

theorem sweptPorts_own_cases (u : Ptu) :
    (aboveTier u i m).any (fun p => u.ports[p].seat.isSome) = true ↔
      ∃ q : Port, u.isAbove i m q = true ∧ u.ports[q].seat ≠ none := by
  simp [mem_aboveTier, Option.isSome_iff_ne_none]

include h

theorem sweepReach_nodup : (sweepReach c i m).Nodup := by
  refine List.nodup_append.2 ⟨aboveTier_nodup _ i m, h.tallied.wait_nodup.filter _, ?_⟩
  rintro a ha b hb rfl
  simp [mem_aboveTier.1 ha] at hb

theorem sweptPorts_writes : PtuWrites (sweepReach c i m) (sweepStart i m c) (sweptPorts i m c) := by
  have wait : c.own.waitList.filter (fun q => !c.own.isAbove i m q) = (sweepAbove i m c).own.waitList := by
    rw [sweepAbove_own h]; rfl
  refine (sweepAbove_writes i m c).append ?_
  unfold sweptPorts
  split_ifs
  · rw [wait]; exact service_writes _
  · exact .idle _ _

theorem sweptPorts_own : (sweptPorts i m c).own =
    if ∃ q : Port, c.own.isAbove i m q = true ∧ c.own.ports[q].seat ≠ none
      then (c.own.sweptTo i m).waitList.foldl Ptu.waiterServed (c.own.sweptTo i m) else c.own.sweptTo i m := by
  have above := sweepAbove_unclaimed h i m
  unfold sweptPorts
  simp only [← sweptPorts_own_cases i m]
  split_ifs
  · rw [service_own above.tallied above.recordsRight, sweepAbove_own h]
  · exact sweepAbove_own h i m

/-- A port above the tier is DISABLED for good. -/
theorem sweptPorts_above {q : Port} (hq : c.own.isAbove i m q = true) :
    (sweptPorts i m c).own.ports[q] = sweptRec c.own.ports[q] := by
  have off : (sweepAbove i m c).own.ports[q] = sweptRec c.own.ports[q] := by rw [sweepAbove_port, if_pos hq]
  have gone : q ∉ (sweepAbove i m c).own.waitList := by
    rw [(sweepAbove_unclaimed h i m).tallied.wait_unseated, off]; simp [sweptRec]
  unfold sweptPorts
  split_ifs
  · rw [(service_writes _).port_eq gone, off]
  · exact off

/-- A port neither above the tier nor waiting stands. -/
theorem sweptPorts_stands {q : Port} (hq : c.own.isAbove i m q = false) (hw : q ∉ c.own.waitList) :
    (sweptPorts i m c).own.ports[q] = c.own.ports[q] := by
  refine (sweptPorts_writes h i m).port_eq ?_
  simp [sweepReach, mem_aboveTier, hq, hw]

/-- The sweep enables no port. -/
theorem sweptPorts_disabled {q : Port} (hq : c.own.ports[q].state = .disabled) :
    (sweptPorts i m c).own.ports[q].state = .disabled := by
  rw [sweptPorts_stands h i m (decide_eq_false fun e => e.2.1 hq) (by rw [h.tallied.wait_unseated, hq]; decide)]
  exact hq

/-- R36: the list only loses ports, and the alarm follows. -/
theorem sweptPorts_shrinks : (sweptPorts i m c).own.waitList.Sublist c.own.waitList ∧
    (sweptPorts i m c).bus.toAtu = c.bus.toAtu ++
      unseatedRequests c.own.waitList (sweptPorts i m c).own.waitList := by
  refine (sweptPorts_writes h i m).shrinks (sweepReach_nodup h i m) fun q hq hs => ?_
  rcases List.mem_append.1 hq with hq | hq
  · rw [sweptPorts_above h i m (mem_aboveTier.1 hq)] at hs; cases hs
  · exact (h.tallied.wait_unseated q).1 (List.mem_filter.1 hq).1

/-- And what is left of it was left by the sweep's own writes. -/
theorem sweptPorts_waitList :
    (sweptPorts i m c).own.waitList.Sublist (c.own.waitList.filter (fun q => !c.own.isAbove i m q)) := by
  have above := sweepAbove_unclaimed h i m
  have start : (sweepAbove i m c).own.waitList = c.own.waitList.filter (fun q => !c.own.isAbove i m q) := by
    rw [sweepAbove_own h]; rfl
  unfold sweptPorts
  rw [← start]
  split_ifs
  · exact ((service_writes _).shrinks above.tallied.wait_nodup
      fun q hq _ => (Ptu.waits_of_mem above.tallied above.recordsRight hq).1).1
  · exact .refl _

theorem sweptPorts_ptuMxw : (sweptPorts i m c).bus.ptuMxw =
    c.bus.ptuMxw ++ (aboveTier c.own i m).filter (fun q => c.own.ports[q].state = .inService) ++
      (c.own.waitList.filter (fun q => !c.own.isAbove i m q)).filter
        (fun q => (sweptPorts i m c).own.ports[q].state = .inService) := by
  have crossed (q : Port) (st : PortState) (hs : (sweptPorts i m c).own.ports[q].state = st) :
      decide (((sweepStart i m c).own.ports[q].state = .inService) ≠
        ((sweptPorts i m c).own.ports[q].state = .inService)) =
      decide ((c.own.ports[q].state = .inService) ≠ (st = .inService)) := by rw [hs]; rfl
  have left : (aboveTier c.own i m).filter (fun q => decide (((sweepStart i m c).own.ports[q].state = .inService) ≠
        ((sweptPorts i m c).own.ports[q].state = .inService))) =
      (aboveTier c.own i m).filter (fun q => c.own.ports[q].state = .inService) := List.filter_congr fun q hq => by
    rw [crossed q .disabled (by rw [sweptPorts_above h i m (mem_aboveTier.1 hq)]; rfl)]
    simp
  have entered : (c.own.waitList.filter (fun q => !c.own.isAbove i m q)).filter (fun q => decide
        (((sweepStart i m c).own.ports[q].state = .inService) ≠
          ((sweptPorts i m c).own.ports[q].state = .inService))) =
      (c.own.waitList.filter (fun q => !c.own.isAbove i m q)).filter
        (fun q => (sweptPorts i m c).own.ports[q].state = .inService) := List.filter_congr fun q hq => by
    rw [crossed q _ rfl, (h.tallied.wait_unseated q).1 (List.mem_filter.1 hq).1]
    simp
  rw [(sweptPorts_writes h i m).ptuMxw_eq (sweepReach_nodup h i m), sweepReach, List.filter_append, left, entered,
    ← List.append_assoc]
  rfl

/-- R13: the notice of the sweep. -/
theorem sweptPorts_notice : (slotInUse c.own i ≠ slotInUse (sweptPorts i m c).own i) ↔
    (∃ q : Port, slotOf q = i ∧ c.own.ports[q].state ≠ .disabled) ∧
      ∀ q : Port, slotOf q = i → (sweptPorts i m c).own.ports[q].state = .disabled := by
  have after : (∀ q : Port, slotOf q = i → (sweptPorts i m c).own.ports[q].state = .disabled) ↔
      slotInUse (sweptPorts i m c).own i = false := by
    rw [Bool.eq_false_iff, ne_eq, slotInUse_iff]; simp
  have monotone : slotInUse (sweptPorts i m c).own i = true → slotInUse c.own i = true := by
    rw [slotInUse_iff, slotInUse_iff]
    rintro ⟨q, hq, on⟩
    exact ⟨q, hq, fun off => on (sweptPorts_disabled h i m off)⟩
  rw [after, ← slotInUse_iff]
  constructor
  · intro crossed
    cases off : slotInUse (sweptPorts i m c).own i with
    | true => exact absurd ((monotone off).trans off.symm) crossed
    | false => exact ⟨by simpa [off] using crossed, rfl⟩
  · rintro ⟨on, off⟩
    rw [on, off]
    decide

/-- What the whole sweep leaves on the bus: the releases, the recompute additions, the notice and, last, its answer. -/
theorem ptuSweep_bus (tag : Nat) : (ptuSweep i m tag c).bus =
    let e := sweptPorts i m c
    { c.bus with
      ptuPbu := c.bus.ptuPbu ++ (aboveTier c.own i m).map .portRelease
      ptuMxw := e.bus.ptuMxw
      ptuSls := c.bus.ptuSls ++
        (if (∃ q : Port, slotOf q = i ∧ c.own.ports[q].state ≠ .disabled) ∧
            ∀ q : Port, slotOf q = i → e.own.ports[q].state = .disabled
          then [.useNotice i false] else []) ++ [.sweepDone i tag]
      toAtu := e.bus.toAtu
      toSpw := e.bus.toSpw } := by
  have notice : (if slotInUse c.own i ≠ slotInUse (sweptPorts i m c).own i
        then [PtuToSls.useNotice i (slotInUse (sweptPorts i m c).own i)] else []) =
      (if (∃ q : Port, slotOf q = i ∧ c.own.ports[q].state ≠ .disabled) ∧
          ∀ q : Port, slotOf q = i → (sweptPorts i m c).own.ports[q].state = .disabled
        then [.useNotice i false] else []) := by
    have crossed := sweptPorts_notice h i m
    by_cases hx : slotInUse c.own i ≠ slotInUse (sweptPorts i m c).own i
    · have before := slotInUse_iff.2 (crossed.1 hx).1
      have after : slotInUse (sweptPorts i m c).own i = false := by rw [before] at hx; simpa using hx
      rw [if_pos hx, if_pos (crossed.1 hx), after]
    · rw [if_neg hx, if_neg (crossed.not.1 hx)]
  have bus := (sweptPorts_writes h i m).bus_eq
  rw [ptuSweep_eq, noticeIfCrossed_eq, notice]
  dsimp only
  generalize sweptPorts i m c = e at bus ⊢
  rw [Bus.sendPtuSls, bus]
  rfl

end swept

/-! ### The commands of the sweep and of a zone count -/

theorem exec_sweep {s : State} {i : Slot} {m : Tier} {tag : Nat} {rest : List SlsToPtu}
    (hm : s.bus.slsPtu = .sweep i m tag :: rest) {d : At Ptu}
    (hd : ptuInput (.sls (.sweep i m tag)) { own := s.ptu, bus := { s.bus with slsPtu := rest } } = d) :
    exec .identificationSweep s = .next { s with ptu := d.own, bus := d.bus } := by
  show execIdentificationSweep s = _
  simp only [execIdentificationSweep, hm]
  exact congrArg (fun d : At Ptu => Host.Outcome.next { s with ptu := d.own, bus := d.bus }) hd

theorem exec_zoneCount {s : State} {p : Port} {n : Nat} {rest : List (Port × Nat)} (hm : s.bus.znuPtu = (p, n) :: rest)
    {d : At Ptu} (hd : ptuZoneCount p n { own := s.ptu, bus := { s.bus with znuPtu := rest } } = d) :
    exec .zoneCount s = .next { s with ptu := d.own, bus := d.bus } := by
  show execZoneCount s = _
  simp only [execZoneCount, hm]
  exact congrArg (fun d : At Ptu => Host.Outcome.next { s with ptu := d.own, bus := d.bus }) hd

/-- R112: another count is written and marks the port, and moves nothing else. -/
theorem ptuZoneCount_of_ne {c : At Ptu} (ht : c.own.Tallied) {p : Port} {n : Nat} (hn : c.own.ports[p].zoneCount ≠ n) :
    ptuZoneCount p n c =
      { own := { c.own with ports := setAt c.own.ports p { c.own.ports[p] with zoneCount := n } }
        bus := { c.bus with toSpw := c.bus.toSpw ++ [.port p] } } := by
  have other : c.own.ports[p] ≠ { c.own.ports[p] with zoneCount := n } := fun e => hn (congrArg PortRec.zoneCount e)
  have held := countSeat_same (h := c.own.held) (seat := c.own.ports[p].seat) fun k hk => ht.one_le_held hk
  rw [ptuZoneCount, ptuWrite_of_ne other]
  simp only [held, waitAfter_same p c.own.waitList Iff.rfl, unseatedRequests_same, ne_eq, not_true_eq_false, or_self,
    if_false, List.append_nil]

/-- Settles O20: the run of the sweep over the ports above the tier and those that wait. -/
theorem sweepDisablesThePortsAboveTheTier : Obligations.SweepDisablesThePortsAboveTheTier := by
  unfold Obligations.SweepDisablesThePortsAboveTheTier
  refine ⟨?_, ?_, ?_⟩
  · intro s i m tag rest hm hc hs above freed swept victims
    let c : At Ptu := { own := s.ptu, bus := { s.bus with slsPtu := rest } }
    have h : c.own.Unclaimed := hs.unclaimed hc
    have own : (ptuSweep i m tag c).own = (sweptPorts i m c).own := by
      rw [ptuSweep_eq]; exact noticeIfCrossed_own _ _ _
    have bus := ptuSweep_bus h i m tag
    have ptu := own.trans (sweptPorts_own h i m)
    have mxw := sweptPorts_ptuMxw h i m
    obtain ⟨sub, atu⟩ := sweptPorts_shrinks h i m
    have disabled {q : Port} (hq : above q = true) := sweptPorts_above h i m hq
    have stands {q : Port} (hq : above q = false) (hw : q ∉ s.ptu.waitList) := sweptPorts_stands h i m hq hw
    have list := sweptPorts_waitList h i m
    rw [unseatedRequests_sublist sub] at atu
    dsimp only at bus
    rw [mxw, atu, aboveTier_eq, ← own] at bus
    rw [← own] at disabled stands list
    have marks : (ptuSweep i m tag c).bus.toSpw = (sweptPorts i m c).bus.toSpw := by rw [bus]
    rw [← marks] at bus
    generalize hd : ptuSweep i m tag c = d at own bus ptu disabled stands list
    refine ⟨_, exec_sweep hm ((ptuInput_of_free hc _).trans hd), rfl, ptu, bus, fun q hq => disabled hq,
      fun q hq hw => stands hq hw, list, fun off q hq served => off ?_⟩
    have slot : slotOf q = i := mem_portsOf.1 (List.mem_filter.1 hq).1
    exact slot ▸ (hs.service_online q ((hs.seat_state q).2 (.inl served))).1 served
  · intro s i m tag rest hm hc
    exact exec_sweep hm (ptuInput_of_claim hc _)
  · intro s p n rest hm hs
    constructor
    · intro hn
      exact exec_zoneCount hm (ptuZoneCount_of_ne (c := { own := s.ptu, bus := { s.bus with znuPtu := rest } }) hs.tallied hn)
    · intro hn
      exact exec_zoneCount hm (ptuWrite_same (by rw [← hn]))

end Sys2Proof.Machine

/-! PROOFS. The answers of the PBU (R7 to R10, R16): what each makes of the table, of the channels and of the task. -/

namespace Sys2Proof.Machine

open Sys2Proof

theorem setAt_setAt {α : Type} {n : Nat} (v : Vector α n) (i : Fin n) (x y : α) : setAt (setAt v i x) i y = setAt v i y :=
  Vector.set_set ..

theorem append_ite_nil {α : Type} {P : Prop} [Decidable P] (x y : List α) :
    x ++ (if P then y else []) = if P then x ++ y else x := by
  split_ifs
  · rfl
  · exact List.append_nil x

/-! ### An answer taken from its channel -/

/-- The PTU and its bus when the answer to its claim is taken: the claim is outstanding no more. -/
def answeredAt (s : State) (rest : List ClaimAnswer) : At Ptu :=
  { own := { s.ptu with claim := none }, bus := { s.bus with pbuPtu := rest } }

section answer

variable {s : State} {a : ClaimAnswer} {rest : List ClaimAnswer} {d : At Ptu}

/-- The command: the answer applied, then the inputs held are taken. -/
theorem exec_claimAnswer_drains (hm : s.bus.pbuPtu = a :: rest)
    (hd : ptuAnswer a { own := s.ptu, bus := { s.bus with pbuPtu := rest } } = d) :
    exec .claimAnswer s =
      .next (ptuDrain d.own.heldInputs { s with ptu := { d.own with heldInputs := [] }, bus := d.bus }) := by
  have run : exec .claimAnswer s = .next (ptuAnswerAndDrain a (s.withBus { s.bus with pbuPtu := rest })) := by
    show execClaimAnswer s = _
    simp only [execClaimAnswer, hm]
  have applied : (s.withBus { s.bus with pbuPtu := rest }).onPtu (ptuAnswer a) =
      { s with ptu := d.own, bus := d.bus } :=
    congrArg (fun d : At Ptu => { s with ptu := d.own, bus := d.bus }) hd
  rw [run, ptuAnswerAndDrain, applied]

/-- With no input held the answer is the whole command. -/
theorem exec_claimAnswer (hm : s.bus.pbuPtu = a :: rest) (hh : d.own.heldInputs = [])
    (hd : ptuAnswer a { own := s.ptu, bus := { s.bus with pbuPtu := rest } } = d) :
    exec .claimAnswer s = .next { s with ptu := d.own, bus := d.bus } := by
  have none_held : { d.own with heldInputs := [] } = d.own := by rw [← hh]
  rw [exec_claimAnswer_drains hm hd]
  simp only [hh, ptuDrain, none_held]

theorem ptuAnswer_port {p : Port} {t : Tier} {seat : Option Tier} (hc : s.ptu.claim = some (.port p t seat))
    (granted : a.grant ≠ .refused) : ptuAnswer a { own := s.ptu, bus := { s.bus with pbuPtu := rest } } =
      ptuPortGranted p t seat a (answeredAt s rest) := by
  simp only [ptuAnswer, hc, granted, if_false, answeredAt]

theorem ptuAnswer_tier {p : Port} {t : Tier} {wait : Bool} (hc : s.ptu.claim = some (.tier p t wait))
    (granted : a.grant ≠ .refused) : ptuAnswer a { own := s.ptu, bus := { s.bus with pbuPtu := rest } } =
      ptuTierGranted p t wait a.amount (answeredAt s rest) := by
  simp only [ptuAnswer, hc, granted, if_false, answeredAt]

theorem ptuAnswer_wake {i : Slot} (hc : s.ptu.claim = some (.wake i)) :
    ptuAnswer a { own := s.ptu, bus := { s.bus with pbuPtu := rest } } =
      { own := { s.ptu with claim := none }
        bus := { s.bus with
          pbuPtu := rest
          ptuSls := s.bus.ptuSls ++ (if a.grant = .grantedWithWake then [.wake i] else []) } } := by
  simp only [ptuAnswer, hc]
  split_ifs
  · rfl
  · simp only [List.append_nil]

theorem ptuAnswer_refused {x : PtuClaim} {p : Port} (hc : s.ptu.claim = some x) (refused : a.grant = .refused)
    (hx : (∃ t seat, x = .port p t seat) ∨ (∃ t wait, x = .tier p t wait)) :
    ptuAnswer a { own := s.ptu, bus := { s.bus with pbuPtu := rest } } = ptuRefuse .noPower p (answeredAt s rest) := by
  obtain ⟨t, seat, rfl⟩ | ⟨t, wait, rfl⟩ := hx <;> simp only [ptuAnswer, hc, refused, if_true, answeredAt]

end answer

/-! ### A granted port claim (R7) -/

theorem enabledState_unseated {v : SlotView} {seat : Option Tier} : enabledState v seat = .unseated ↔ seat = none := by
  cases seat with
  | none => simp [enabledState]
  | some k => simpa [enabledState] using (seatedState_ne v).1

theorem enabledState_ne_disabled (v : SlotView) (seat : Option Tier) : enabledState v seat ≠ .disabled := by
  cases seat with
  | none => simp [enabledState]
  | some k => exact (seatedState_ne v).2

/-- A port that is enabled joins the list where it has no seat. -/
theorem waitAfter_enabled (p : Port) (v : SlotView) (seat : Option Tier) (w : List Port) :
    waitAfter p .disabled (enabledState v seat) w = if seat = none then w ++ [p] else w := by
  simp only [waitAfter, enabledState_unseated]
  simp

/-- And the alarm is raised where it is the first. -/
theorem unseatedRequests_joined (p : Port) (seat : Option Tier) (w : List Port) :
    unseatedRequests w (if seat = none then w ++ [p] else w) =
      if seat = none ∧ w = [] then [{ raised := true, kind := .portsUnseated, object := 0 }] else [] := by
  by_cases hs : seat = none
  · simp [unseatedRequests, hs]
  · simp [hs]

/-- A seat taken or a place joined shows on the licence summary. -/
theorem summary_changed (p : Port) (seat : Option Tier) (held : Counts) (w : List Port) :
    countSeat none seat held ≠ held ∨ (if seat = none then w ++ [p] else w) ≠ w := by
  cases seat with
  | none => right; simp
  | some k =>
    left
    intro e
    have := congrArg (fun x => Counts.get x k) e
    simp [countSeat, counts_get_set] at this

/-- R12: the place of a port enabled. -/
theorem waitPosition_enabled {p : Port} {w : List Port} (seat : Option Tier) (hp : p ∉ w) :
    waitPosition (if seat = none then w ++ [p] else w) p = if seat = none then w.length + 1 else 0 := by
  split_ifs
  · rw [waitPosition_of_mem (by simp), List.idxOf_append_of_notMem hp]; simp
  · exact waitPosition_of_notMem hp

/-- R12: the details of a port, from its state, its seat and its place. -/
theorem portDetails_of {u : Ptu} {p : Port} {st : PortState} {seat : Option Tier} {n : Nat} (watts : Int)
    (hst : u.ports[p].state = st) (hseat : u.ports[p].seat = seat) (hn : waitPosition u.waitList p = n) :
    portDetails u p watts = { w0 := BitVec.ofNat 32 (portStateCode st), w1 := BitVec.ofNat 32 (tierCode seat)
                              w2 := BitVec.ofNat 32 n, w3 := signedWord watts } := by
  subst hst hseat hn; rfl

section portGranted

variable {c : At Ptu} {p : Port} {t : Tier} {seat : Option Tier}

/-- The DISABLED port written enabled: its seat counted or its place at the tail, and what is sent. -/
theorem enabled_write (h : c.own.Unclaimed) (off : c.own.ports[p].state = .disabled) :
    ptuWrite p (enabledRec c.own.view[slotOf p] t seat c.own.ports[p]) c =
      { own := { c.own with
          ports := setAt c.own.ports p (enabledRec c.own.view[slotOf p] t seat c.own.ports[p])
          held := countSeat none seat c.own.held
          waitList := if seat = none then c.own.waitList ++ [p] else c.own.waitList }
        bus := { c.bus with
          toSpw := c.bus.toSpw ++ [.port p, .licenceSummary]
          ptuMxw := if enabledState c.own.view[slotOf p] seat = .inService then c.bus.ptuMxw ++ [p] else c.bus.ptuMxw
          toAtu := if seat = none ∧ c.own.waitList = [] then
              c.bus.toAtu ++ [{ raised := true, kind := .portsUnseated, object := 0 }]
            else c.bus.toAtu } } := by
  have seatless := (h.recordsRight p).seat_none (.inl off)
  have other : c.own.ports[p] ≠ enabledRec c.own.view[slotOf p] t seat c.own.ports[p] := fun e =>
    enabledState_ne_disabled _ _ ((congrArg PortRec.state e).symm.trans off)
  have enters : (if (PortState.disabled = .inService) ≠ (enabledState c.own.view[slotOf p] seat = .inService)
      then [p] else []) = if enabledState c.own.view[slotOf p] seat = .inService then [p] else [] := by simp
  rw [ptuWrite_of_ne other, off, seatless]
  simp only [show (enabledRec c.own.view[slotOf p] t seat c.own.ports[p]).state =
      enabledState c.own.view[slotOf p] seat from rfl,
    show (enabledRec c.own.view[slotOf p] t seat c.own.ports[p]).seat = seat from rfl,
    waitAfter_enabled, unseatedRequests_joined, enters, summary_changed p seat, if_true, List.append_assoc,
    List.cons_append, List.nil_append, append_ite_nil]

/-- R7: the wake and then the notice of the slot are sent. -/
theorem granted_notice {e : At Ptu} {i : Slot} (a : ClaimAnswer) (used : slotInUse e.own i = true) :
    noticeIfCrossed i (slotInUse c.own i)
        (if a.grant = .grantedWithWake then { e with bus := e.bus.sendPtuSls (.wake i) } else e) =
      { e with bus := { e.bus with ptuSls := e.bus.ptuSls ++
          (if a.grant = .grantedWithWake then [.wake i] else []) ++
          (if ∃ q : Port, slotOf q = i ∧ c.own.ports[q].state ≠ .disabled then [] else [.useNotice i true]) } } := by
  have crossed : (if slotInUse c.own i ≠ true then [PtuToSls.useNotice i true] else []) =
      (if ∃ q : Port, slotOf q = i ∧ c.own.ports[q].state ≠ .disabled then [] else [.useNotice i true]) := by
    by_cases hu : slotInUse c.own i = true
    · rw [if_neg (not_not.2 hu), if_pos (slotInUse_iff.1 hu)]
    · rw [if_pos hu, if_neg (slotInUse_iff.not.1 hu)]
  rw [noticeIfCrossed_eq]
  by_cases hw : a.grant = .grantedWithWake
  · simp only [hw, if_true, used, crossed, Bus.sendPtuSls]
  · simp only [hw, if_false, used, crossed, List.append_nil]

/-- R7, whole, in terms of the write. -/
theorem ptuPortGranted_of_write {e : At Ptu} (a : ClaimAnswer)
    (he : ptuWrite p (enabledRec c.own.view[slotOf p] t seat c.own.ports[p]) c = e)
    (on : e.own.ports[p].state ≠ .disabled) : ptuPortGranted p t seat a c = ptuClose p a.amount
      { e with bus := { e.bus with ptuSls := e.bus.ptuSls ++
          (if a.grant = .grantedWithWake then [.wake (slotOf p)] else []) ++
          (if ∃ q : Port, slotOf q = slotOf p ∧ c.own.ports[q].state ≠ .disabled then []
            else [.useNotice (slotOf p) true]) } } := by
  rw [ptuPortGranted_eq, he]
  dsimp only
  rw [granted_notice a (slotInUse_iff.2 ⟨p, rfl, on⟩)]

end portGranted

/-! ### Granted tier claims (R9, R10) -/

/-- The task of a run of writes closed: the table of the run, and the task ended whatever the run has sent. -/
theorem ptuClose_of_writes {l : List Port} {c e : At Ptu} (h : PtuWrites l c e) (p : Port) (watts : Int) :
    (ptuClose p watts e).bus =
      withChannels (c.bus.closeNormal .ptu (portDetails e.own p watts)) e.bus.toSpw e.bus.ptuMxw e.bus.toAtu := by
  have bus : e.bus = withChannels c.bus e.bus.toSpw e.bus.ptuMxw e.bus.toAtu := h.bus_eq
  show e.bus.endTask _ _ _ = _
  rw [bus]
  exact endTask_withChannels _ _ _ _ _ _ _

/-- A granted tier claim closes its task after a run of writes that leaves the port in a state, with a seat and with a
place on the list (R12). -/
structure TierAnswered (p : Port) (t : Tier) (wait : Bool) (amount : Int) (c e : At Ptu) (st : PortState)
    (seat : Option Tier) (place : Nat) : Prop where
  closes : ptuTierGranted p t wait amount c = ptuClose p amount e
  run : ∃ l, PtuWrites l c e
  state : e.own.ports[p].state = st
  seated : e.own.ports[p].seat = seat
  placed : waitPosition e.own.waitList p = place

/-- What the command makes of the state then. -/
theorem exec_tierAnswer {s : State} {a : ClaimAnswer} {rest : List ClaimAnswer} {p : Port} {t : Tier} {wait : Bool}
    {e : At Ptu} {st : PortState} {seat : Option Tier} {n : Nat} (hm : s.bus.pbuPtu = a :: rest)
    (granted : a.grant ≠ .refused) (hc : s.ptu.claim = some (.tier p t wait)) (hh : s.ptu.heldInputs = [])
    (he : TierAnswered p t wait a.amount (answeredAt s rest) e st seat n) :
    ∃ u, exec .claimAnswer s = .next u ∧
      (u = { s with ptu := u.ptu, bus := u.bus } ∧
        u.bus = { Bus.closeNormal { s.bus with pbuPtu := rest } .ptu
            { w0 := BitVec.ofNat 32 (portStateCode st), w1 := BitVec.ofNat 32 (tierCode seat)
              w2 := BitVec.ofNat 32 n, w3 := signedWord a.amount } with
          toSpw := u.bus.toSpw, toAtu := u.bus.toAtu, ptuMxw := u.bus.ptuMxw }) ∧
      u.ptu = e.own ∧ u.bus.ptuMxw = e.bus.ptuMxw ∧ u.bus.toAtu = e.bus.toAtu := by
  obtain ⟨l, run⟩ := he.run
  have bus := ptuClose_of_writes run p a.amount
  have closes := he.closes
  rw [portDetails_of _ he.state he.seated he.placed] at bus
  generalize hx : ptuClose p a.amount e = x at closes bus
  have own : x.own = e.own := by rw [← hx]; rfl
  have held : x.own.heldInputs = [] := by rw [own, run.heldInputs_eq]; exact hh
  refine ⟨_, exec_claimAnswer hm held ((ptuAnswer_tier hc granted).trans closes), ⟨rfl, ?_⟩, own, ?_, ?_⟩
  · exact bus.trans (by rw [bus]; rfl)
  · show x.bus.ptuMxw = _
    rw [bus]; rfl
  · show x.bus.toAtu = _
    rw [bus]; rfl

section service

variable {w : At Ptu} (h : w.own.Unclaimed)

include h

theorem service_shrinks : (waitListService w).own.waitList.Sublist w.own.waitList ∧
    (waitListService w).bus.toAtu = w.bus.toAtu ++ (if w.own.waitList ≠ [] ∧ (waitListService w).own.waitList = []
      then [{ raised := false, kind := .portsUnseated, object := 0 }] else []) := by
  obtain ⟨sub, sent⟩ := (service_writes w).shrinks h.tallied.wait_nodup
    fun q hq _ => (h.tallied.wait_unseated q).1 hq
  exact ⟨sub, unseatedRequests_sublist sub ▸ sent⟩

theorem service_ptuMxw : (waitListService w).bus.ptuMxw =
    w.bus.ptuMxw ++ w.own.waitList.filter (fun q => (waitListService w).own.ports[q].state = .inService) :=
  (service_writes w).ptuMxw_of_waiting h.tallied.wait_nodup fun q hq => (h.tallied.wait_unseated q).1 hq

/-- R37: a port at the tail for which no seat is left keeps its place there. -/
theorem service_tail {l : List Port} {p : Port} (hl : w.own.waitList = l ++ [p])
    (full : seatRule w.own.held w.own.granted w.own.ports[p].reqTier none = none) :
    (waitListService w).own.ports[p] = w.own.ports[p] ∧
      ∃ m, (waitListService w).own.waitList = m ++ [p] ∧ p ∉ m := by
  have nodup := h.tallied.wait_nodup
  have waits : ∀ q ∈ l, w.own.Waits q := fun q hq =>
    Ptu.waits_of_mem h.tallied h.recordsRight (hl ▸ List.mem_append_left _ hq)
  rw [hl] at nodup
  have hp : p ∉ l := fun hp => List.disjoint_of_nodup_append nodup hp (List.mem_singleton_self p)
  have head : l.Nodup := nodup.of_append_left
  have scan := serve_writes l w
  have stands := scan.port_eq hp
  have served : waitListService w = l.foldl serveWaiter w := by
    rw [waitListService, hl, List.foldl_append]
    refine serveWaiter_of_none ?_
    rw [stands, scan.granted_eq]
    exact seatRule_none_mono (serve_held_le head waits) full
  have kept : (waitListService w).own.ports[p] = w.own.ports[p] := by rw [served, stands]
  refine ⟨kept, ?_⟩
  have sub := (service_shrinks h).1
  rw [hl] at sub
  obtain ⟨m, n, e, hm, hn⟩ := List.sublist_append_iff.1 sub
  have notIn : p ∉ m := fun hpm => hp (hm.subset hpm)
  have mem : p ∈ (waitListService w).own.waitList := by
    rw [h.service.tallied.wait_unseated, kept, ← h.tallied.wait_unseated, hl]; simp
  have last : n = [p] := by
    rcases List.sublist_singleton.1 hn with rfl | rfl
    · rw [e, List.append_nil] at mem; exact absurd mem notIn
    · rfl
  exact ⟨m, last ▸ e, notIn⟩

/-- R37: where one waiting port alone finds a seat, it alone is served. -/
theorem service_single {p : Port} {k : Tier} (hp : p ∈ w.own.waitList)
    (others : ∀ q ∈ w.own.waitList, q ≠ p → seatRule w.own.held w.own.granted w.own.ports[q].reqTier none = none)
    (found : seatRule w.own.held w.own.granted w.own.ports[p].reqTier none = some k) :
    waitListService w = ptuWrite p (seatedRec w.own.view[slotOf p] k w.own.ports[p]) w := by
  have nodup := h.tallied.wait_nodup
  have waits := Ptu.waits_of_mem h.tallied h.recordsRight hp
  obtain ⟨l, m, e⟩ := List.append_of_mem hp
  rw [e] at nodup others
  have hpl : p ∉ l := fun hpl => List.disjoint_of_nodup_append nodup hpl (by simp)
  have hpm : p ∉ m := (List.nodup_cons.1 nodup.of_append_right).1
  have before : l.foldl serveWaiter w = w :=
    serve_of_none fun q hq => others q (by simp [hq]) (ne_of_mem_of_not_mem hq hpl)
  rw [waitListService, e, List.foldl_append, before, List.foldl_cons, ← serveWaiter_of_some found]
  refine serve_of_none fun q hq => ?_
  obtain ⟨r, hr⟩ := serveWaiter_writes w p
  have stands : (serveWaiter w p).own.ports[q] = w.own.ports[q] := by
    rw [hr, ptuWrite_port_ne r w (ne_of_mem_of_not_mem hq hpm).symm]
  have granted : (serveWaiter w p).own.granted = w.own.granted := by rw [hr, ptuWrite_granted]
  rw [stands, granted]
  exact seatRule_none_mono (serveWaiter_held_le waits) (others q (by simp [hq]) (ne_of_mem_of_not_mem hq hpm))

end service

/-- A seat given back below the tier asked for is of no use. -/
theorem seatRule_none_of_freed {held granted : Counts} {t k : Tier} (low : tierNum k < tierNum t)
    (full : seatRule held granted t none = none) :
    seatRule (held.set k (held.get k - 1)) granted t none = none := by
  rw [seatRule_eq_none] at full ⊢
  rintro j ⟨hj, room, ne⟩
  refine full j ⟨hj, ?_, ne⟩
  rwa [counts_get_set, if_neg (by rintro rfl; omega)] at room

section tierGranted

variable {c : At Ptu} {p : Port} (t : Tier)

/-- R9, R10: the tier asked for moves no seat. -/
theorem asked_write (h : c.own.Unclaimed) : (ptuWrite p (askedRec t c.own.ports[p]) c).own =
      { c.own with ports := setAt c.own.ports p (askedRec t c.own.ports[p]) } ∧
    (ptuWrite p (askedRec t c.own.ports[p]) c).bus.ptuMxw = c.bus.ptuMxw ∧
    (ptuWrite p (askedRec t c.own.ports[p]) c).bus.toAtu = c.bus.toAtu := by
  have written : (ptuWrite p (askedRec t c.own.ports[p]) c).own.ports[p] = askedRec t c.own.ports[p] := by
    rw [ptuWrite_ports, setAt_get_self]
  obtain ⟨own, bus⟩ := (PtuWrites.single p (askedRec t c.own.ports[p]) c).seats_kept (List.nodup_singleton p) h.tallied
    fun q hq => by obtain rfl := List.mem_singleton.1 hq; rw [written]; exact ⟨rfl, Iff.rfl⟩
  refine ⟨?_, ?_, by rw [bus]⟩
  · rw [own, ptuWrite_ports]
  · rw [ptuWrite_ptuMxw]; simp [askedRec]

/-- The record of a port whose seat is changed for one of tier j (R9). -/
def reseatedRec (j : Tier) (r : PortRec) : PortRec := { askedRec t r with seat := some j }

/-- The record of a port that gives its seat up (R9). -/
def unseatedRec (r : PortRec) : PortRec := { askedRec t r with seat := none, state := .unseated }

variable {k : Tier}

/-- R9: another seat is taken for the one held. -/
theorem reseated_write {j : Tier} (hs : c.own.ports[p].seat = some k) (hj : k ≠ j) :
    (ptuWrite p (reseatedRec t j c.own.ports[p]) c).own = { c.own with
        ports := setAt c.own.ports p (reseatedRec t j c.own.ports[p])
        held := countSeat (some k) (some j) c.own.held } ∧
      (ptuWrite p (reseatedRec t j c.own.ports[p]) c).bus.ptuMxw = c.bus.ptuMxw ∧
      (ptuWrite p (reseatedRec t j c.own.ports[p]) c).bus.toAtu = c.bus.toAtu := by
  have other : c.own.ports[p] ≠ reseatedRec t j c.own.ports[p] := fun e =>
    hj (Option.some.inj (hs.symm.trans (congrArg PortRec.seat e)))
  have stays : waitAfter p c.own.ports[p].state (reseatedRec t j c.own.ports[p]).state c.own.waitList =
      c.own.waitList := waitAfter_same p _ Iff.rfl
  have own := ptuWrite_own other
  rw [hs, stays] at own
  refine ⟨own, ?_, ?_⟩
  · rw [ptuWrite_ptuMxw]; simp [reseatedRec, askedRec]
  · rw [ptuWrite_toAtu, own, unseatedRequests_same, List.append_nil]

/-- R9: the seat is given up and the port waits at the tail. -/
theorem unseated_write (h : c.own.Unclaimed) (hs : c.own.ports[p].seat = some k) :
    (ptuWrite p (unseatedRec t c.own.ports[p]) c).own = { c.own with
        ports := setAt c.own.ports p (unseatedRec t c.own.ports[p])
        held := countSeat (some k) none c.own.held
        waitList := c.own.waitList ++ [p] } ∧
      (ptuWrite p (unseatedRec t c.own.ports[p]) c).bus.ptuMxw =
        c.bus.ptuMxw ++ (if c.own.ports[p].state = .inService then [p] else []) ∧
      (ptuWrite p (unseatedRec t c.own.ports[p]) c).bus.toAtu = c.bus.toAtu ++ (if c.own.waitList = []
        then [{ raised := true, kind := .portsUnseated, object := 0 }] else []) := by
  have seated := ((h.recordsRight p).state_ne_of_seat hs).1
  have other : c.own.ports[p] ≠ unseatedRec t c.own.ports[p] := fun e => seated (congrArg PortRec.state e)
  have joins : waitAfter p c.own.ports[p].state (unseatedRec t c.own.ports[p]).state c.own.waitList =
      c.own.waitList ++ [p] := if_pos ⟨seated, rfl⟩
  have own := ptuWrite_own other
  rw [hs, joins] at own
  refine ⟨own, ?_, ?_⟩
  · rw [ptuWrite_ptuMxw]; simp [unseatedRec]
  · rw [ptuWrite_toAtu, own]
    congr 1
    simpa using unseatedRequests_joined p none c.own.waitList

variable (h : c.own.Unclaimed) {wait : Bool} {amount : Int}

include h

/-- A port that holds a seat has no place on the list. -/
theorem waitPosition_seated (hs : c.own.ports[p].seat = some k) : waitPosition c.own.waitList p = 0 := by
  refine waitPosition_of_notMem ?_
  rw [h.tallied.wait_unseated]
  exact ((h.recordsRight p).state_ne_of_seat hs).1

/-- R9: a seat high enough is kept. -/
theorem tierAnswered_kept (hs : c.own.ports[p].seat = some k) (high : tierNum t ≤ tierNum k) :
    TierAnswered p t wait amount c (ptuWrite p (askedRec t c.own.ports[p]) c) c.own.ports[p].state (some k) 0 where
  closes := ptuTierGranted_kept wait amount hs high
  run := ⟨_, .single _ _ _⟩
  state := by rw [ptuWrite_ports, setAt_get_self]; rfl
  seated := by rw [ptuWrite_ports, setAt_get_self]; exact hs
  placed := by rw [(asked_write t h).1]; exact waitPosition_seated h hs

theorem reseated_unclaimed {j : Tier} (hs : c.own.ports[p].seat = some k)
    (found : seatRule c.own.held c.own.granted t none = some j) :
    (ptuWrite p (reseatedRec t j c.own.ports[p]) c).own.Unclaimed :=
  h.write (PortRec.right_of_seated rfl (seatRule_tier found) ((h.recordsRight p).state_of_seat hs))

/-- R9: the seat that the rule finds is taken, and the list is served. -/
theorem tierAnswered_raised {j : Tier} (hs : c.own.ports[p].seat = some k) (low : tierNum k < tierNum t)
    (found : seatRule c.own.held c.own.granted t none = some j) :
    TierAnswered p t wait amount c (waitListService (ptuWrite p (reseatedRec t j c.own.ports[p]) c))
      c.own.ports[p].state (some j) 0 := by
  have w := reseated_unclaimed t h hs found
  have stands : (waitListService (ptuWrite p (reseatedRec t j c.own.ports[p]) c)).own.ports[p] =
      reseatedRec t j c.own.ports[p] := by
    rw [(service_writes _).port_eq, ptuWrite_ports, setAt_get_self]
    rw [w.tallied.wait_unseated, ptuWrite_ports, setAt_get_self]
    exact ((h.recordsRight p).state_ne_of_seat hs).1
  exact
    { closes := ptuTierGranted_raised wait amount hs low found
      run := ⟨_, (PtuWrites.single _ _ _).append (service_writes _)⟩
      state := by rw [stands]; rfl
      seated := by rw [stands]; rfl
      placed := waitPosition_seated w.service (by rw [stands]; rfl) }

/-- R9: or the seat is given up, and the port keeps the last place of the list when it has been served. -/
theorem unseated_service (hs : c.own.ports[p].seat = some k) (low : tierNum k < tierNum t)
    (full : seatRule c.own.held c.own.granted t none = none) :
    (ptuWrite p (unseatedRec t c.own.ports[p]) c).own.Unclaimed ∧
      (waitListService (ptuWrite p (unseatedRec t c.own.ports[p]) c)).own.ports[p] = unseatedRec t c.own.ports[p] ∧
      ∃ m, (waitListService (ptuWrite p (unseatedRec t c.own.ports[p]) c)).own.waitList = m ++ [p] ∧ p ∉ m := by
  have w : (ptuWrite p (unseatedRec t c.own.ports[p]) c).own.Unclaimed :=
    h.write (PortRec.right_of_seatless rfl (.inr rfl))
  have self : (ptuWrite p (unseatedRec t c.own.ports[p]) c).own.ports[p] = unseatedRec t c.own.ports[p] := by
    rw [ptuWrite_ports, setAt_get_self]
  have tail := service_tail w (congrArg Ptu.waitList (unseated_write t h hs).1)
    (by rw [self, (unseated_write t h hs).1]; exact seatRule_none_of_freed low full)
  exact ⟨w, tail.1.trans self, tail.2⟩

/-- The port itself leaves IN_SERVICE alone, and those served before it may enter. -/
theorem unseated_service_ptuMxw (hs : c.own.ports[p].seat = some k) (low : tierNum k < tierNum t)
    (full : seatRule c.own.held c.own.granted t none = none) :
    (waitListService (ptuWrite p (unseatedRec t c.own.ports[p]) c)).bus.ptuMxw =
      c.bus.ptuMxw ++ (if c.own.ports[p].state = .inService then [p] else []) ++ c.own.waitList.filter (fun q =>
        (waitListService (ptuWrite p (unseatedRec t c.own.ports[p]) c)).own.ports[q].state = .inService) := by
  obtain ⟨w, stands, -⟩ := unseated_service t h hs low full
  obtain ⟨own, mxw, -⟩ := unseated_write t h hs
  rw [service_ptuMxw w, mxw]
  generalize (waitListService (ptuWrite p (unseatedRec t c.own.ports[p]) c)).own = e at stands ⊢
  have last : [p].filter (fun q => e.ports[q].state = .inService) = [] :=
    List.filter_eq_nil_iff.2 fun q hq => by
      obtain rfl := List.mem_singleton.1 hq
      rw [stands]; simp [unseatedRec]
  rw [own, List.filter_append, last, List.append_nil]

/-- With the port at its tail the list does not become empty. -/
theorem unseated_service_toAtu (hs : c.own.ports[p].seat = some k) (low : tierNum k < tierNum t)
    (full : seatRule c.own.held c.own.granted t none = none) :
    (waitListService (ptuWrite p (unseatedRec t c.own.ports[p]) c)).bus.toAtu = c.bus.toAtu ++
      (if c.own.waitList = [] then [{ raised := true, kind := .portsUnseated, object := 0 }] else []) := by
  obtain ⟨w, -, m, list, -⟩ := unseated_service t h hs low full
  have nonempty : ¬ (m ++ [p] = []) := by simp
  rw [(service_shrinks w).2, list, if_neg fun e => nonempty e.2, List.append_nil, (unseated_write t h hs).2.2]

theorem tierAnswered_unseated (hs : c.own.ports[p].seat = some k) (low : tierNum k < tierNum t)
    (full : seatRule c.own.held c.own.granted t none = none) :
    TierAnswered p t true amount c (waitListService (ptuWrite p (unseatedRec t c.own.ports[p]) c)) .unseated none
      (waitListService (ptuWrite p (unseatedRec t c.own.ports[p]) c)).own.waitList.length := by
  obtain ⟨-, stands, m, list, notIn⟩ := unseated_service t h hs low full
  exact
    { closes := ptuTierGranted_unseated amount hs low full
      run := ⟨_, (PtuWrites.single _ _ _).append (service_writes _)⟩
      state := by rw [stands]; rfl
      seated := by rw [stands]; rfl
      placed := by
        rw [list, waitPosition_of_mem (by simp), List.idxOf_append_of_notMem notIn]; simp }

/-- R10: a waiting port for which its new tier finds no seat keeps its place. -/
theorem tierAnswered_waits (hs : c.own.ports[p].seat = none) (hw : p ∈ c.own.waitList)
    (others : ∀ q ∈ c.own.waitList, q ≠ p → seatRule c.own.held c.own.granted c.own.ports[q].reqTier none = none)
    (full : seatRule c.own.held c.own.granted t none = none) :
    TierAnswered p t wait amount c (ptuWrite p (askedRec t c.own.ports[p]) c) .unseated none
      (c.own.waitList.idxOf p + 1) := by
  have self : (ptuWrite p (askedRec t c.own.ports[p]) c).own.ports[p] = askedRec t c.own.ports[p] := by
    rw [ptuWrite_ports, setAt_get_self]
  have own := (asked_write (p := p) t h).1
  have served : waitListService (ptuWrite p (askedRec t c.own.ports[p]) c) =
      ptuWrite p (askedRec t c.own.ports[p]) c := by
    refine serve_of_none fun q hq => ?_
    by_cases e : q = p
    · subst e; rw [self, own]; exact full
    · rw [ptuWrite_port_ne _ _ (Ne.symm e), own]
      rw [own] at hq
      exact others q hq e
  exact
    { closes := by rw [ptuTierGranted_waiting wait amount hs, served]
      run := ⟨_, .single _ _ _⟩
      state := by rw [self]; exact (h.tallied.wait_unseated p).1 hw
      seated := by rw [self]; exact hs
      placed := by rw [own]; exact waitPosition_of_mem hw }

/-- R10: or it takes the seat found, where no other waiting port finds one. -/
theorem tierAnswered_seated (hs : c.own.ports[p].seat = none) (hw : p ∈ c.own.waitList)
    (others : ∀ q ∈ c.own.waitList, q ≠ p → seatRule c.own.held c.own.granted c.own.ports[q].reqTier none = none)
    (found : seatRule c.own.held c.own.granted t none = some k) :
    TierAnswered p t wait amount c
      (ptuWrite p (seatedRec c.own.view[slotOf p] k (askedRec t c.own.ports[p]))
        (ptuWrite p (askedRec t c.own.ports[p]) c))
      (seatedState c.own.view[slotOf p]) (some k) 0 := by
  have self : (ptuWrite p (askedRec t c.own.ports[p]) c).own.ports[p] = askedRec t c.own.ports[p] := by
    rw [ptuWrite_ports, setAt_get_self]
  have own := (asked_write (p := p) t h).1
  have w : (ptuWrite p (askedRec t c.own.ports[p]) c).own.Unclaimed := h.write ((h.recordsRight p).asked hs t)
  have served := service_single w (p := p) (k := k) (by rw [own]; exact hw)
    (fun q hq e => by
      rw [ptuWrite_port_ne _ _ (Ne.symm e), own]
      rw [own] at hq
      exact others q hq e)
    (by rw [self, own]; exact found)
  rw [self, ptuWrite_view] at served
  have gone : p ∉ (waitListService (ptuWrite p (askedRec t c.own.ports[p]) c)).own.waitList := by
    rw [w.service.tallied.wait_unseated, served, ptuWrite_ports, setAt_get_self]
    exact (seatedState_ne _).1
  exact
    { closes := by rw [ptuTierGranted_waiting wait amount hs, served]
      run := ⟨_, (PtuWrites.single _ _ _).append (.single _ _ _)⟩
      state := by rw [ptuWrite_ports, setAt_get_self]; rfl
      seated := by rw [ptuWrite_ports, setAt_get_self]; rfl
      placed := by rw [← served]; exact waitPosition_of_notMem gone }

end tierGranted

/-- R37: a waiting port takes a seat: what the write makes of the table and what it sends. -/
theorem seated_write {w : At Ptu} (h : w.own.Unclaimed) {p : Port} (hp : p ∈ w.own.waitList) (v : SlotView) (k : Tier) :
    let d := ptuWrite p (seatedRec v k w.own.ports[p]) w
    d.own = { w.own with
        ports := setAt w.own.ports p (seatedRec v k w.own.ports[p])
        held := w.own.held.set k (w.own.held.get k + 1)
        waitList := w.own.waitList.filter (fun q => q ≠ p) } ∧
      d.bus.ptuMxw = w.bus.ptuMxw ++ (if seatedState v = .inService then [p] else []) ∧
      d.bus.toAtu = w.bus.toAtu ++ (if w.own.waitList = [p]
        then [{ raised := false, kind := .portsUnseated, object := 0 }] else []) := by
  intro d
  obtain ⟨waits, seatless⟩ := Ptu.waits_of_mem h.tallied h.recordsRight hp
  have other : w.own.ports[p] ≠ seatedRec v k w.own.ports[p] := fun e =>
    (seatedState_ne v).1 ((congrArg PortRec.state e).symm.trans waits)
  have left : waitAfter p w.own.ports[p].state (seatedRec v k w.own.ports[p]).state w.own.waitList =
      w.own.waitList.filter (fun q => q ≠ p) := waitAfter_left (h.tallied.wait_unseated p) (seatedState_ne v).1
  have own : d.own = _ := ptuWrite_own other
  rw [left, seatless] at own
  refine ⟨own, ?_, ?_⟩
  · rw [ptuWrite_ptuMxw, waits]; simp [seatedRec]
  · have last : (w.own.waitList ≠ [] ∧ w.own.waitList.filter (fun q => q ≠ p) = []) ↔ w.own.waitList = [p] := by
      constructor
      · rintro ⟨-, none⟩
        refine List.perm_singleton.1 ((List.perm_ext_iff_of_nodup h.tallied.wait_nodup (List.nodup_singleton p)).2 fun q => ?_)
        have only : ∀ q ∈ w.own.waitList, q = p := by simpa using none
        exact ⟨fun hq => List.mem_singleton.2 (only q hq), fun hq => List.mem_singleton.1 hq ▸ hp⟩
      · intro e; simp [e]
    rw [ptuWrite_toAtu, show (ptuWrite p (seatedRec v k w.own.ports[p]) w).own.waitList = _ from congrArg Ptu.waitList own,
      unseatedRequests_sublist List.filter_sublist]
    simp only [last]

/-- R10: the same after the port has asked for another tier. -/
theorem asked_seated_write {c : At Ptu} (h : c.own.Unclaimed) {p : Port} (hs : c.own.ports[p].seat = none)
    (hp : p ∈ c.own.waitList) (t k : Tier) :
    let d := ptuWrite p (seatedRec c.own.view[slotOf p] k (askedRec t c.own.ports[p]))
      (ptuWrite p (askedRec t c.own.ports[p]) c)
    d.own = { c.own with
        ports := setAt c.own.ports p (seatedRec c.own.view[slotOf p] k (askedRec t c.own.ports[p]))
        held := c.own.held.set k (c.own.held.get k + 1)
        waitList := c.own.waitList.filter (fun q => q ≠ p) } ∧
      d.bus.ptuMxw = c.bus.ptuMxw ++ (if seatedState c.own.view[slotOf p] = .inService then [p] else []) ∧
      d.bus.toAtu = c.bus.toAtu ++ (if c.own.waitList = [p]
        then [{ raised := false, kind := .portsUnseated, object := 0 }] else []) := by
  obtain ⟨own, mxw, atu⟩ := asked_write (p := p) t h
  have w : (ptuWrite p (askedRec t c.own.ports[p]) c).own.Unclaimed := h.write ((h.recordsRight p).asked hs t)
  have self : (ptuWrite p (askedRec t c.own.ports[p]) c).own.ports[p] = askedRec t c.own.ports[p] := by
    rw [ptuWrite_ports, setAt_get_self]
  have seated := seated_write w (p := p) (by rw [own]; exact hp) c.own.view[slotOf p] k
  rw [self, mxw, atu, own] at seated
  simpa only [setAt_setAt] using seated

end Sys2Proof.Machine

/-! PROOFS. The inputs held behind a claim (R4): the answer does not see them, and each is taken as its own command takes
it. -/

namespace Sys2Proof.Machine

open Sys2Proof

/-! ### The answer does not see the inputs held -/

/-- The PTU with other inputs held. -/
def withHeld (x : List PtuHeld) (c : At Ptu) : At Ptu := { c with own := { c.own with heldInputs := x } }

theorem ptuWrite_withHeld (p : Port) (r : PortRec) (x : List PtuHeld) (c : At Ptu) :
    ptuWrite p r (withHeld x c) = withHeld x (ptuWrite p r c) := by
  by_cases h : c.own.ports[p] = r
  · rw [ptuWrite_same h, ptuWrite_same (c := withHeld x c) h]
  · rw [ptuWrite_of_ne h, ptuWrite_of_ne (c := withHeld x c) h]
    rfl

theorem serveWaiter_withHeld (x : List PtuHeld) (c : At Ptu) (p : Port) :
    serveWaiter (withHeld x c) p = withHeld x (serveWaiter c p) := by
  cases h : seatRule c.own.held c.own.granted c.own.ports[p].reqTier none with
  | none => rw [serveWaiter_of_none h, serveWaiter_of_none (c := withHeld x c) h]
  | some k =>
    rw [serveWaiter_of_some h, serveWaiter_of_some (c := withHeld x c) h]
    exact ptuWrite_withHeld _ _ x c

theorem waitListService_withHeld (x : List PtuHeld) (c : At Ptu) :
    waitListService (withHeld x c) = withHeld x (waitListService c) := by
  have scan (l : List Port) : ∀ c : At Ptu, l.foldl serveWaiter (withHeld x c) = withHeld x (l.foldl serveWaiter c) := by
    induction l with
    | nil => exact fun _ => rfl
    | cons p l ih => intro c; rw [List.foldl_cons, serveWaiter_withHeld, ih, List.foldl_cons]
  exact scan c.own.waitList c

theorem noticeIfCrossed_withHeld (i : Slot) (before : Bool) (x : List PtuHeld) (c : At Ptu) :
    noticeIfCrossed i before (withHeld x c) = withHeld x (noticeIfCrossed i before c) := by
  rw [noticeIfCrossed_eq, noticeIfCrossed_eq]; rfl

theorem ptuClose_withHeld (p : Port) (watts : Int) (x : List PtuHeld) (c : At Ptu) :
    ptuClose p watts (withHeld x c) = withHeld x (ptuClose p watts c) := rfl

theorem ptuPortGranted_withHeld (p : Port) (t : Tier) (seat : Option Tier) (a : ClaimAnswer) (x : List PtuHeld)
    (c : At Ptu) : ptuPortGranted p t seat a (withHeld x c) = withHeld x (ptuPortGranted p t seat a c) := by
  rw [ptuPortGranted_eq, ptuPortGranted_eq, ← ptuClose_withHeld, ← noticeIfCrossed_withHeld]
  have written := ptuWrite_withHeld p (enabledRec c.own.view[slotOf p] t seat c.own.ports[p]) x c
  dsimp only
  split_ifs
  · exact congrArg (fun e : At Ptu => ptuClose p a.amount (noticeIfCrossed (slotOf p) (slotInUse c.own (slotOf p))
      { e with bus := e.bus.sendPtuSls (.wake (slotOf p)) })) written
  · exact congrArg (fun e : At Ptu => ptuClose p a.amount
      (noticeIfCrossed (slotOf p) (slotInUse c.own (slotOf p)) e)) written

theorem ptuTierGranted_withHeld (p : Port) (t : Tier) (wait : Bool) (amount : Int) (x : List PtuHeld) (c : At Ptu) :
    ptuTierGranted p t wait amount (withHeld x c) = withHeld x (ptuTierGranted p t wait amount c) := by
  have written (r : PortRec) : ptuClose p amount (ptuWrite p r (withHeld x c)) =
      withHeld x (ptuClose p amount (ptuWrite p r c)) := by rw [ptuWrite_withHeld, ptuClose_withHeld]
  have served (r : PortRec) : ptuClose p amount (waitListService (ptuWrite p r (withHeld x c))) =
      withHeld x (ptuClose p amount (waitListService (ptuWrite p r c))) := by
    rw [ptuWrite_withHeld, waitListService_withHeld, ptuClose_withHeld]
  cases hs : c.own.ports[p].seat with
  | none =>
    rw [ptuTierGranted_waiting wait amount hs, ptuTierGranted_waiting (c := withHeld x c) wait amount hs]
    exact served _
  | some k =>
    rcases Nat.lt_or_ge (tierNum k) (tierNum t) with low | high
    · cases found : seatRule c.own.held c.own.granted t none with
      | some j =>
        rw [ptuTierGranted_raised wait amount hs low found,
          ptuTierGranted_raised (c := withHeld x c) wait amount hs low found]
        exact served _
      | none =>
        cases wait with
        | true =>
          rw [ptuTierGranted_unseated amount hs low found,
            ptuTierGranted_unseated (c := withHeld x c) amount hs low found]
          exact served _
        | false =>
          rw [ptuTierGranted_noSeat amount hs low found,
            ptuTierGranted_noSeat (c := withHeld x c) amount hs low found]
          rfl
    · rw [ptuTierGranted_kept wait amount hs high, ptuTierGranted_kept (c := withHeld x c) wait amount hs high]
      exact written _

theorem ptuAnswer_withHeld (a : ClaimAnswer) (x : List PtuHeld) (c : At Ptu) :
    ptuAnswer a (withHeld x c) = withHeld x (ptuAnswer a c) := by
  have claim : (withHeld x c).own.claim = c.own.claim := rfl
  unfold ptuAnswer
  rw [claim]
  cases c.own.claim with
  | none => rfl
  | some q =>
    cases q with
    | port p t seat =>
      dsimp only
      split_ifs
      · rfl
      · exact ptuPortGranted_withHeld p t seat a x { c with own := { c.own with claim := none } }
    | tier p t wait =>
      dsimp only
      split_ifs
      · rfl
      · exact ptuTierGranted_withHeld p t wait a.amount x { c with own := { c.own with claim := none } }
    | wake i =>
      dsimp only
      split_ifs <;> rfl

/-- So the inputs held stand through it. -/
theorem ptuAnswer_heldInputs (a : ClaimAnswer) (c : At Ptu) : (ptuAnswer a c).own.heldInputs = c.own.heldInputs := by
  have same : ptuAnswer a c = withHeld c.own.heldInputs (ptuAnswer a c) := ptuAnswer_withHeld a c.own.heldInputs c
  rw [same]
  rfl

/-! ### The queue of the PTU -/

/-- The task words that wait for the PTU. -/
def ptuQueue (b : Bus) : List (Fin 16 × TaskWord) := (b.station .ptu).queue

theorem PtuWrites.queue_eq {l : List Port} {c d : At Ptu} (h : PtuWrites l c d) : ptuQueue d.bus = ptuQueue c.bus := by
  rw [h.bus_eq]; rfl

theorem ptuWrite_queue (p : Port) (r : PortRec) (c : At Ptu) : ptuQueue (ptuWrite p r c).bus = ptuQueue c.bus :=
  (PtuWrites.single p r c).queue_eq

theorem waitListService_queue (c : At Ptu) : ptuQueue (waitListService c).bus = ptuQueue c.bus :=
  (service_writes c).queue_eq

theorem noticeIfCrossed_queue (i : Slot) (before : Bool) (c : At Ptu) :
    ptuQueue (noticeIfCrossed i before c).bus = ptuQueue c.bus := by
  rw [noticeIfCrossed_eq]; rfl

theorem ptuClose_queue (p : Port) (watts : Int) (c : At Ptu) : ptuQueue (ptuClose p watts c).bus = ptuQueue c.bus :=
  endTask_queue _ _ _ _

theorem ptuRefuse_queue (r : Reason) (p : Port) (c : At Ptu) : ptuQueue (ptuRefuse r p c).bus = ptuQueue c.bus :=
  endTask_queue _ _ _ _

theorem ptuPortGranted_queue (p : Port) (t : Tier) (seat : Option Tier) (a : ClaimAnswer) (c : At Ptu) :
    ptuQueue (ptuPortGranted p t seat a c).bus = ptuQueue c.bus := by
  rw [ptuPortGranted_eq, ptuClose_queue, noticeIfCrossed_queue]
  dsimp only
  split_ifs <;> exact ptuWrite_queue _ _ c

theorem ptuTierGranted_queue (p : Port) (t : Tier) (wait : Bool) (amount : Int) (c : At Ptu) :
    ptuQueue (ptuTierGranted p t wait amount c).bus = ptuQueue c.bus := by
  unfold ptuTierGranted
  dsimp only
  split
  · rw [ptuClose_queue, waitListService_queue, ptuWrite_queue]
  · split_ifs
    · rw [ptuClose_queue, ptuWrite_queue]
    · split
      · rw [ptuClose_queue, waitListService_queue, ptuWrite_queue]
      · rw [ptuClose_queue, waitListService_queue, ptuWrite_queue]
    · split
      · rw [ptuClose_queue, waitListService_queue, ptuWrite_queue]
      · exact ptuRefuse_queue _ _ _

theorem ptuAnswer_queue (a : ClaimAnswer) (c : At Ptu) : ptuQueue (ptuAnswer a c).bus = ptuQueue c.bus := by
  unfold ptuAnswer
  dsimp only
  split
  · rfl
  · split_ifs
    · exact ptuRefuse_queue _ _ _
    · exact ptuPortGranted_queue _ _ _ _ _
  · split_ifs
    · exact ptuRefuse_queue _ _ _
    · exact ptuTierGranted_queue _ _ _ _ _
  · split_ifs <;> rfl

theorem ptuReport_queue (i : Slot) (st : SlotState) (c : At Ptu) : ptuQueue (ptuReport i st c).bus = ptuQueue c.bus := by
  by_cases e : st = .online
  · subst e
    have ports := (portsOnline_writes i (ptuView i .online c)).queue_eq
    rw [ptuReport_online]
    generalize (portsOf i).foldl portOnline (ptuView i .online c) = d at ports ⊢
    exact ports
  · rw [ptuReport_left e]
    have ports := (portsLeft_writes (leaveReason st) i (ptuView i st c)).queue_eq
    generalize (portsOf i).foldl (portLeftOnline (leaveReason st)) (ptuView i st c) = d at ports ⊢
    unfold wakeClaimIfUsed
    split_ifs <;> exact ports

theorem ptuSweep_queue (i : Slot) (m : Tier) (tag : Nat) (c : At Ptu) :
    ptuQueue (ptuSweep i m tag c).bus = ptuQueue c.bus := by
  have above : ptuQueue (sweepAbove i m c).bus = ptuQueue c.bus := (sweepAbove_writes i m c).queue_eq
  rw [ptuSweep_eq]
  show ptuQueue (noticeIfCrossed _ _ _).bus = _
  rw [noticeIfCrossed_queue]
  unfold sweptPorts
  split_ifs
  · rw [waitListService_queue, above]
  · exact above

theorem ptuSetGranted_queue (g : Counts) (c : At Ptu) : ptuQueue (ptuSetGranted g c).bus = ptuQueue c.bus := by
  unfold ptuSetGranted Bus.markIf
  split_ifs <;> rfl

theorem ptuWithdrawal_queue (g : Counts) (c : At Ptu) : ptuQueue (ptuWithdrawal g c).bus = ptuQueue c.bus := by
  have passes (ks : List Tier) : ∀ c : At Ptu, ptuQueue (ks.foldl reclaimPass c).bus = ptuQueue c.bus := by
    induction ks with
    | nil => exact fun _ => rfl
    | cons k ks ih =>
      intro c
      obtain ⟨l, writes⟩ := reclaimPass_writes c k
      exact (ih _).trans writes.queue_eq
  have all := (passes tiers (ptuSetGranted g c)).trans (ptuSetGranted_queue g c)
  rw [ptuWithdrawal]
  generalize tiers.foldl reclaimPass (ptuSetGranted g c) = d at all ⊢
  exact all

theorem ptuApply_queue (x : PtuHeld) (c : At Ptu) : ptuQueue (ptuApply x c).bus = ptuQueue c.bus := by
  cases x with
  | sls m => cases m with
    | report i st cause => exact ptuReport_queue i st c
    | sweep i m tag => exact ptuSweep_queue i m tag c
  | lcu m => cases m with
    | grant g =>
      show ptuQueue (ptuGrantReport g c).bus = _
      rw [ptuGrantReport, waitListService_queue, ptuSetGranted_queue]
    | withdrawal g => exact ptuWithdrawal_queue g c
  | task => rfl

theorem ptuEnablePort_queue (p : Port) (t : Tier) (wait : Bool) (c : At Ptu) :
    ptuQueue (ptuEnablePort p t wait c).bus = ptuQueue c.bus := by
  unfold ptuEnablePort
  dsimp only
  split_ifs
  · exact ptuClose_queue _ _ _
  · split
    · exact ptuRefuse_queue _ _ _
    · rfl
  · split
    · exact ptuRefuse_queue _ _ _
    · exact ptuRefuse_queue _ _ _
  · split
    · exact ptuRefuse_queue _ _ _
    · rfl

theorem ptuEnable_queue (w : TaskWord) (c : At Ptu) : ptuQueue (ptuEnable w c).bus = ptuQueue c.bus := by
  by_cases range : w.bits 0 16 < 256
  · rw [ptuEnable_inRange (p := ⟨w.bits 0 16, range⟩) rfl]
    split
    · exact ptuRefuse_queue _ _ _
    · exact ptuEnablePort_queue _ _ _ _
  · rw [ptuEnable_outOfRange (Nat.not_lt.1 range)]
    exact endTask_queue _ _ _ _

theorem ptuDisable_queue (b : Pbu) (w : TaskWord) (c : At Ptu) : ptuQueue (ptuDisable b w c).bus = ptuQueue c.bus := by
  by_cases range : w.bits 0 16 < 256
  · rw [ptuDisable_inRange (p := ⟨w.bits 0 16, range⟩) rfl]
    by_cases on : c.own.ports[(⟨w.bits 0 16, range⟩ : Port)].state = .disabled
    · rw [ptuDisablePort_off _ on]; exact ptuClose_queue _ _ _
    · rw [ptuDisablePort_on _ on, ptuClose_queue, noticeIfCrossed_queue]
      unfold releasedPort
      dsimp only
      split_ifs
      · exact ptuWrite_queue _ _ _
      · exact (waitListService_queue _).trans (ptuWrite_queue _ _ _)
  · rw [ptuDisable_outOfRange (Nat.not_lt.1 range)]
    exact endTask_queue _ _ _ _

theorem takeWord_queue (s : State) : ptuQueue (s.takeWord .ptu).bus = (ptuQueue s.bus).tail := by
  cases hq : (s.bus.station .ptu).queue with
  | nil =>
    have stands : s.takeWord .ptu = s := by unfold State.takeWord; rw [hq]
    rw [stands, ptuQueue, hq]; rfl
  | cons e rest =>
    obtain ⟨a, w⟩ := e
    rw [takeWord_of_queue hq, ptuQueue, ptuQueue, hq]
    show ((s.bus.setStation .ptu _).station .ptu).queue = _
    rw [setStation_station_self]
    rfl

/-! ### The commands of the held inputs -/

/-- Every word that waits for the PTU is a task of the PTU. -/
def OnlyPtuTasks (b : Bus) : Prop :=
  ∀ e ∈ ptuQueue b, e.2.is .portEnable = true ∨ e.2.is .portDisable = true

/-- Taking a held input adds no word. -/
theorem ptuTakeHeld_onlyPtuTasks {s : State} (h : OnlyPtuTasks s.bus) (x : PtuHeld) :
    OnlyPtuTasks (ptuTakeHeld x s).bus := by
  have applied : ptuQueue (s.onPtu (ptuApply x)).bus = ptuQueue s.bus :=
    ptuApply_queue x { own := s.ptu, bus := s.bus }
  cases x with
  | sls m => intro e he; exact h e (applied ▸ he)
  | lcu m => intro e he; exact h e (applied ▸ he)
  | task =>
    show OnlyPtuTasks (ptuRunTask s).bus
    unfold ptuRunTask
    split
    · exact h
    next w _ =>
      have taken : OnlyPtuTasks (s.takeWord .ptu).bus := fun e he => h e (List.mem_of_mem_tail (takeWord_queue s ▸ he))
      split_ifs
      · intro e he; exact taken e (ptuEnable_queue w { own := _, bus := _ } ▸ he)
      · intro e he; exact taken e (ptuDisable_queue s.pbu w { own := _, bus := _ } ▸ he)

theorem exec_grantReport {s : State} {g : Counts} {rest : List LcuToPtu} (hm : s.bus.lcuPtu = .grant g :: rest)
    {d : At Ptu} (hd : ptuInput (.lcu (.grant g)) { own := s.ptu, bus := { s.bus with lcuPtu := rest } } = d) :
    exec .grantReport s = .next { s with ptu := d.own, bus := d.bus } := by
  show execGrantReport s = _
  simp only [execGrantReport, hm]
  exact congrArg (fun d : At Ptu => Host.Outcome.next { s with ptu := d.own, bus := d.bus }) hd

theorem exec_withdrawal {s : State} {g : Counts} {rest : List LcuToPtu} (hm : s.bus.lcuPtu = .withdrawal g :: rest)
    {d : At Ptu} (hd : ptuInput (.lcu (.withdrawal g)) { own := s.ptu, bus := { s.bus with lcuPtu := rest } } = d) :
    exec .withdrawal s = .next { s with ptu := d.own, bus := d.bus } := by
  show execWithdrawal s = _
  simp only [execWithdrawal, hm]
  exact congrArg (fun d : At Ptu => Host.Outcome.next { s with ptu := d.own, bus := d.bus }) hd

/-- With no claim outstanding a word of the wanted kind at the front runs its task. -/
theorem ptuTask_of_front {s : State} {a : Fin 16} {w : TaskWord} {rest : List (Fin 16 × TaskWord)} {k : TaskKind}
    (hq : ptuQueue s.bus = (a, w) :: rest) (hc : s.ptu.claim = none) (hw : w.is k = true) :
    ptuTask k s = ptuRunTask s := by
  have front : (s.bus.station .ptu).queue = (a, w) :: rest := hq
  simp only [ptuTask, front, hw, if_true, hc, Option.isSome_none, Bool.false_eq_true, if_false]

/-- R4: the held task word, by the kind of the word at the front. -/
theorem exec_heldTask {s : State} (hc : s.ptu.claim = none) (hq : OnlyPtuTasks s.bus) :
    exec (PtuHeld.task.command s) (PtuHeld.task.back s) = .next (ptuRunTask s) := by
  cases front : ptuQueue s.bus with
  | nil =>
    have empty : (s.bus.station .ptu).queue = [] := front
    have command : PtuHeld.task.command s = .portDisable := by simp [PtuHeld.command, empty]
    have task : ptuTask .portDisable s = s := by simp only [ptuTask, empty]
    have idle : ptuRunTask s = s := by
      have : s.oldestWord .ptu = none := by simp [State.oldestWord, empty]
      simp only [ptuRunTask, this]
    rw [command, idle]
    exact congrArg Host.Outcome.next task
  | cons e rest =>
    obtain ⟨a, w⟩ := e
    have queue : (s.bus.station .ptu).queue = (a, w) :: rest := front
    by_cases enable : w.is .portEnable = true
    · have command : PtuHeld.task.command s = .portEnable := by simp [PtuHeld.command, queue, enable]
      rw [command]
      exact congrArg Host.Outcome.next (ptuTask_of_front front hc enable)
    · have command : PtuHeld.task.command s = .portDisable := by simp [PtuHeld.command, queue, enable]
      have disable : w.is .portDisable = true := (hq (a, w) (by simp [front])).resolve_left enable
      rw [command]
      exact congrArg Host.Outcome.next (ptuTask_of_front front hc disable)

/-- R4: with no claim outstanding a held input is taken as its own command takes it. -/
theorem exec_held {s : State} (hc : s.ptu.claim = none) (hq : OnlyPtuTasks s.bus) (x : PtuHeld) :
    exec (x.command s) (x.back s) = .next (ptuTakeHeld x s) := by
  cases x with
  | sls m => cases m with
    | report i st cause =>
      have command : (PtuHeld.sls (.report i st cause)).command s =
          if st = .online then .slotOnlineReport else .slotLeftOnlineReport := by cases st <;> rfl
      rw [command]
      exact exec_slotReport_of_free (s := (PtuHeld.sls (.report i st cause)).back s) rfl hc rfl
    | sweep i m tag =>
      exact exec_sweep (s := (PtuHeld.sls (.sweep i m tag)).back s) rfl (ptuInput_of_free hc _)
  | lcu m => cases m with
    | grant g => exact exec_grantReport (s := (PtuHeld.lcu (.grant g)).back s) rfl (ptuInput_of_free hc _)
    | withdrawal g => exact exec_withdrawal (s := (PtuHeld.lcu (.withdrawal g)).back s) rfl (ptuInput_of_free hc _)
  | task => exact exec_heldTask hc hq

/-- R4: so the inputs held are taken in the book's way. -/
theorem afterHeld_eq (l : List PtuHeld) {s : State} (hq : OnlyPtuTasks s.bus) : afterHeld l s = some (ptuDrain l s) := by
  induction l generalizing s with
  | nil => rfl
  | cons x l ih =>
    unfold afterHeld ptuDrain
    by_cases hc : s.ptu.claim = none
    · have free : ¬ s.ptu.claim.isSome = true := by simp [hc]
      rw [if_neg free, if_neg free, exec_held hc hq]
      exact ih (ptuTakeHeld_onlyPtuTasks hq x)
    · have claimed : s.ptu.claim.isSome = true := Option.isSome_iff_ne_none.2 hc
      rw [if_pos claimed, if_pos claimed]

/-- The answer, then the inputs held: the answer as if none were held, and the drain of them. -/
theorem exec_claimAnswer_held {s : State} {a : ClaimAnswer} {rest : List ClaimAnswer} {d : At Ptu}
    (hm : s.bus.pbuPtu = a :: rest)
    (hd : ptuAnswer a { own := { s.ptu with heldInputs := [] }, bus := { s.bus with pbuPtu := rest } } = d) :
    exec .claimAnswer s = .next (ptuDrain s.ptu.heldInputs { s with ptu := d.own, bus := d.bus }) := by
  have answer : ptuAnswer a { own := s.ptu, bus := { s.bus with pbuPtu := rest } } = withHeld s.ptu.heldInputs d := by
    rw [← hd, ← ptuAnswer_withHeld]; rfl
  have emptied : { d.own with heldInputs := [] } = d.own := by
    have held : d.own.heldInputs = [] := by rw [← hd, ptuAnswer_heldInputs]
    rw [← held]
  rw [exec_claimAnswer_drains hm answer]
  simp only [withHeld, emptied]

/-- Settles O17. -/
theorem grantedPortClaimEnablesThePort : Obligations.GrantedPortClaimEnablesThePort := by
  unfold Obligations.GrantedPortClaimEnablesThePort
  refine ⟨?_, ?_, ?_, ?_, ?_⟩
  · intro s a rest p t seat hm granted hc hh hs off i online state u b
    have h : (answeredAt s rest).own.Unclaimed := hs.dropClaim
    have hp : p ∉ s.ptu.waitList := by rw [hs.wait_unseated, off]; decide
    have entered : state = enabledState s.ptu.view[i] seat := by cases seat <;> rfl
    have write : ptuWrite p (enabledRec s.ptu.view[i] t seat s.ptu.ports[p]) (answeredAt s rest) =
        { own := u, bus := { b with ptuSls := s.bus.ptuSls } } :=
      (enabled_write (c := answeredAt s rest) h off).trans (by cases seat <;> rfl)
    have self : u.ports[p] = enabledRec s.ptu.view[i] t seat s.ptu.ports[p] :=
      (congrArg (fun e : At Ptu => e.own.ports[p]) write).symm.trans (by rw [ptuWrite_ports, setAt_get_self])
    have words : portDetails u p a.amount =
        { w0 := BitVec.ofNat 32 (portStateCode state), w1 := BitVec.ofNat 32 (tierCode seat)
          w2 := BitVec.ofNat 32 (if seat = none then s.ptu.waitList.length + 1 else 0), w3 := signedWord a.amount } := by
      refine portDetails_of _ ?_ ?_ (waitPosition_enabled seat hp)
      · rw [self, entered]; rfl
      · rw [self]; rfl
    have on : u.ports[p].state ≠ .disabled := by rw [self]; exact enabledState_ne_disabled _ _
    refine exec_claimAnswer (d := { own := u, bus := _ }) hm hh ?_
    rw [ptuAnswer_port hc granted, ← words]
    exact ptuPortGranted_of_write a write on
  · intro s a rest c p t hm refused hc hh hx
    refine exec_claimAnswer (d := { own := { s.ptu with claim := none }, bus := _ }) hm hh ?_
    exact ptuAnswer_refused hc refused (hx.imp (fun ⟨seat, e⟩ => ⟨t, seat, e⟩) fun ⟨wait, e⟩ => ⟨t, wait, e⟩)
  · intro s a rest p t wait hm granted hc hh hs r asks bus words closes served
    have h : (answeredAt s rest).own.Unclaimed := hs.dropClaim
    refine ⟨?_, ?_, ?_⟩
    · intro k seat high
      obtain ⟨own, mxw, atu⟩ := asked_write (p := p) t h
      obtain ⟨u, next, closed, ptu, toMxw, toAtu⟩ :=
        exec_tierAnswer hm granted hc hh (tierAnswered_kept t h (p := p) seat high)
      exact ⟨u, next, closed, ptu.trans own, toMxw.trans mxw, toAtu.trans atu⟩
    · intro k seat low
      refine ⟨?_, ?_⟩
      · intro j fits
        have found := lowestFit_iff.1 fits
        have w := reseated_unclaimed t h (p := p) seat found
        obtain ⟨own, mxw, atu⟩ := reseated_write (c := answeredAt s rest) (p := p) t seat
          (fun e : k = j => absurd (seatRule_tier found) (by rw [← e]; omega))
        obtain ⟨u, next, closed, ptu, toMxw, toAtu⟩ :=
          exec_tierAnswer hm granted hc hh (tierAnswered_raised t h (p := p) seat low found)
        refine ⟨u, next, closed, ?_, ?_, ?_⟩
        · rw [ptu, service_own w.tallied w.recordsRight, own]; rfl
        · rw [toMxw, service_ptuMxw w, mxw, ptu, own]; rfl
        · rw [toAtu, (service_shrinks w).2, atu, ptu, own]; rfl
      · intro fits
        have full := lowestFit_iff.1 fits
        constructor
        · rintro rfl
          refine exec_claimAnswer (d := { own := { s.ptu with claim := none }, bus := _ }) hm hh ?_
          rw [ptuAnswer_tier hc granted, ptuTierGranted_noSeat (c := answeredAt s rest) a.amount seat low full]
          rfl
        · rintro rfl
          obtain ⟨w, stands, m, list, -⟩ := unseated_service t h (p := p) seat low full
          have own := (unseated_write t h (p := p) seat).1
          obtain ⟨u, next, closed, ptu, toMxw, toAtu⟩ :=
            exec_tierAnswer hm granted hc hh (tierAnswered_unseated t h (p := p) seat low full)
          refine ⟨u, next, ?_, ?_, ?_, ?_, ?_, ?_⟩
          · rw [ptu]; exact closed
          · rw [ptu, service_own w.tallied w.recordsRight, own]; rfl
          · rw [ptu]; exact stands
          · rw [ptu, list]; simp
          · rw [toMxw, unseated_service_ptuMxw t h seat low full, ptu]; rfl
          · rw [toAtu, unseated_service_toAtu t h seat low full]; rfl
    · intro seatless others
      have hw : p ∈ s.ptu.waitList := by
        rw [hs.wait_unseated]
        exact (hs.recordsRight p).unseated_of_seatless seatless (hs.tier_claim p t wait hc)
      have starved := fun q hq e => lowestFit_iff.1 (others q hq e)
      obtain ⟨own, mxw, atu⟩ := asked_write (p := p) t h
      constructor
      · intro fits
        obtain ⟨u, next, closed, ptu, toMxw, toAtu⟩ := exec_tierAnswer hm granted hc hh
          (tierAnswered_waits t h (p := p) seatless hw starved (lowestFit_iff.1 fits))
        exact ⟨u, next, closed, ptu.trans own, toMxw.trans mxw, toAtu.trans atu⟩
      · intro k fits st
        obtain ⟨u, next, closed, ptu, toMxw, toAtu⟩ := exec_tierAnswer hm granted hc hh
          (tierAnswered_seated t h (p := p) seatless hw starved (lowestFit_iff.1 fits))
        obtain ⟨taken, enters, leaves⟩ := asked_seated_write h seatless hw t k
        exact ⟨u, next, closed, ptu.trans taken, toMxw.trans enters, toAtu.trans leaves⟩
  · intro s a rest i hm hc hh
    exact exec_claimAnswer hm hh (ptuAnswer_wake hc)
  · intro s a rest hm hc hq
    generalize hd : ptuAnswer a { own := { s.ptu with heldInputs := [] }, bus := { s.bus with pbuPtu := rest } } = d
    have held : d.own.heldInputs = [] := by rw [← hd, ptuAnswer_heldInputs]
    have queue : ptuQueue d.bus = ptuQueue s.bus := by rw [← hd, ptuAnswer_queue]; rfl
    have only : OnlyPtuTasks d.bus := by unfold OnlyPtuTasks; rw [queue]; exact hq
    refine ⟨{ s with ptu := d.own, bus := d.bus }, ptuDrain s.ptu.heldInputs { s with ptu := d.own, bus := d.bus },
      exec_claimAnswer (s := { s with ptu := { s.ptu with heldInputs := [] } }) hm held hd, held, afterHeld_eq _ only, ?_⟩
    exact exec_claimAnswer_held hm (by rw [← hd])

end Sys2Proof.Machine

/-! PROOFS. The start-up read (R23): the judgement of a store cell, and the reports that the last one brings. -/

namespace Sys2Proof.Machine

open Sys2Proof

/-- The ids taken are those of the VALID and the LAPSED cells. -/
theorem mem_tableIds {cells : Vector LicenceCell 32} {id : Word} : id ∈ tableIds cells ↔
    ∃ j : Fin 32, (cells[j].state = .valid ∨ cells[j].state = .lapsed) ∧ licenceId cells[j].record = id := by
  simp only [tableIds, List.mem_map, List.mem_filter, Bool.or_eq_true, beq_iff_eq, Vector.mem_toList_iff]
  constructor
  · rintro ⟨c, ⟨hc, live⟩, rfl⟩
    obtain ⟨j, hj, rfl⟩ := Vector.getElem_of_mem hc
    exact ⟨⟨j, hj⟩, live, rfl⟩
  · rintro ⟨j, live, rfl⟩
    exact ⟨cells[j], ⟨Vector.getElem_mem j.isLt, live⟩, rfl⟩

/-! ### One store cell judged -/

section judge

variable {ids : List Word} {x : StoreCell}

theorem judgeStored_erased (h : x.occupied = false) : judgeStored ids x = licenceCellPowerOn := by
  simp [judgeStored, h]

/-- R23: the three ways in which the content of an OCCUPIED cell is unusable. -/
def StoreCell.Bad (ids : List Word) (x : StoreCell) : Prop :=
  licenceCheckRight x.record = false ∨ licenceWellFormed x.record = false ∨ licenceId x.record ∈ ids

theorem storeBad_iff : (!licenceCheckRight x.record || !licenceWellFormed x.record ||
    ids.contains (licenceId x.record)) = true ↔ x.Bad ids := by
  simp [StoreCell.Bad, or_assoc]

theorem judgeStored_bad (h : x.occupied = true) (bad : x.Bad ids) :
    judgeStored ids x = { state := .damaged, hours := x.hours, record := x.record, withdrawing := false } := by
  rw [judgeStored, if_neg (by simp [h]), if_pos (storeBad_iff.2 bad)]

theorem judgeStored_trial (h : x.occupied = true) (good : ¬ x.Bad ids) (trial : licenceKind x.record = some .trial) :
    judgeStored ids x =
      { state := if min x.hours (licenceHours x.record) = 0 then .lapsed else .valid
        hours := min x.hours (licenceHours x.record), record := x.record, withdrawing := false } := by
  rw [judgeStored, if_neg (by simp [h]), if_neg (mt storeBad_iff.1 good), if_pos trial]

theorem judgeStored_unlimited (h : x.occupied = true) (good : ¬ x.Bad ids)
    (unlimited : licenceKind x.record ≠ some .trial) :
    judgeStored ids x = { state := .valid, hours := 0, record := x.record, withdrawing := false } := by
  rw [judgeStored, if_neg (by simp [h]), if_neg (mt storeBad_iff.1 good), if_neg unlimited]

end judge

/-! ### The cell read -/

/-- The cell record that the start-up read makes of cell i. -/
def Lcu.judged (l : Lcu) (i : Fin 32) : LicenceCell := judgeStored (tableIds l.cells) l.lst.cells[i]

theorem lcuCellRead_own (i : Fin 32) (c : At Lcu) : (lcuCellRead i c).own =
    let cells := setAt c.own.cells i (c.own.judged i)
    { c.own with
      cells := cells, startRead := c.own.startRead + 1
      granted := if i.val = 31 then grantedOf cells else c.own.granted } := by
  unfold lcuCellRead
  dsimp only
  split_ifs <;> rfl

/-- The alarm that a judged cell brings. -/
def judgedRequests (i : Fin 32) (x : LicenceCell) : List AlarmRequest :=
  if x.state = .damaged then [{ raised := true, kind := .licenceStoreDamaged, object := i.val }]
  else if x.state = .lapsed then [{ raised := true, kind := .licenceLapsed, object := i.val }]
  else []

theorem lcuCellRead_bus (i : Fin 32) (c : At Lcu) : (lcuCellRead i c).bus = { c.bus with
    toAtu := c.bus.toAtu ++ judgedRequests i (c.own.judged i)
    lcuPtu := c.bus.lcuPtu ++
      (if i.val = 31 then [.grant (sentOf (setAt c.own.cells i (c.own.judged i)))] else [])
    toHli := c.bus.toHli ++ (if i.val = 31 then [.lcu] else []) } := by
  have alarm : (match (c.own.judged i).state with
      | .damaged => c.bus.raise .licenceStoreDamaged i.val
      | .lapsed => c.bus.raise .licenceLapsed i.val
      | _ => c.bus) = { c.bus with toAtu := c.bus.toAtu ++ judgedRequests i (c.own.judged i) } := by
    cases h : (c.own.judged i).state <;> simp [judgedRequests, h, Bus.raise]
  by_cases last : i.val = 31
  · simp only [lcuCellRead, if_pos last]
    exact congrArg (fun b : Bus => { b with
      lcuPtu := b.lcuPtu ++ [LcuToPtu.grant (sentOf (setAt c.own.cells i (c.own.judged i)))]
      toHli := b.toHli ++ [StartUpSource.lcu] }) alarm
  · simp only [lcuCellRead, if_neg last, List.append_nil]
    exact alarm

theorem exec_cellRead {s : State} {i : Fin 32} (hi : s.lcu.startRead = i.val) {d : At Lcu}
    (hd : lcuCellRead i { own := s.lcu, bus := s.bus } = d) :
    exec .licenceCellReadDone s = .next { s with lcu := d.own, bus := d.bus } := by
  have reads : s.lcu.startRead < 32 := hi ▸ i.isLt
  have same : (⟨s.lcu.startRead, reads⟩ : Fin 32) = i := Fin.ext hi
  subst hd
  show execLicenceCellReadDone s = _
  rw [execLicenceCellReadDone, dif_pos reads, same]
  rfl

/-- Settles O22: what `judgeStored` makes of each kind of stored content is what the statement names. -/
theorem startUpReadJudgesEachCell : Obligations.StartUpReadJudgesEachCell := by
  unfold Obligations.StartUpReadJudgesEachCell
  intro s i hi x bad
  have own := lcuCellRead_own i { own := s.lcu, bus := s.bus }
  have bus := lcuCellRead_bus i { own := s.lcu, bus := s.bus }
  generalize hd : lcuCellRead i { own := s.lcu, bus := s.bus } = d at own bus
  have cell : d.own.cells[i] = s.lcu.judged i := by rw [own]; exact setAt_get_self _ _ _
  have table : d.own.cells = setAt s.lcu.cells i (s.lcu.judged i) := by rw [own]
  have unusable : bad ↔ x.Bad (tableIds s.lcu.cells) := by simp only [bad, StoreCell.Bad, mem_tableIds]
  refine ⟨_, exec_cellRead hi hd, rfl, ?_, ?_, ?_, ?_, ?_, ?_⟩
  · rw [cell, table, own, hi]
  · intro erased
    rw [cell, Lcu.judged, judgeStored_erased erased]
    rfl
  · intro occupied h
    rw [cell, Lcu.judged, judgeStored_bad occupied (unusable.1 h)]
  · intro occupied h trial hours
    rw [cell, Lcu.judged, judgeStored_trial occupied (mt unusable.2 h) trial]
  · intro occupied h unlimited
    rw [cell, Lcu.judged, judgeStored_unlimited occupied (mt unusable.2 h) unlimited]
  · rw [cell, table, bus]
    rfl

end Sys2Proof.Machine

/-! PROOFS. The store write queue and the outcome of a store write (R20, R24, R27, R28). -/

namespace Sys2Proof.Machine

open Sys2Proof

/-! ### The end of a task -/

@[simp] theorem endTask_toAtu (b : Bus) (v : Server) (cls : OutcomeClass) (d : Details) :
    (b.endTask v cls d).toAtu = b.toAtu := by rw [endTask_frame]
@[simp] theorem endTask_toSpw (b : Bus) (v : Server) (cls : OutcomeClass) (d : Details) :
    (b.endTask v cls d).toSpw = b.toSpw := by rw [endTask_frame]
@[simp] theorem endTask_lcuPtu (b : Bus) (v : Server) (cls : OutcomeClass) (d : Details) :
    (b.endTask v cls d).lcuPtu = b.lcuPtu := by rw [endTask_frame]

theorem endTask_outcomes {b : Bus} {v : Server} {sv : Service} (cls : OutcomeClass) (d : Details)
    (h : b.service v = some sv) : (b.endTask v cls d).outcomes =
      b.outcomes ++ [{ server := v, anchor := sv.anchor, cls := cls, details := d }] := by
  rw [endTask_of_service cls d h]

@[simp] theorem lcuEnd_own (cls : OutcomeClass) (d : Details) (c : At Lcu) :
    (lcuEnd cls d c).own = { c.own with task := .idle } := rfl
@[simp] theorem lcuEnd_bus (cls : OutcomeClass) (d : Details) (c : At Lcu) :
    (lcuEnd cls d c).bus = c.bus.endTask .lcu cls d := rfl

/-! ### Service of the queue (R24) -/

/-- Service hands over the oldest entry and touches the queue and the LST's entry in progress alone. -/
theorem storeServe_frame (l : Lcu) : storeServe l =
    { l with storeQueue := (storeServe l).storeQueue, lst := { l.lst with busy := (storeServe l).lst.busy } } := by
  rw [storeServe_eq]
  split <;> rfl

/-- A store at rest takes the oldest entry, if there is one. -/
theorem storeServe_of_rest {l : Lcu} (h : l.lst.busy = none) :
    storeServe l = { l with storeQueue := l.storeQueue.tail, lst := { l.lst with busy := l.storeQueue.head? } } := by
  obtain ⟨cells, granted, failed, freeze, queue, withdrawal, task, start, serial, ⟨chassis, store, busy⟩⟩ := l
  cases h
  cases queue <;> rfl

/-- A busy store takes none. -/
theorem storeServe_of_busy {l : Lcu} {e : StoreEntry} (h : l.lst.busy = some e) : storeServe l = l := by
  rw [storeServe_eq, h]

/-! ### The requester told (R27, R28) -/

section told

variable (good : Bool) {e : StoreEntry} {c : At Lcu}

/-- Neither the store nor its queue changes when the requester is told. -/
theorem storeTold_store (e : StoreEntry) (c : At Lcu) :
    (storeTold good e c).own.storeQueue = c.own.storeQueue ∧ (storeTold good e c).own.lst = c.own.lst := by
  unfold storeTold installWritten
  repeat' split
  all_goals exact ⟨rfl, rfl⟩

theorem installWritten_toAtu (i : Fin 32) (r : LicenceRecord) (c : At Lcu) :
    (installWritten good i r c).bus.toAtu = c.bus.toAtu := by
  cases good
  · exact endTask_toAtu _ _ _ _
  · exact endTask_toAtu (sendGrant (lcuTable _ c)).bus _ _ _

theorem storeTold_toAtu (e : StoreEntry) (c : At Lcu) : (storeTold good e c).bus.toAtu = c.bus.toAtu := by
  unfold storeTold
  split
  · split
    · exact installWritten_toAtu good _ _ c
    · rfl
  · split
    · exact endTask_toAtu _ _ _ _
    · rfl
  · rfl

/-- R24: the hour bookkeeping has nothing to do. -/
theorem storeTold_hours (h : e.who = .hourBookkeeping) : storeTold good e c = c := by
  simp only [storeTold, h]

theorem storeTold_installing {r : LicenceRecord} (h : e.who = .task) (task : c.own.task = .installing e.cell r) :
    storeTold good e c = installWritten good e.cell r c := by
  simp only [storeTold, h, task, if_true]

theorem storeTold_erasing {was : CellState} {seats : Nat} (h : e.who = .task)
    (task : c.own.task = .erasing e.cell was seats) :
    storeTold good e c =
      lcuEnd .normal (details e.cell.val (cellStateCode was) seats (if good then 0 else 1)) c := by
  simp only [storeTold, h, task, if_true]

end told

/-! ### The write or erase at its end (R20, R24) -/

/-- The content stands in the store, whole or mixed, the store is at rest and the alarm is asked for; the requester has not
been told yet. -/
def storeLanded (good : Bool) (e : StoreEntry) (c : At Lcu) : At Lcu :=
  let new := storedContent c.bus.freeUsed e.content
  { own := { c.own with lst := { c.own.lst with
      cells := setAt c.own.lst.cells e.cell (if good then new else mixCell c.bus.freeUsed c.own.lst.cells[e.cell] new)
      busy := none } }
    bus := { c.bus with
      toAtu := c.bus.toAtu ++ [{ raised := !good, kind := .licenceStoreDamaged, object := e.cell.val }]
      freeUsed := c.bus.freeUsed + 1 } }

/-- R24: the content lands, the requester is told, and the oldest entry goes to the LST. -/
def storeEnded (good : Bool) (e : StoreEntry) (c : At Lcu) : At Lcu :=
  let d := storeTold good e (storeLanded good e c)
  { own := { d.own with
      storeQueue := c.own.storeQueue.tail
      lst := { (storeLanded good e c).own.lst with busy := c.own.storeQueue.head? } }
    bus := d.bus }

/-- R20: a GOOD write or erase is stored whole. -/
theorem storeEnded_cell (e : StoreEntry) (c : At Lcu) :
    (storeEnded true e c).own.lst.cells[e.cell] = storedContent c.bus.freeUsed e.content :=
  setAt_get_self _ _ _

theorem lcuStoreDone_of_busy (good : Bool) {e : StoreEntry} {c : At Lcu} (h : c.own.lst.busy = some e) :
    lcuStoreDone good c = storeEnded good e c := by
  have told := storeTold_store good e (storeLanded good e c)
  have rest : (storeTold good e (storeLanded good e c)).own.lst.busy = none := by rw [told.2]; rfl
  have done : lcuStoreDone good c =
      { storeTold good e (storeLanded good e c) with
        own := storeServe (storeTold good e (storeLanded good e c)).own } := by
    simp only [lcuStoreDone, h]
    cases good <;> rfl
  rw [done, storeServe_of_rest rest, told.1, told.2]
  rfl

/-- The LCU at work: its own state and the bus, nothing else. -/
theorem onLcu_eq {s : State} {f : At Lcu → At Lcu} {d : At Lcu} (h : f { own := s.lcu, bus := s.bus } = d) :
    s.onLcu f = { s with lcu := d.own, bus := d.bus } := by
  subst h
  rfl

theorem exec_storeWriteDone {s : State} (good : Bool) {e : StoreEntry} (h : s.lcu.lst.busy = some e) {d : At Lcu}
    (hd : storeEnded good e { own := s.lcu, bus := s.bus } = d) :
    exec (.storeWriteDone good) s = .next { s with lcu := d.own, bus := d.bus } :=
  congrArg Host.Outcome.next (onLcu_eq ((lcuStoreDone_of_busy good h).trans hd))

/-- Settles O24: the entry landed in the store, then what each kind of task is told of it. -/
theorem storeWriteOutcomeReachesItsTask : Obligations.StoreWriteOutcomeReachesItsTask := by
  unfold Obligations.StoreWriteOutcomeReachesItsTask
  refine ⟨?_, ?_, ?_⟩
  · intro s good e busy
    refine ⟨_, exec_storeWriteDone good busy rfl, rfl, rfl, rfl, rfl, ?_, ?_, ?_, ?_⟩
    · intro j hj
      exact setAt_get_ne _ _ _ _ (Ne.symm hj)
    · rintro rfl
      have stored := storeEnded_cell e { own := s.lcu, bus := s.bus }
      cases content : e.content <;> (dsimp only; rw [stored, content]; rfl)
    · intro hours
      simp only [storeEnded, storeTold_hours good hours, storeLanded]
    · exact storeTold_toAtu good e _
  · intro s good e r sv busy who task service
    have told := storeTold_installing good (c := storeLanded good e { own := s.lcu, bus := s.bus }) who task
    refine ⟨_, exec_storeWriteDone good busy rfl, ?_⟩
    simp only [storeEnded, told]
    cases good
    · refine ⟨rfl, by simp, fun _ => ⟨rfl, rfl, ?_⟩, endTask_service _ _ _ _, endTask_outcomes _ _ service⟩
      exact endTask_lcuPtu _ _ _ _
    · refine ⟨rfl, fun _ => ⟨rfl, rfl, ?_, ?_⟩, by simp, endTask_service _ _ _ _, ?_⟩
      · exact endTask_lcuPtu _ _ _ _
      · exact endTask_toSpw _ _ _ _
      · exact endTask_outcomes _ _ service
  · intro s good e was seats sv busy who task service
    have told := storeTold_erasing good (c := storeLanded good e { own := s.lcu, bus := s.bus }) who task
    refine ⟨_, exec_storeWriteDone good busy rfl, ?_⟩
    simp only [storeEnded, told]
    exact ⟨rfl, rfl, endTask_service _ _ _ _, endTask_outcomes _ _ service⟩

end Sys2Proof.Machine

/-! PROOFS. LICENCE INSTALL (R26): its data begun, the seven checks, and the write queued. -/

namespace Sys2Proof.Machine

open Sys2Proof

/-! ### Tables searched -/

theorem any_toList_iff {α : Type} {n : Nat} {v : Vector α n} {f : α → Bool} :
    v.toList.any f = true ↔ ∃ j : Fin n, f v[j] = true := by
  simp only [List.any_eq_true, Vector.mem_toList_iff]
  constructor
  · rintro ⟨x, hx, fx⟩
    obtain ⟨j, hj, rfl⟩ := Vector.getElem_of_mem hx
    exact ⟨⟨j, hj⟩, fx⟩
  · rintro ⟨j, fj⟩
    exact ⟨_, Vector.getElem_mem j.isLt, fj⟩

theorem all_toList_iff {α : Type} {n : Nat} {v : Vector α n} {f : α → Bool} :
    v.toList.all f = true ↔ ∀ j : Fin n, f v[j] = true := by
  rw [← not_iff_not, Bool.not_eq_true, List.all_eq_not_any_not, Bool.not_eq_false', any_toList_iff]
  simp

/-- The lowest-numbered entry that f admits. -/
theorem find_indices_eq_some {n : Nat} {f : Fin n → Bool} {i : Fin n} :
    (indices n).find? f = some i ↔ f i = true ∧ ∀ j, j < i → f j = false := by
  simp only [indices, List.find?_eq_some_iff_getElem, List.getElem_finRange, List.length_finRange]
  refine and_congr_right fun _ => ⟨?_, fun h => ⟨i.val, i.isLt, rfl, fun j hj => by simpa using h ⟨j, _⟩ hj⟩⟩
  rintro ⟨k, hk, rfl, lower⟩ j hj
  simpa using lower j.val hj

theorem find_indices_eq_none {n : Nat} {f : Fin n → Bool} : (indices n).find? f = none ↔ ∀ j, f j = false := by
  simp [List.find?_eq_none]

/-! ### A word taken whose data moves (R172) -/

section taken

variable {s : State} {v : Server} {a : Fin 16} {w : TaskWord} {rest : List (Fin 16 × TaskWord)}
  (hq : s.bus.station v = { queue := (a, w) :: rest, service := none })

include hq

theorem oldestWord_of_front : s.oldestWord v = some w :=
  oldestWord_eq_some.2 ⟨by rw [hq], a, rest, by rw [hq]⟩

theorem takeWord_front : s.takeWord v = { s with
    bus := s.bus.setStation v
      { queue := rest, service := some { anchor := some a, word := w, input := [], output := [] } }
    host := { s.host with anchors := updAt s.host.anchors a (fun x => { x with outstanding := .inService }) } } :=
  takeWord_of_queue (by rw [hq])

theorem takeWord_station : (s.takeWord v).bus.station v =
    { queue := rest, service := some { anchor := some a, word := w, input := [], output := [] } } := by
  rw [takeWord_front hq]
  exact setStation_station_self _ _ _

theorem takeWord_service : (s.takeWord v).bus.service v =
    some { anchor := some a, word := w, input := [], output := [] } := by
  rw [Bus.service, takeWord_station hq]

/-- The context of the anchor written once more: the word is in service and its data moves. -/
theorem takeWord_moving (input : Bool) :
    let h := (s.takeWord v).host
    { h with anchors := setAt h.anchors a { h.anchors[a] with move := some (startMovement input w) } } =
      s.host.moving a input w := by
  rw [takeWord_front hq]
  simp only [updAt, setAt_get_self, setAt_setAt]
  rfl

/-- The input of the word just taken is begun: its one area is read, or its first piece fetched. -/
theorem beginInput_taken (hn : w.count.toNat ≠ 0) :
    beginInput v { own := (s.takeWord v).host, bus := (s.takeWord v).bus } =
      { own := s.host.moving a true w
        bus := { (s.takeWord v).bus with accesses := s.bus.accesses ++ [firstRead a w] } } := by
  have accesses : (s.takeWord v).bus.accesses = s.bus.accesses := by rw [takeWord_bus]
  rw [← takeWord_moving hq true, ← accesses]
  simp only [beginInput, takeWord_service hq, hn, if_false]
  cases list : w.list <;> simp only [Bool.false_eq_true, if_false, if_true, firstRead, list] <;> rfl

end taken

/-! ### The seven checks (R26) -/

/-- The record's id is one of the table's. -/
def Lcu.hasRecord (l : Lcu) (r : LicenceRecord) : Prop :=
  ∃ j : Fin 32, (l.cells[j].state = .valid ∨ l.cells[j].state = .lapsed) ∧ licenceId l.cells[j].record = licenceId r

theorem hasRecord_iff {l : Lcu} {r : LicenceRecord} : l.cells.toList.any (fun c =>
    (c.state == .valid || c.state == .lapsed) && licenceId c.record == licenceId r) = true ↔ l.hasRecord r := by
  rw [any_toList_iff]
  simp [Lcu.hasRecord]

section checks

variable {r : LicenceRecord} {l : Lcu}

theorem installCheck_frozen (h : l.freeze = true) : installCheck r l = some (.frozen, false) := by
  rw [installCheck, if_pos h]

variable (thawed : l.freeze = false)

include thawed

theorem installCheck_lockedOut (h : 5 ≤ l.failedInstalls) : installCheck r l = some (.lockedOut, false) := by
  rw [installCheck, if_neg (by simp [thawed]), if_pos h]

variable (open' : l.failedInstalls < 5)

include open'

theorem installCheck_invalid (h : licenceCheckRight r = false) : installCheck r l = some (.invalidLicence, true) := by
  rw [installCheck, if_neg (by simp [thawed]), if_neg (by omega), if_pos (by simp [h])]

variable (right : licenceCheckRight r = true)

include right

theorem installCheck_wrongChassis (h : licenceBinding r ≠ l.serialCopy) :
    installCheck r l = some (.wrongChassis, true) := by
  rw [installCheck, if_neg (by simp [thawed]), if_neg (by omega), if_neg (by simp [right]), if_pos h]

variable (bound : licenceBinding r = l.serialCopy)

include bound

/-- With checks 1 to 4 passed the record itself is judged. -/
theorem installCheck_bound : installCheck r l =
    if licenceKind r = some .base ∨ !licenceWellFormed r then some (.badParameter, false)
    else if l.cells.toList.any (fun c =>
        (c.state == .valid || c.state == .lapsed) && licenceId c.record == licenceId r) then some (.duplicate, false)
    else if l.cells.toList.all (fun c => c.state != .empty) then some (.tableFull, false)
    else none := by
  rw [installCheck, if_neg (by simp [thawed]), if_neg (by omega), if_neg (by simp [right]), if_neg (not_not.2 bound)]

theorem installCheck_badParameter (h : licenceKind r = some .base ∨ licenceWellFormed r = false) :
    installCheck r l = some (.badParameter, false) := by
  rw [installCheck_bound thawed open' right bound, if_pos (by simpa using h)]

variable (kind : licenceKind r ≠ some .base) (formed : licenceWellFormed r = true)

include kind formed

theorem installCheck_duplicate (h : l.hasRecord r) : installCheck r l = some (.duplicate, false) := by
  rw [installCheck_bound thawed open' right bound, if_neg (by simp [kind, formed]), if_pos (hasRecord_iff.2 h)]

variable (new : ¬ l.hasRecord r)

include new

theorem installCheck_tableFull (h : ∀ j : Fin 32, l.cells[j].state ≠ .empty) :
    installCheck r l = some (.tableFull, false) := by
  rw [installCheck_bound thawed open' right bound, if_neg (by simp [kind, formed]), if_neg (mt hasRecord_iff.1 new),
    if_pos (all_toList_iff.2 fun j => by simpa using h j)]

theorem installCheck_passed {i : Fin 32} (h : l.cells[i].state = .empty) : installCheck r l = none := by
  rw [installCheck_bound thawed open' right bound, if_neg (by simp [kind, formed]), if_neg (mt hasRecord_iff.1 new),
    if_neg fun all => absurd h (by simpa using all_toList_iff.1 all i)]

end checks

/-! ### The record judged -/

/-- A refused install changes the failed-install count, which rises by 1 or stands, and nothing else of the table. -/
theorem lcuInstall_refused {r : LicenceRecord} {c : At Lcu} {why : Reason} {counted : Bool}
    (h : installCheck r c.own = some (why, counted)) :
    let l := { c.own with failedInstalls := if counted then c.own.failedInstalls + 1 else c.own.failedInstalls }
    lcuInstall r c = { own := { l with task := .idle }, bus := c.bus.refuse .lcu why (installDetails 32 r l) } := by
  simp only [lcuInstall, h]
  cases counted <;> rfl

theorem lcuInstall_passed {r : LicenceRecord} {c : At Lcu} {i : Fin 32} (h : installCheck r c.own = none)
    (lowest : lowestEmpty c.own.cells = some i) :
    let e : StoreEntry := { cell := i, content := .write (licenceHours r) r, who := .task }
    lcuInstall r c = { c with own := storeRequest e { c.own with task := .installing i r } } := by
  simp only [lcuInstall, h, lowest]

/-- R24: a cell that does not wait is appended, or goes to a store at rest at once. -/
theorem storeRequest_of_new {e : StoreEntry} {l : Lcu} (new : ∀ x ∈ l.storeQueue, x.cell ≠ e.cell)
    (rest : l.lst.busy = none → l.storeQueue = []) :
    let idle := l.lst.busy = none ∧ l.storeQueue = []
    storeRequest e l = { l with
      storeQueue := if idle then [] else l.storeQueue ++ [e]
      lst := { l.lst with busy := if idle then some e else l.lst.busy } } := by
  have merged : storeMerge e l.storeQueue = l.storeQueue ++ [e] := by
    rw [storeMerge, if_neg (by simpa using new)]
  simp only [storeRequest, merged]
  cases busy : l.lst.busy with
  | none =>
    rw [storeServe_of_rest (by simpa using busy)]
    simp [rest busy]
  | some x =>
    rw [storeServe_of_busy (e := x) (by simpa using busy), if_neg (by simp), if_neg (by simp), ← busy]

theorem exec_licenceInstall_complete {s : State} {sv : Service} (service : s.bus.service .lcu = some sv)
    (task : s.lcu.task = .collecting) (all : sv.complete = true) {d : At Lcu}
    (hd : lcuInstall (licenceOf sv.input) { own := s.lcu, bus := s.bus } = d) :
    exec .licenceInstall s = .next { s with lcu := d.own, bus := d.bus } := by
  show execLicenceInstall s = _
  simp only [execLicenceInstall, service, task, all, and_self, if_true]
  exact congrArg Host.Outcome.next (onLcu_eq hd)

/-- Settles O23: each check, in its order, picks the branch that the statement names. -/
theorem licenceInstallIsCheckedInOrder : Obligations.LicenceInstallIsCheckedInOrder := by
  unfold Obligations.LicenceInstallIsCheckedInOrder
  refine ⟨?_, ?_⟩
  · intro s a w rest hq hw hn
    have free : s.bus.service .lcu = none := by rw [Bus.service, hq]
    show execLicenceInstall s = _
    simp only [execLicenceInstall, free, oldestWord_of_front hq, hw, if_true, State.onHost, State.onLcu,
      beginInput_taken hq hn, lcuPhase, takeWord_lcu]
    rw [takeWord_frame]
  · intro s sv service task all r n refusedWith inTable
    have ends {why : Reason} {counted : Bool} (check : installCheck r s.lcu = some (why, counted)) :
        refusedWith why (if counted then n + 1 else n) := by
      dsimp only [refusedWith, n]
      rw [exec_licenceInstall_complete service task all (lcuInstall_refused check)]
      dsimp only [installDetails]
      generalize licenceTier r = tier
      cases tier <;> rfl
    have refused {why : Reason} (check : installCheck r s.lcu = some (why, false)) : refusedWith why n := ends check
    have counted {why : Reason} (check : installCheck r s.lcu = some (why, true)) : refusedWith why (n + 1) := ends check
    refine ⟨fun h => refused (installCheck_frozen h), fun thawed => ⟨fun h => refused (installCheck_lockedOut thawed h),
      fun few => ⟨fun h => counted (installCheck_invalid thawed few h), fun right =>
        ⟨fun h => counted (installCheck_wrongChassis thawed few right h), fun bound =>
          ⟨fun h => refused (installCheck_badParameter thawed few right bound h), fun kind formed =>
            ⟨fun h => refused (installCheck_duplicate thawed few right bound kind formed h), fun new =>
              ⟨fun h => refused (installCheck_tableFull thawed few right bound kind formed new h), ?_⟩⟩⟩⟩⟩⟩⟩
    intro i empty lower waiting e idle rest
    have lowest : lowestEmpty s.lcu.cells = some i :=
      find_indices_eq_some.2 ⟨by simpa using empty, fun j hj => by simpa using lower j hj⟩
    have passed := installCheck_passed thawed few right bound kind formed new empty
    rw [exec_licenceInstall_complete service task all
      (lcuInstall_passed (c := { own := s.lcu, bus := s.bus }) passed lowest)]
    rw [storeRequest_of_new (l := { s.lcu with task := .installing i r }) waiting rest]

end Sys2Proof.Machine

/-! PROOFS. LICENCE REMOVE, LICENCE FREEZE and LICENCE REPORT (R28 to R30). -/

namespace Sys2Proof.Machine

open Sys2Proof

/-! ### A request waits or runs (R24) -/

/-- Whatever is handed over, what waited or ran before still does. -/
theorem storeServe_stores {l : Lcu} {e : StoreEntry} (h : e ∈ l.storeQueue ∨ l.lst.busy = some e) :
    (storeServe l).stores e = true := by
  simp only [Lcu.stores, Bool.or_eq_true, List.contains_iff_mem, beq_iff_eq]
  cases busy : l.lst.busy with
  | some x => rw [storeServe_of_busy busy]; exact h
  | none =>
    rw [storeServe_of_rest busy]
    have waits : e ∈ l.storeQueue := h.resolve_right (by simp [busy])
    cases queue : l.storeQueue with
    | nil => simp [queue] at waits
    | cons x rest =>
      rw [queue] at waits
      rcases List.mem_cons.1 waits with rfl | later
      · exact .inr rfl
      · exact .inl later

/-- A merged request stands in the queue with its content. -/
theorem storeMerge_mem (e : StoreEntry) (q : List StoreEntry) :
    ∃ x ∈ storeMerge e q, x.cell = e.cell ∧ x.content = e.content ∧ (e.who = .task → x = e) := by
  unfold storeMerge
  split
  next waits =>
    simp only [List.any_eq_true, decide_eq_true_eq] at waits
    obtain ⟨x, hx, cell⟩ := waits
    refine ⟨_, List.mem_map.2 ⟨x, hx, if_pos cell⟩, rfl, rfl, fun task => ?_⟩
    rw [if_pos task, ← task]
  next => exact ⟨e, by simp, rfl, rfl, fun _ => rfl⟩

/-- R24: the content asked for waits or runs. -/
theorem storeRequest_stores (e : StoreEntry) (l : Lcu) :
    ∃ x, (storeRequest e l).stores x = true ∧ x.cell = e.cell ∧ x.content = e.content ∧ (e.who = .task → x = e) := by
  obtain ⟨x, hx, same⟩ := storeMerge_mem e l.storeQueue
  exact ⟨x, storeServe_stores (.inl hx), same⟩

/-- A request touches the queue and the LST's entry in progress alone. -/
theorem storeRequest_frame (e : StoreEntry) (l : Lcu) : storeRequest e l =
    { l with
      storeQueue := (storeRequest e l).storeQueue, lst := { l.lst with busy := (storeRequest e l).lst.busy } } :=
  storeServe_frame _

/-! ### The cell that a record id names (R28) -/

section named

variable {id : Word} {cells : Vector LicenceCell 32}

/-- A record of the table. -/
def LicenceCell.Live (c : LicenceCell) : Prop := c.state = .valid ∨ c.state = .lapsed

theorem removeMatch_live {i : Fin 32} (live : cells[i].Live) (named : licenceId cells[i].record = id)
    (only : ∀ j : Fin 32, cells[j].Live → licenceId cells[j].record = id → j = i) :
    removeMatch id cells = some i := by
  have found : (indices 32).find? (fun i => (cells[i].state == .valid || cells[i].state == .lapsed) &&
      licenceId cells[i].record == id) = some i := by
    refine find_indices_eq_some.2 ⟨by simpa [-Fin.getElem_fin, named, LicenceCell.Live] using live, fun j hj => ?_⟩
    by_contra other
    simp only [Bool.not_eq_false, Bool.and_eq_true, Bool.or_eq_true, beq_iff_eq] at other
    exact absurd (only j other.1 other.2) (ne_of_lt hj)
  simp only [removeMatch, found]

theorem noLive_found (dead : ∀ j : Fin 32, cells[j].Live → licenceId cells[j].record ≠ id) :
    (indices 32).find? (fun i => (cells[i].state == .valid || cells[i].state == .lapsed) &&
      licenceId cells[i].record == id) = none := by
  refine find_indices_eq_none.2 fun j => ?_
  by_contra live
  simp only [Bool.not_eq_false, Bool.and_eq_true, Bool.or_eq_true, beq_iff_eq] at live
  exact dead j live.1 live.2

theorem removeMatch_damaged {i : Fin 32} (damaged : cells[i].state = .damaged)
    (named : licenceId cells[i].record = id)
    (dead : ∀ j : Fin 32, cells[j].Live → licenceId cells[j].record ≠ id)
    (lowest : ∀ j : Fin 32, j < i → cells[j].state = .damaged → licenceId cells[j].record ≠ id) :
    removeMatch id cells = some i := by
  simp only [removeMatch, noLive_found dead]
  exact find_indices_eq_some.2 ⟨by simp [-Fin.getElem_fin, damaged, named], fun j hj => by simpa using lowest j hj⟩

theorem removeMatch_none (h : ∀ j : Fin 32, licenceId cells[j].record = id → cells[j].state = .empty) :
    removeMatch id cells = none := by
  have dead : ∀ j : Fin 32, cells[j].Live → licenceId cells[j].record ≠ id := fun j live named => by
    have := h j named
    rcases live with e | e <;> rw [e] at this <;> cases this
  simp only [removeMatch, noLive_found dead]
  refine find_indices_eq_none.2 fun j => ?_
  by_cases named : licenceId cells[j].record = id
  · simp [-Fin.getElem_fin, h j named]
  · simp [-Fin.getElem_fin, named]

end named

/-! ### The removal (R28) -/

theorem resumeRemove_waiting {id : Word} {c : At Lcu} (task : c.own.task = .removeWaiting id)
    (idle : c.own.withdrawal = .idle) : resumeRemove c = lcuRemove id c := by
  simp only [resumeRemove, task, idle, if_true]

section removal

variable {id : Word} {c : At Lcu} (thawed : c.own.freeze = false)

include thawed

theorem lcuRemove_notFound (h : removeMatch id c.own.cells = none) :
    lcuRemove id c = lcuEnd (.refused .notFound) (details 32 0 0 0) c := by
  simp only [lcuRemove, thawed, Bool.false_eq_true, if_false, h]

variable {i : Fin 32} (found : removeMatch id c.own.cells = some i)

include found

theorem lcuRemove_protected (kept : c.own.cells[i].state ≠ .damaged)
    (base : licenceKind c.own.cells[i].record = some .base) :
    lcuRemove id c =
      lcuEnd (.refused .protectedCell) (details i.val (cellStateCode c.own.cells[i].state) 0 0) c := by
  simp only [lcuRemove, thawed, Bool.false_eq_true, if_false, found]
  rw [if_pos ⟨kept, base⟩]

theorem lcuRemove_valid (valid : c.own.cells[i].state = .valid)
    (free : licenceKind c.own.cells[i].record ≠ some .base) :
    let cells := setAt c.own.cells i { c.own.cells[i] with withdrawing := true }
    lcuRemove id c =
      { own := { c.own with cells := cells, task := .removeWithdrawing i, withdrawal := .removal i }
        bus := c.bus.sendLcuPtu (.withdrawal (sentOf cells)) } := by
  simp only [lcuRemove, thawed, Bool.false_eq_true, if_false, found]
  rw [if_neg fun h => free h.2, if_pos valid]
  rfl

/-- R28: a cell that grants no seats is emptied at once, and its alarm cleared. -/
theorem lcuRemove_dead (h : c.own.cells[i].state = .damaged ∨
      (c.own.cells[i].state = .lapsed ∧ licenceKind c.own.cells[i].record ≠ some .base)) :
    lcuRemove id c = queueErase i c.own.cells[i].state 0 (emptyCell i { c with bus := { c.bus with
      toAtu := c.bus.toAtu ++ (if c.own.cells[i].state = .lapsed then
        [{ raised := false, kind := .licenceLapsed, object := i.val }] else []) } }) := by
  simp only [lcuRemove, thawed, Bool.false_eq_true, if_false, found]
  rcases h with h | ⟨h, free⟩
  · simp only [h, ne_eq, not_true_eq_false, false_and, reduceCtorEq, if_false, List.append_nil]
  · simp only [h, free, and_false, reduceCtorEq, if_false, if_true]
    rfl

end removal

/-- A cell emptied, and its erase queued: what becomes of the LCU. -/
theorem erased_own (i : Fin 32) (was : CellState) (seats : Nat) (c : At Lcu) :
    let d := queueErase i was seats (emptyCell i c)
    d.own = { c.own with
        task := .erasing i was seats
        cells := setAt c.own.cells i licenceCellPowerOn, granted := grantedOf (setAt c.own.cells i licenceCellPowerOn)
        storeQueue := d.own.storeQueue, lst := { c.own.lst with busy := d.own.lst.busy } } ∧
      d.own.stores { cell := i, content := .erase, who := .task } = true ∧
      d.bus = { c.bus with toSpw := c.bus.toSpw ++ [.licenceSummary] } := by
  refine ⟨storeRequest_frame _ _, ?_, rfl⟩
  obtain ⟨x, stored, -, -, same⟩ := storeRequest_stores { cell := i, content := .erase, who := .task }
    { (emptyCell i c).own with task := .erasing i was seats }
  exact same rfl ▸ stored

/-! ### The report (R30) -/

theorem toLe_length (len n : Nat) : (toLe len n).length = len := by
  induction len generalizing n with
  | zero => rfl
  | succ len ih => simp [toLe, ih]

theorem licenceEntryBytes_length (i : Fin 32) (c : LicenceCell) : (licenceEntryBytes i c).length = 72 := by
  simp [licenceEntryBytes, toLe_length, zerosLe]

/-- The cells that a report shows. -/
def reportedCells (cells : Vector LicenceCell 32) : List (Fin 32) :=
  (indices 32).filter (fun i => cells[i].state ≠ .empty)

theorem reportBytes_eq (cells : Vector LicenceCell 32) :
    reportBytes cells = (reportedCells cells).flatMap (fun i => licenceEntryBytes i cells[i]) := by
  unfold reportBytes reportedCells
  induction indices 32 with
  | nil => rfl
  | cons i is ih =>
    rw [List.map_cons, List.flatten_cons, ih, List.filter_cons]
    by_cases h : cells[i].state = .empty <;> simp [-Fin.getElem_fin, h]

theorem nonEmptyCells_eq (cells : Vector LicenceCell 32) :
    nonEmptyCells cells = (indices 32).countP (fun i => cells[i].state ≠ .empty) := by
  have listed : cells.toList = (indices 32).map (fun i => cells[i]) := by
    apply List.ext_getElem <;> simp [indices]
  rw [nonEmptyCells, listed, List.countP_map]
  exact List.countP_congr fun i _ => by simp

theorem reportBytes_length (cells : Vector LicenceCell 32) :
    (reportBytes cells).length = 72 * (indices 32).countP (fun i => cells[i].state ≠ .empty) := by
  rw [reportBytes_eq, List.length_flatMap, List.countP_eq_length_filter, ← reportedCells]
  simp [licenceEntryBytes_length, mul_comm]

/-- A report of a table that is not empty has something to write, unless its count is 0. -/
theorem nothingToWrite_report {w : TaskWord} {cells : Vector LicenceCell 32} {i : Fin 32} (hn : w.count ≠ 0)
    (occupied : cells[i].state ≠ .empty) : nothingToWrite w (reportBytes cells) = false := by
  have shown : 0 < (indices 32).countP (fun i => cells[i].state ≠ .empty) :=
    List.countP_pos_iff.2 ⟨i, mem_indices i, by simpa using occupied⟩
  have long : 0 < (reportBytes cells).length := by rw [reportBytes_length]; omega
  have count : w.count.toNat ≠ 0 := fun e => hn (BitVec.eq_of_toNat_eq e)
  simp [nothingToWrite, List.ne_nil_of_length_pos long, count]

/-- R173: the output of the word just taken is handed over, and its movement begun. -/
theorem beginOutput_taken {v : Server} {c : At HostSide} {a : Fin 16} {w : TaskWord} {out : List Byte} {st : Station}
    (station : c.bus.station v = st)
    (service : st.service = some { anchor := some a, word := w, input := [], output := [] })
    (some' : nothingToWrite w out = false) :
    (beginOutput v out c).bus.station v =
        { st with service := some { anchor := some a, word := w, input := [], output := out } } ∧
      (beginOutput v out c).bus = { c.bus with
        stations := (beginOutput v out c).bus.stations, accesses := c.bus.accesses ++ [firstWrite a w out] } := by
  have serving : c.bus.service v = some { anchor := some a, word := w, input := [], output := [] } := by
    rw [Bus.service, station, service]
  simp only [beginOutput, serving, some', station, Bool.false_eq_true, if_false]
  cases list : w.list <;> simp only [Bool.false_eq_true, if_false, if_true, firstWrite, list]
  · exact ⟨setStation_station_self _ _ _, rfl⟩
  · exact ⟨setStation_station_self _ _ _, rfl⟩

/-! ### The tasks of the word at the front -/

section front

variable {s : State} {a : Fin 16} {w : TaskWord} {rest : List (Fin 16 × TaskWord)}
  (hq : s.bus.station .lcu = { queue := (a, w) :: rest, service := none })

include hq

/-- R28: with no withdrawal outstanding the removal makes its checks at once. -/
theorem exec_licenceRemove (hw : w.is .licenceRemove = true) (idle : s.lcu.withdrawal = .idle) {d : At Lcu}
    (hd : lcuRemove w.param { own := { s.lcu with task := .removeWaiting w.param }, bus := (s.takeWord .lcu).bus } = d) :
    exec .licenceRemove s = .next { s.takeWord .lcu with lcu := d.own, bus := d.bus } := by
  show execLicenceRemove s = _
  simp only [execLicenceRemove, oldestWord_of_front hq, hw, if_true]
  refine congrArg Host.Outcome.next (onLcu_eq ?_)
  rw [takeWord_lcu]
  exact (resumeRemove_waiting rfl idle).trans hd

theorem exec_licenceFreeze (hw : w.is .licenceFreeze = true) {d : At Lcu}
    (hd : lcuFreeze { own := s.lcu, bus := (s.takeWord .lcu).bus } = d) :
    exec .licenceFreeze s = .next { s.takeWord .lcu with lcu := d.own, bus := d.bus } := by
  show execLicenceFreeze s = _
  simp only [execLicenceFreeze, oldestWord_of_front hq, hw, if_true]
  exact congrArg Host.Outcome.next (onLcu_eq (by rw [takeWord_lcu]; exact hd))

/-- R30: a report with something to write hands its output over. -/
theorem exec_licenceReport (hw : w.is .licenceReport = true)
    (some' : nothingToWrite w (reportBytes s.lcu.cells) = false) :
    let h := beginOutput .lcu (reportBytes s.lcu.cells) { own := (s.takeWord .lcu).host, bus := (s.takeWord .lcu).bus }
    exec .licenceReport s = .next { s with
      lcu := { s.lcu with task := .reporting (nonEmptyCells s.lcu.cells) }, host := h.own, bus := h.bus } := by
  show execLicenceReport s = _
  simp only [execLicenceReport, oldestWord_of_front hq, hw, if_true, some', Bool.false_eq_true, if_false, State.onHost,
    State.onLcu, lcuPhase, takeWord_lcu]
  rw [takeWord_frame]

end front

/-- Settles O25: `removeMatch` picks the statement's cell, and the cell's state picks the branch of `lcuRemove`. -/
theorem removeFreezeAndReportGoByTheTable : Obligations.RemoveFreezeAndReportGoByTheTable := by
  unfold Obligations.RemoveFreezeAndReportGoByTheTable
  refine ⟨?_, ?_⟩
  · intro s a w rest hq hw idle thawed named live only base taken
    have frame : taken.lcu = s.lcu := takeWord_lcu s .lcu
    have found {i : Fin 32} (h : only i) : removeMatch w.param s.lcu.cells = some i := by
      obtain ⟨hi, ⟨alive, one⟩ | ⟨damaged, dead, lowest⟩⟩ := h
      · exact removeMatch_live alive hi one
      · exact removeMatch_damaged damaged hi dead lowest
    refine ⟨fun h => ?_, fun i h prot kept => ?_, fun i h free valid => ?_, fun i h dead => ?_⟩
    · exact exec_licenceRemove hq hw idle (lcuRemove_notFound thawed (removeMatch_none h))
    · exact exec_licenceRemove hq hw idle (lcuRemove_protected thawed (found h) kept prot)
    · have sent : taken.bus.lcuPtu = s.bus.lcuPtu := by rw [takeWord_bus]
      intro cells
      rw [exec_licenceRemove hq hw idle (lcuRemove_valid thawed (found h) valid free), ← sent]
      rfl
    · have marks : taken.bus.toSpw = s.bus.toSpw := by rw [takeWord_bus]
      have alarms : taken.bus.toAtu = s.bus.toAtu := by rw [takeWord_bus]
      have run := exec_licenceRemove hq hw idle (lcuRemove_dead thawed (found h) dead)
      obtain ⟨own, stored, bus⟩ := erased_own i s.lcu.cells[i].state 0
        { own := { s.lcu with task := .removeWaiting w.param }
          bus := { taken.bus with toAtu := taken.bus.toAtu ++ (if s.lcu.cells[i].state = .lapsed then
            [{ raised := false, kind := .licenceLapsed, object := i.val }] else []) } }
      have cells := congrArg Lcu.cells own
      refine ⟨_, run, rfl, ?_, ?_, fun j hj => ?_, stored, ?_⟩
      · exact cells ▸ own
      · exact (congrArg (fun v => v[i].state) cells).trans (congrArg LicenceCell.state (setAt_get_self _ _ _))
      · exact (congrArg (fun v => v[j]) cells).trans (setAt_get_ne _ _ _ _ (Ne.symm hj))
      · exact bus.trans (by rw [← marks, ← alarms])
  · intro s a w rest hq
    refine ⟨fun hw => exec_licenceFreeze hq hw rfl, fun hw hn ⟨i, occupied⟩ => ?_⟩
    have out : nothingToWrite w (reportBytes s.lcu.cells) = false :=
      nothingToWrite_report hn occupied
    obtain ⟨station, bus⟩ := beginOutput_taken (c := { own := (s.takeWord .lcu).host, bus := (s.takeWord .lcu).bus })
      (takeWord_station hq) rfl out
    refine ⟨_, _, exec_licenceReport hq hw out, rfl, nonEmptyCells_eq _, ?_, ?_,
      { anchor := some a, word := w, input := [], output := reportBytes s.lcu.cells }, ?_, rfl, rfl, ?_, ?_⟩
    · exact congrArg Station.queue station
    · have kept : (s.takeWord .lcu).bus.outcomes = s.bus.outcomes := by rw [takeWord_bus]
      exact (congrArg Bus.outcomes bus).trans kept
    · exact congrArg Station.service station
    · rw [nonEmptyCells_eq]
      exact reportBytes_length _
    · exact reportBytes_eq _

end Sys2Proof.Machine

/-! PROOFS. Trial hours, lapses and the answers to withdrawals (R25, R28, R31, R32). -/

namespace Sys2Proof.Machine

open Sys2Proof

/-! ### Some entries of a table changed -/

/-- The entries that the list names, changed by f. -/
def mapOn {α : Type} {n : Nat} (f : α → α) (is : List (Fin n)) (v : Vector α n) : Vector α n :=
  Vector.ofFn fun j => if j ∈ is then f v[j] else v[j]

theorem mapOn_get {α : Type} {n : Nat} (f : α → α) (is : List (Fin n)) (v : Vector α n) (j : Fin n) :
    (mapOn f is v)[j] = if j ∈ is then f v[j] else v[j] := by
  simp [mapOn]

theorem mapOn_nil {α : Type} {n : Nat} (f : α → α) (v : Vector α n) : mapOn f [] v = v := by
  ext j hj
  simp [mapOn]

theorem mapOn_indices {α : Type} {n : Nat} (f : α → α) (v : Vector α n) : mapOn f (indices n) v = v.map f := by
  ext j hj
  simp [mapOn]

/-- One entry after the other, each listed once. -/
theorem mapOn_setAt {α : Type} {n : Nat} (f : α → α) {i : Fin n} {is : List (Fin n)} (hi : i ∉ is) (v : Vector α n) :
    mapOn f is (setAt v i (f v[i])) = mapOn f (i :: is) v := by
  ext j hj
  have at' (w : List (Fin n)) (u : Vector α n) := mapOn_get f w u ⟨j, hj⟩
  simp only [Fin.getElem_fin] at at'
  rw [at', at', ← Fin.getElem_fin (setAt v i _) ⟨j, hj⟩, setAt_get]
  by_cases e : i = ⟨j, hj⟩
  · subst e
    simp [hi]
  · simp [e, Ne.symm e]

/-! ### A content asked of the store (R24) -/

/-- A write or an erase of cell i with this content waits or runs. -/
def Lcu.Asks (l : Lcu) (i : Fin 32) (x : StoreContent) : Prop := ∃ e, l.stores e = true ∧ e.cell = i ∧ e.content = x

theorem stores_iff {l : Lcu} {e : StoreEntry} : l.stores e = true ↔ e ∈ l.storeQueue ∨ l.lst.busy = some e := by
  simp [Lcu.stores]

theorem storeRequest_asks (e : StoreEntry) (l : Lcu) : (storeRequest e l).Asks e.cell e.content := by
  obtain ⟨x, stored, cell, content, -⟩ := storeRequest_stores e l
  exact ⟨x, stored, cell, content⟩

/-- A request for another cell leaves what is asked. -/
theorem Lcu.Asks.request {l : Lcu} {i : Fin 32} {x : StoreContent} (h : l.Asks i x) {e : StoreEntry}
    (other : e.cell ≠ i) : (storeRequest e l).Asks i x := by
  obtain ⟨y, stored, rfl, content⟩ := h
  refine ⟨y, storeServe_stores ((stores_iff.1 stored).imp (fun waits => ?_) id), rfl, content⟩
  show y ∈ storeMerge e l.storeQueue
  unfold storeMerge
  split
  · exact List.mem_map.2 ⟨y, waits, if_neg (Ne.symm other)⟩
  · exact List.mem_append_left _ waits

/-! ### The hour tick (R31) -/

/-- The cell loses an hour. -/
def LicenceCell.counts (x : LicenceCell) : Prop :=
  x.state = .valid ∧ licenceKind x.record = some .trial ∧ 1 ≤ x.hours ∧ x.withdrawing = false

/-- The cell an hour later. -/
def LicenceCell.later (x : LicenceCell) : LicenceCell :=
  if x.state = .valid ∧ licenceKind x.record = some .trial ∧ 1 ≤ x.hours ∧ x.withdrawing = false
  then { x with hours := x.hours - 1 } else x

theorem hourCell_of_counts {l : Lcu} {i : Fin 32} (h : l.cells[i].counts) : hourCell l i =
    storeRequest
      { cell := i, content := .write (l.cells[i].hours - 1) l.cells[i].record, who := .hourBookkeeping }
      { l with cells := setAt l.cells i { l.cells[i] with hours := l.cells[i].hours - 1 } } := by
  obtain ⟨valid, trial, hours, free⟩ := h
  unfold hourCell
  dsimp only
  rw [if_pos ⟨valid, trial, hours, by simp [-Fin.getElem_fin, free]⟩]

theorem hourCell_of_not {l : Lcu} {i : Fin 32} (h : ¬ l.cells[i].counts) : hourCell l i = l := by
  unfold hourCell
  dsimp only
  rw [if_neg]
  rintro ⟨valid, trial, hours, free⟩
  exact h ⟨valid, trial, hours, by simpa using free⟩

theorem later_of_counts {x : LicenceCell} (h : x.counts) : x.later = { x with hours := x.hours - 1 } := if_pos h

theorem later_of_not {x : LicenceCell} (h : ¬ x.counts) : x.later = x := if_neg h

/-- The hour of one cell touches the cell and the store alone. -/
theorem hourCell_frame (l : Lcu) (i : Fin 32) : hourCell l i = { l with
    cells := setAt l.cells i l.cells[i].later
    storeQueue := (hourCell l i).storeQueue, lst := { l.lst with busy := (hourCell l i).lst.busy } } := by
  by_cases h : l.cells[i].counts
  · rw [hourCell_of_counts h, later_of_counts h]
    exact storeRequest_frame _ _
  · rw [hourCell_of_not h, later_of_not h, setAt_self]

theorem hourCells_frame {is : List (Fin 32)} (once : is.Nodup) (l : Lcu) : is.foldl hourCell l = { l with
    cells := mapOn LicenceCell.later is l.cells
    storeQueue := (is.foldl hourCell l).storeQueue
    lst := { l.lst with busy := (is.foldl hourCell l).lst.busy } } := by
  induction is generalizing l with
  | nil => rw [mapOn_nil]; rfl
  | cons i is ih =>
    obtain ⟨hi, once⟩ := List.nodup_cons.1 once
    rw [List.foldl_cons, ih once, ← mapOn_setAt _ hi]
    generalize is.foldl hourCell (hourCell l i) = m
    rw [hourCell_frame l i]

theorem hourCell_asks {l : Lcu} {i : Fin 32} (h : l.cells[i].counts) :
    (hourCell l i).Asks i (.write (l.cells[i].hours - 1) l.cells[i].record) := by
  rw [hourCell_of_counts h]
  exact storeRequest_asks _ _

theorem Lcu.Asks.hour {l : Lcu} {i j : Fin 32} {x : StoreContent} (h : l.Asks i x) (other : j ≠ i) :
    (hourCell l j).Asks i x := by
  by_cases hj : l.cells[j].counts
  · rw [hourCell_of_counts hj]
    have asked : { l with cells := setAt l.cells j { l.cells[j] with hours := l.cells[j].hours - 1 } : Lcu }.Asks i x := h
    exact asked.request other
  · rwa [hourCell_of_not hj]

/-- R31: the write of each cell that lost an hour is asked for, and no later cell's replaces it. -/
theorem hourCells_ask {is : List (Fin 32)} (once : is.Nodup) {l : Lcu} {i : Fin 32} (hi : i ∈ is)
    (h : l.cells[i].counts) :
    (is.foldl hourCell l).Asks i (.write (l.cells[i].hours - 1) l.cells[i].record) := by
  have kept (is : List (Fin 32)) (x : StoreContent) : i ∉ is → ∀ l : Lcu, l.Asks i x → (is.foldl hourCell l).Asks i x := by
    induction is with
    | nil => exact fun _ _ asked => asked
    | cons j is ih =>
      intro hi l asked
      obtain ⟨hj, hi⟩ := not_or.1 (List.mem_cons.not.1 hi)
      exact ih hi _ (asked.hour (Ne.symm hj))
  induction is generalizing l with
  | nil => cases hi
  | cons j is ih =>
    obtain ⟨hj, once⟩ := List.nodup_cons.1 once
    rw [List.foldl_cons]
    rcases List.mem_cons.1 hi with rfl | hi
    · exact kept is _ hj _ (hourCell_asks h)
    · have same : (hourCell l j).cells[i] = l.cells[i] := by
        rw [hourCell_frame]
        exact setAt_get_ne _ _ _ _ (fun e => hj (e ▸ hi))
      rw [← same]
      exact ih once hi (same ▸ h)

/-! ### Lapses sent (R25, R31) -/

theorem lapseDue_iff {x : LicenceCell} : lapseDue x = true ↔
    x.state = .valid ∧ licenceKind x.record = some .trial ∧ x.hours = 0 ∧ x.withdrawing = false := by
  simp [lapseDue, and_assoc]

/-- The cell with the mark of the withdrawal that its lapse waits for. -/
def LicenceCell.marked (x : LicenceCell) : LicenceCell :=
  if x.state = .valid ∧ licenceKind x.record = some .trial ∧ x.hours = 0 ∧ x.withdrawing = false
  then { x with withdrawing := true } else x

theorem sendLapses_due {c : At Lcu} (idle : c.own.withdrawal = .idle)
    (due : ∃ i : Fin 32, lapseDue c.own.cells[i] = true) : sendLapses c =
      { own := { c.own with cells := c.own.cells.map LicenceCell.marked, withdrawal := .lapse }
        bus := c.bus.sendLcuPtu (.withdrawal (sentOf (c.own.cells.map LicenceCell.marked))) } := by
  have marks : (fun x => if lapseDue x then { x with withdrawing := true } else x) = LicenceCell.marked :=
    funext fun x => if_congr lapseDue_iff rfl rfl
  unfold sendLapses
  rw [if_pos ⟨idle, any_toList_iff.2 due⟩, marks]
  rfl

theorem sendLapses_not {c : At Lcu}
    (h : ¬ (c.own.withdrawal = .idle ∧ ∃ i : Fin 32, lapseDue c.own.cells[i] = true)) : sendLapses c = c := by
  rw [← any_toList_iff] at h
  exact if_neg h

theorem sendLapses_none {c : At Lcu} (h : ∀ i : Fin 32, lapseDue c.own.cells[i] = false) : sendLapses c = c :=
  sendLapses_not fun ⟨_, i, due⟩ => by rw [h i] at due; cases due

theorem exec_hourTick {s : State} {n : Nat} (h : s.bus.hourTicks = n + 1) {d : At Lcu}
    (hd : lcuHour { own := s.lcu, bus := { s.bus with hourTicks := n } } = d) :
    exec .hourTick s = .next { s with lcu := d.own, bus := d.bus } := by
  show execHourTick s = _
  simp only [execHourTick, h]
  exact congrArg Host.Outcome.next (onLcu_eq (s := s.withBus { s.bus with hourTicks := n }) hd)

/-! ### The answer to a withdrawal (R25, R28, R32) -/

/-- A cell after the answer: a withdrawn one has lapsed. -/
def LicenceCell.answered (x : LicenceCell) : LicenceCell :=
  if x.withdrawing then { x with state := .lapsed, withdrawing := false } else x

theorem lapseCell_eq (c : At Lcu) (i : Fin 32) : lapseCell c i =
    { own := { c.own with cells := setAt c.own.cells i c.own.cells[i].answered }
      bus := { c.bus with toAtu := c.bus.toAtu ++ (if c.own.cells[i].withdrawing then
        [{ raised := true, kind := .licenceLapsed, object := i.val }] else []) } } := by
  unfold lapseCell LicenceCell.answered
  dsimp only
  split_ifs
  · rfl
  · rw [setAt_self, List.append_nil]

theorem lapseCells_eq {is : List (Fin 32)} (once : is.Nodup) (c : At Lcu) : is.foldl lapseCell c =
    { own := { c.own with cells := mapOn LicenceCell.answered is c.own.cells }
      bus := { c.bus with
        toAtu := c.bus.toAtu ++ (is.filter (fun i => c.own.cells[i].withdrawing)).map
          (fun i => { raised := true, kind := .licenceLapsed, object := i.val }) } } := by
  induction is generalizing c with
  | nil => simp [mapOn_nil]
  | cons i is ih =>
    obtain ⟨hi, once⟩ := List.nodup_cons.1 once
    have later : is.filter (fun j => (lapseCell c i).own.cells[j].withdrawing) =
        is.filter (fun j => c.own.cells[j].withdrawing) := by
      refine List.filter_congr fun j hj => ?_
      rw [lapseCell_eq, setAt_get_ne _ _ _ _ (fun e : i = j => hi (e ▸ hj))]
    rw [List.foldl_cons, ih once, later, ← mapOn_setAt _ hi, lapseCell_eq, List.filter_cons]
    split_ifs <;> simp

/-- An answered cell is not due to lapse, unless it was before. -/
theorem answered_notDue {x : LicenceCell} (h : x.withdrawing = false → lapseDue x = false) :
    lapseDue x.answered = false := by
  unfold LicenceCell.answered
  split_ifs with withdrawn
  · rfl
  · exact h (by simpa using withdrawn)

theorem resumeRemove_of_not {c : At Lcu} (h : ∀ id, c.own.task ≠ .removeWaiting id) : resumeRemove c = c := by
  unfold resumeRemove
  split
  next id task => exact absurd task (h id)
  next => rfl

theorem exec_withdrawalAnswer {s : State} {n : Nat} (h : s.bus.ptuLcu = n + 1) {d : At Lcu}
    (hd : lcuAnswer { own := s.lcu, bus := { s.bus with ptuLcu := n } } = d) :
    exec .withdrawalAnswer s = .next { s with lcu := d.own, bus := d.bus } := by
  show execWithdrawalAnswer s = _
  simp only [execWithdrawalAnswer, h]
  exact congrArg Host.Outcome.next (onLcu_eq (s := s.withBus { s.bus with ptuLcu := n }) hd)

/-- R25: with nothing held behind it the answer is applied and no more. -/
theorem lcuAnswer_alone {c d : At Lcu} (applied : applyAnswer c = d)
    (due : ∀ i : Fin 32, lapseDue d.own.cells[i] = false) (task : ∀ id, d.own.task ≠ .removeWaiting id) :
    lcuAnswer c = d := by
  rw [lcuAnswer, applied, sendLapses_none due, resumeRemove_of_not task]

theorem applyAnswer_lapse {c : At Lcu} (h : c.own.withdrawal = .lapse) : applyAnswer c =
    let cells := c.own.cells.map LicenceCell.answered
    { own := { c.own with withdrawal := .idle, cells := cells, granted := grantedOf cells }
      bus := { c.bus with
        toAtu := c.bus.toAtu ++ ((indices 32).filter (fun i => c.own.cells[i].withdrawing)).map
          (fun i => { raised := true, kind := .licenceLapsed, object := i.val })
        toSpw := c.bus.toSpw ++ [.licenceSummary] } } := by
  simp only [applyAnswer, h, lapseCells_eq (indices_nodup 32), mapOn_indices]
  rfl

theorem applyAnswer_removal {c : At Lcu} {i : Fin 32} (h : c.own.withdrawal = .removal i) : applyAnswer c =
    queueErase i .valid (licenceSeats c.own.cells[i].record)
      (emptyCell i { c with own := { c.own with withdrawal := .idle } }) := by
  simp only [applyAnswer, h]

/-- Settles O26: the hour is a map over the cells; an answer is `applyAnswer` with no lapse left to send. -/
theorem hoursLapseThroughAWithdrawal : Obligations.HoursLapseThroughAWithdrawal := by
  unfold Obligations.HoursLapseThroughAWithdrawal
  refine ⟨?_, ?_, ?_⟩
  · intro s n ticks counts later due sends
    have frame := hourCells_frame (indices_nodup 32) s.lcu
    have asks (i : Fin 32) (h : counts s.lcu.cells[i]) := hourCells_ask (indices_nodup 32) (mem_indices i) h
    rw [mapOn_indices] at frame
    generalize hm : (indices 32).foldl hourCell s.lcu = m at frame asks
    have cells : m.cells = later := by rw [frame]; rfl
    have withdrawal : m.withdrawal = s.lcu.withdrawal := by rw [frame]
    have sent : (m.withdrawal = .idle ∧ ∃ i : Fin 32, lapseDue m.cells[i] = true) ↔ sends := by
      simp only [lapseDue_iff, cells, withdrawal]
      rfl
    have hour : lcuHour { own := s.lcu, bus := { s.bus with hourTicks := n } } =
        sendLapses { own := m, bus := { s.bus with hourTicks := n } } := by rw [← hm]; rfl
    by_cases h : sends
    · rw [sendLapses_due (sent.2 h).1 (sent.2 h).2] at hour
      refine ⟨_, exec_hourTick ticks hour, rfl, ?_, asks, ?_⟩
      · simp only [if_pos h]
        rw [frame]
        rfl
      · simp only [if_pos h]
        rfl
    · rw [sendLapses_not (mt sent.1 h)] at hour
      refine ⟨_, exec_hourTick ticks hour, rfl, ?_, asks, ?_⟩
      · simp only [if_neg h]
        exact frame
      · simp only [if_neg h, List.append_nil]
  · intro s n answers lapse notDue waits cells
    refine exec_withdrawalAnswer answers (lcuAnswer_alone (applyAnswer_lapse lapse) (fun i => ?_) waits)
    simpa using answered_notDue (notDue i)
  · intro s n i answers removal notDue
    obtain ⟨own, stored, bus⟩ := erased_own i .valid (licenceSeats s.lcu.cells[i].record)
      { own := { s.lcu with withdrawal := .idle }, bus := { s.bus with ptuLcu := n } }
    generalize hd : queueErase i .valid (licenceSeats s.lcu.cells[i].record)
      (emptyCell i { own := { s.lcu with withdrawal := .idle }, bus := { s.bus with ptuLcu := n } }) = d at own stored bus
    have cells : d.own.cells = setAt s.lcu.cells i licenceCellPowerOn := congrArg Lcu.cells own
    have task : d.own.task = .erasing i .valid (licenceSeats s.lcu.cells[i].record) := congrArg Lcu.task own
    have applied : applyAnswer { own := s.lcu, bus := { s.bus with ptuLcu := n } } = d :=
      (applyAnswer_removal removal).trans hd
    have none_due (j : Fin 32) : lapseDue d.own.cells[j] = false := by
      rw [cells, setAt_get]
      split_ifs with e
      · rfl
      · exact notDue j (Ne.symm e)
    refine ⟨_, exec_withdrawalAnswer answers (lcuAnswer_alone applied none_due fun id => by simp [task]), rfl, ?_, ?_,
      fun j hj => ?_, stored, bus⟩
    · exact cells ▸ own
    · rw [cells, setAt_get_self]
      rfl
    · rw [cells, setAt_get_ne _ _ _ _ (Ne.symm hj)]

end Sys2Proof.Machine

/-! PROOFS. Grant reports and withdrawals at the PTU (R4, R37 to R39). -/

namespace Sys2Proof.Machine

open Sys2Proof

/-! ### A grant report (R37, R38) -/

/-- A port of the list keeps its record, or takes the seat that it finds. -/
theorem serve_port {l : List Port} (once : l.Nodup) (c : At Ptu) {q : Port} (hq : q ∈ l) :
    (l.foldl serveWaiter c).own.ports[q] = c.own.ports[q] ∨
      ∃ k, tierNum c.own.ports[q].reqTier ≤ tierNum k ∧
        (l.foldl serveWaiter c).own.ports[q] = seatedRec c.own.view[slotOf q] k c.own.ports[q] := by
  induction l generalizing c with
  | nil => cases hq
  | cons p l ih =>
    obtain ⟨hp, once⟩ := List.nodup_cons.1 once
    rw [List.foldl_cons]
    rcases List.mem_cons.1 hq with rfl | hq
    · rw [(serve_writes l (serveWaiter c q)).port_eq hp]
      cases h : seatRule c.own.held c.own.granted c.own.ports[q].reqTier none with
      | none => exact .inl (by rw [serveWaiter_of_none h])
      | some k =>
        refine .inr ⟨k, seatRule_tier h, ?_⟩
        rw [serveWaiter_of_some h, ptuWrite_ports, setAt_get_self]
    · obtain ⟨r, write⟩ := serveWaiter_writes c p
      have same : (serveWaiter c p).own.ports[q] = c.own.ports[q] := by
        rw [write, ptuWrite_port_ne r c (ne_of_mem_of_not_mem hq hp).symm]
      have view : (serveWaiter c p).own.view = c.own.view := by rw [write, ptuWrite_view]
      have := ih once (serveWaiter c p) hq
      rwa [same, view] at this

/-- Service fills no tier beyond its copy. -/
theorem serve_held_bound {l : List Port} (once : l.Nodup) {c : At Ptu} (hw : ∀ q ∈ l, c.own.Waits q) (k : Tier) :
    (l.foldl serveWaiter c).own.held.get k ≤ max (c.own.held.get k) (c.own.granted.get k) := by
  induction l generalizing c with
  | nil => exact le_max_left _ _
  | cons p l ih =>
    obtain ⟨hp, once⟩ := List.nodup_cons.1 once
    obtain ⟨r, write⟩ := serveWaiter_writes c p
    have granted : (serveWaiter c p).own.granted = c.own.granted := by rw [write, ptuWrite_granted]
    have later := ih once (waits_after_serve hp fun q hq => hw q (List.mem_cons_of_mem _ hq))
    have first : (serveWaiter c p).own.held.get k ≤ max (c.own.held.get k) (c.own.granted.get k) := by
      rw [serveWaiter_own (hw p (by simp))]
      cases h : seatRule c.own.held c.own.granted c.own.ports[p].reqTier none with
      | none => rw [waiterServed_of_none h]; exact le_max_left _ _
      | some j =>
        have room := (seatRule_eq_some.1 h).1.2.1
        rw [waiterServed_of_some h]
        simp only [counts_get_set]
        split_ifs with e
        · subst e; omega
        · exact le_max_left _ _
    rw [List.foldl_cons]
    rw [granted] at later
    omega

/-! ### One port reclaimed (R39) -/

/-- The model's rule with one tier excluded is the book's. -/
theorem seatRule_eq_seatFor_but (p : Ptu) (r k : Tier) : seatRule p.held p.granted r (some k) = p.seatFor r [k] := by
  simp [seatRule, Ptu.seatFor, Ptu.fits, tiers]

/-- The record of a port that reclaim has re-seated. -/
def reseatRec (j : Tier) (r : PortRec) : PortRec := { r with seat := some j, reason := .reseated }

/-- The record of a port that reclaim has unseated. -/
def lapsedRec (r : PortRec) : PortRec := { r with seat := none, state := .unseated, reason := .lapsed }

section reclaim

variable {c : At Ptu} {p : Port} {k : Tier}

theorem reclaimPort_of_some {j : Tier} (h : seatRule c.own.held c.own.granted c.own.ports[p].reqTier (some k) = some j) :
    reclaimPort k c p = ptuWrite p (reseatRec j c.own.ports[p]) c := by
  simp only [reclaimPort, h]
  rfl

theorem reclaimPort_of_none (h : seatRule c.own.held c.own.granted c.own.ports[p].reqTier (some k) = none) :
    reclaimPort k c p = ptuWrite p (lapsedRec c.own.ports[p]) c := by
  simp only [reclaimPort, h]
  rfl

theorem seatReclaimed_of_some {u : Ptu} {j : Tier} (h : seatRule u.held u.granted u.ports[p].reqTier (some k) = some j) :
    Ptu.seatReclaimed k u p =
      let freed := u.held.set k (u.held.get k - 1)
      { u with ports := setAt u.ports p (reseatRec j u.ports[p]), held := freed.set j (freed.get j + 1) } := by
  rw [seatRule_eq_seatFor_but] at h
  simp only [Ptu.seatReclaimed, h]
  rfl

theorem seatReclaimed_of_none {u : Ptu} (h : seatRule u.held u.granted u.ports[p].reqTier (some k) = none) :
    Ptu.seatReclaimed k u p =
      { u with
        ports := setAt u.ports p (lapsedRec u.ports[p])
        held := u.held.set k (u.held.get k - 1), waitList := u.waitList ++ [p] } := by
  rw [seatRule_eq_seatFor_but] at h
  simp only [Ptu.seatReclaimed, h]
  rfl

/-- What one step of reclaim does to a port that holds a tier-k seat, in the book's terms. -/
theorem reclaimPort_own (hr : c.own.RecordsRight) (hs : c.own.ports[p].seat = some k) :
    (reclaimPort k c p).own = Ptu.seatReclaimed k c.own p := by
  have waits := ((hr p).state_ne_of_seat hs).1
  cases h : seatRule c.own.held c.own.granted c.own.ports[p].reqTier (some k) with
  | some j =>
    have moved : k ≠ j := fun e => (seatRule_eq_some.1 h).1.2.2 (by rw [e])
    have other : c.own.ports[p] ≠ reseatRec j c.own.ports[p] := fun e => by
      have := congrArg PortRec.seat e
      rw [hs] at this
      exact moved (Option.some.inj this)
    rw [reclaimPort_of_some h, seatReclaimed_of_some h, ptuWrite_own other, hs,
      waitAfter_same p (old := c.own.ports[p].state) (new := (reseatRec j c.own.ports[p]).state) _ Iff.rfl]
    rfl
  | none =>
    have other : c.own.ports[p] ≠ lapsedRec c.own.ports[p] := fun e => by
      have := congrArg PortRec.seat e
      rw [hs] at this
      cases this
    rw [reclaimPort_of_none h, seatReclaimed_of_none h, ptuWrite_own other, hs]
    unfold waitAfter
    rw [if_pos ⟨waits, rfl⟩]
    rfl

end reclaim

/-! ### A run of reclaim, port by port (R39) -/

/-- R39: each port keeps its record, is re-seated or joins the tail of the list unseated, and the MXW is told of those that
left service. -/
structure Reclaimed (c d : At Ptu) : Prop where
  record : ∀ q : Port, d.own.ports[q] = c.own.ports[q] ∨
    (c.own.ports[q].seat ≠ none ∧ ∃ j, tierNum c.own.ports[q].reqTier ≤ tierNum j ∧
      d.own.ports[q] = reseatRec j c.own.ports[q]) ∨
    (c.own.ports[q].seat ≠ none ∧ d.own.ports[q] = lapsedRec c.own.ports[q])
  list : c.own.waitList <+: d.own.waitList
  left : ∃ gone, d.bus.ptuMxw = c.bus.ptuMxw ++ gone ∧
    ∀ q : Port, q ∈ gone ↔ c.own.ports[q].state = .inService ∧ d.own.ports[q].state = .unseated

namespace Reclaimed

variable {c d e : At Ptu}

theorem refl (c : At Ptu) : Reclaimed c c where
  record _ := .inl rfl
  list := List.prefix_refl _
  left := ⟨[], by simp, fun q => by
    simp only [List.not_mem_nil, false_iff]
    rintro ⟨served, waits⟩
    rw [served] at waits
    cases waits⟩

/-- A port that reclaim has unseated has no seat left to reclaim. -/
theorem trans (h : Reclaimed c d) (h' : Reclaimed d e) : Reclaimed c e where
  record q := by
    have first := h.record q
    have second := h'.record q
    generalize c.own.ports[q] = r at first ⊢
    generalize d.own.ports[q] = x at first second
    rcases first with rfl | ⟨seated, j, high, rfl⟩ | ⟨seated, rfl⟩
    · exact second
    · rcases second with same | ⟨-, i, low, again⟩ | ⟨-, gone⟩
      · exact .inr (.inl ⟨seated, j, high, same⟩)
      · exact .inr (.inl ⟨seated, i, low, again⟩)
      · exact .inr (.inr ⟨seated, gone⟩)
    · rcases second with same | ⟨seated', -⟩ | ⟨seated', -⟩
      · exact .inr (.inr ⟨seated, same⟩)
      · exact absurd rfl seated'
      · exact absurd rfl seated'
  list := h.list.trans h'.list
  left := by
    obtain ⟨x, sent, hx⟩ := h.left
    obtain ⟨y, sent', hy⟩ := h'.left
    refine ⟨x ++ y, by rw [sent', sent, List.append_assoc], fun q => ?_⟩
    rw [List.mem_append, hx, hy]
    have first := h.record q
    have second := h'.record q
    generalize c.own.ports[q] = r at first ⊢
    generalize d.own.ports[q] = u at first second ⊢
    rcases first with rfl | ⟨-, j, -, rfl⟩ | ⟨-, rfl⟩
    · cases u.state <;> simp
    · cases hr : r.state <;> simp [reseatRec, hr]
    · rcases second with same | ⟨seated', -⟩ | ⟨seated', -⟩
      · simp [same, lapsedRec]
      · exact absurd rfl seated'
      · exact absurd rfl seated'

/-- One seated port written re-seated or unseated. -/
theorem write {p : Port} {r : PortRec} (seated : c.own.ports[p].seat ≠ none)
    (hr : (∃ j, tierNum c.own.ports[p].reqTier ≤ tierNum j ∧ r = reseatRec j c.own.ports[p]) ∨
      r = lapsedRec c.own.ports[p])
    (list : c.own.waitList <+: (ptuWrite p r c).own.waitList) : Reclaimed c (ptuWrite p r c) where
  record q := by
    rw [ptuWrite_ports, setAt_get]
    split_ifs with e
    · subst e
      exact .inr (hr.imp (⟨seated, ·⟩) (⟨seated, ·⟩))
    · exact .inl rfl
  list := list
  left := by
    refine ⟨_, ptuWrite_ptuMxw p r c, fun q => ?_⟩
    rw [ptuWrite_ports, setAt_get]
    split_ifs with moved e e
    · subst e
      rcases hr with ⟨j, -, rfl⟩ | rfl
      · exact absurd rfl moved
      · simpa [lapsedRec] using moved
    · refine iff_of_false (by simpa using Ne.symm e) ?_
      rintro ⟨served, unseated⟩
      rw [served] at unseated
      cases unseated
    · subst e
      refine iff_of_false List.not_mem_nil ?_
      rintro ⟨served, unseated⟩
      rw [served, unseated] at moved
      simp at moved
    · refine iff_of_false List.not_mem_nil ?_
      rintro ⟨served, unseated⟩
      rw [served] at unseated
      cases unseated

end Reclaimed

section pass

variable {c : At Ptu} {k : Tier}

/-- One holder of a tier-k seat dealt with. -/
theorem reclaimPort_reclaimed (hr : c.own.RecordsRight) {p : Port} (hs : c.own.ports[p].seat = some k) :
    Reclaimed c (reclaimPort k c p) := by
  have own := reclaimPort_own hr hs
  have seated : c.own.ports[p].seat ≠ none := by rw [hs]; exact Option.some_ne_none k
  cases h : seatRule c.own.held c.own.granted c.own.ports[p].reqTier (some k) with
  | some j =>
    rw [seatReclaimed_of_some h] at own
    rw [reclaimPort_of_some h] at own ⊢
    exact .write seated (.inl ⟨j, seatRule_tier h, rfl⟩) (by rw [own])
  | none =>
    rw [seatReclaimed_of_none h] at own
    rw [reclaimPort_of_none h] at own ⊢
    exact .write seated (.inr rfl) (by rw [own]; exact List.prefix_append _ _)

/-- A run over ports that hold a tier-k seat, in the book's terms. -/
theorem reclaimPorts_run {l : List Port} (once : l.Nodup) (hr : c.own.RecordsRight)
    (hs : ∀ q ∈ l, c.own.ports[q].seat = some k) :
    (l.foldl (reclaimPort k) c).own = l.foldl (Ptu.seatReclaimed k) c.own ∧
      Reclaimed c (l.foldl (reclaimPort k) c) := by
  induction l generalizing c with
  | nil => exact ⟨rfl, .refl c⟩
  | cons p l ih =>
    obtain ⟨hp, once⟩ := List.nodup_cons.1 once
    have held := hs p (by simp)
    obtain ⟨own, run⟩ := ih once (reclaimPort_recordsRight (k := k) hr held) fun q hq => by
      obtain ⟨r, e⟩ := reclaimPort_writes k c p
      rw [e, ptuWrite_port_ne r c (ne_of_mem_of_not_mem hq hp).symm]
      exact hs q (List.mem_cons_of_mem _ hq)
    rw [List.foldl_cons, List.foldl_cons, ← reclaimPort_own hr held]
    exact ⟨own, (reclaimPort_reclaimed hr held).trans run⟩

theorem holdersOf_eq (k : Tier) (ports : Vector PortRec 256) :
    holdersOf k ports = ((List.finRange 256).filter (fun q => ports[q].seat = some k)).reverse := by
  rw [holdersOf, List.filter_reverse, indices]

theorem reclaimPass_run (hr : c.own.RecordsRight) (k : Tier) :
    (reclaimPass c k).own = c.own.tierReclaimed k ∧ Reclaimed c (reclaimPass c k) := by
  have run := reclaimPorts_run (k := k) ((holdersOf_nodup k c.own.ports).sublist
    (List.take_sublist (c.own.held.get k - c.own.granted.get k) _)) hr
    fun _ hq => mem_holdersOf.1 (List.mem_of_mem_take hq)
  refine ⟨run.1.trans ?_, run.2⟩
  rw [holdersOf_eq]
  rfl

/-! ### What a pass leaves held (R39) -/

/-- A port dealt with leaves its tier, and takes a seat of another one only below its copy. -/
theorem seatReclaimed_held (u : Ptu) (k : Tier) (p : Port) :
    (u.seatReclaimed k p).granted = u.granted ∧ (u.seatReclaimed k p).held.get k = u.held.get k - 1 ∧
      ∀ i, i ≠ k → (u.seatReclaimed k p).held.get i ≤ max (u.held.get i) (u.granted.get i) := by
  cases h : seatRule u.held u.granted u.ports[p].reqTier (some k) with
  | some j =>
    obtain ⟨-, room, other⟩ := (seatRule_eq_some.1 h).1
    have moved : j ≠ k := fun e => other (by rw [e])
    rw [seatReclaimed_of_some h]
    simp only [counts_get_set, moved, if_false, if_true, Ne.symm moved, true_and]
    intro i hi
    rw [if_neg (Ne.symm hi)]
    split_ifs with e
    · subst e
      omega
    · exact le_max_left _ _
  | none =>
    rw [seatReclaimed_of_none h]
    simp only [counts_get_set, if_true, true_and]
    intro i hi
    rw [if_neg (Ne.symm hi)]
    exact le_max_left _ _

theorem seatsReclaimed_held (k : Tier) (l : List Port) (u : Ptu) :
    (l.foldl (Ptu.seatReclaimed k) u).granted = u.granted ∧
      (l.foldl (Ptu.seatReclaimed k) u).held.get k = u.held.get k - l.length ∧
      ∀ i, i ≠ k → (l.foldl (Ptu.seatReclaimed k) u).held.get i ≤ max (u.held.get i) (u.granted.get i) := by
  induction l generalizing u with
  | nil => exact ⟨rfl, rfl, fun i _ => le_max_left _ _⟩
  | cons p l ih =>
    obtain ⟨granted, own, others⟩ := seatReclaimed_held u k p
    obtain ⟨granted', own', others'⟩ := ih (u.seatReclaimed k p)
    rw [List.foldl_cons]
    refine ⟨granted'.trans granted, ?_, fun i hi => ?_⟩
    · rw [own', own, List.length_cons]; omega
    · have first := others i hi
      have rest := others' i hi
      rw [granted] at rest
      omega

/-- R39: after its pass no tier holds more than its copy, and none has been filled beyond it. -/
theorem tierReclaimed_held {u : Ptu} (ht : u.Tallied) (k : Tier) :
    (u.tierReclaimed k).granted = u.granted ∧ (u.tierReclaimed k).held.get k ≤ u.granted.get k ∧
      ∀ i, (u.tierReclaimed k).held.get i ≤ max (u.held.get i) (u.granted.get i) := by
  set l := (((List.finRange 256).filter (fun q => u.ports[q].seat = some k)).reverse.take
    (u.held.get k - u.granted.get k)) with hl
  have run := seatsReclaimed_held k l u
  have long : l.length = u.held.get k - u.granted.get k := by
    have holders : ((List.finRange 256).filter (fun q => u.ports[q].seat = some k)).length = u.held.get k := by
      rw [ht.held_counts k, Ptu.holders, indices, List.countP_eq_length_filter]
    rw [hl, List.length_take, List.length_reverse, holders]
    omega
  rw [long] at run
  obtain ⟨granted, own, others⟩ := run
  have first : (u.tierReclaimed k).held.get k ≤ u.granted.get k := by
    have : (u.tierReclaimed k).held.get k = _ := own
    omega
  refine ⟨granted, first, fun i => ?_⟩
  by_cases e : i = k
  · subst e
    exact first.trans (le_max_right _ _)
  · exact others i e

end pass

/-- R39: the three passes, one after another. -/
theorem reclaim_run {c : At Ptu} (ht : c.own.Tallied) (hr : c.own.RecordsRight) :
    let d := tiers.foldl reclaimPass c
    d.own = [Tier.t1, .t2, .t3].foldl Ptu.tierReclaimed c.own ∧ Reclaimed c d ∧
      ∀ k, d.own.held.get k ≤ c.own.granted.get k := by
  have pass {c : At Ptu} (ht : c.own.Tallied) (hr : c.own.RecordsRight) (k : Tier) :
      (reclaimPass c k).own.Tallied ∧ (reclaimPass c k).own.RecordsRight :=
    ⟨(reclaimPass_writes c k).choose_spec.tallied ht, reclaimPass_recordsRight hr k⟩
  obtain ⟨ht1, hr1⟩ := pass ht hr .t1
  obtain ⟨ht2, hr2⟩ := pass ht1 hr1 .t2
  obtain ⟨own1, run1⟩ := reclaimPass_run hr .t1
  obtain ⟨own2, run2⟩ := reclaimPass_run hr1 .t2
  obtain ⟨own3, run3⟩ := reclaimPass_run hr2 .t3
  obtain ⟨granted1, full1, below1⟩ := tierReclaimed_held ht .t1
  obtain ⟨granted2, full2, below2⟩ := tierReclaimed_held ht1 .t2
  obtain ⟨-, full3, below3⟩ := tierReclaimed_held ht2 .t3
  rw [← own3] at full3 below3
  rw [← own2] at granted2 full2 below2
  rw [← own1] at granted1 full1 below1
  refine ⟨?_, (run1.trans run2).trans run3, fun k => ?_⟩
  · simp only [tiers, List.foldl_cons, List.foldl_nil, own1, own2, own3]
  · show (reclaimPass (reclaimPass (reclaimPass c .t1) .t2) .t3).own.held.get k ≤ _
    rw [granted2, granted1] at full3 below3
    rw [granted1] at full2 below2
    have below3 := below3 k
    have below2 := below2 k
    cases k <;> omega

/-! ### The input taken from the LCU's channel -/

section copied

variable {c d : At Ptu} {g : Counts} {l : List Port}

theorem ptuSetGranted_bus (g : Counts) (c : At Ptu) :
    (ptuSetGranted g c).bus = { c.bus with toSpw := (ptuSetGranted g c).bus.toSpw } := by
  simp only [ptuSetGranted, markIf_eq]

/-- The copies replaced, and a run of writes after it. -/
theorem copied_bus (run : PtuWrites l (ptuSetGranted g c) d) :
    d.bus = { c.bus with toSpw := d.bus.toSpw, ptuMxw := d.bus.ptuMxw, toAtu := d.bus.toAtu } :=
  run.bus_eq.trans (by rw [ptuSetGranted_bus])

/-- The copies replaced, and the list served: the ports that enter service go to the MXW. -/
theorem grantReport_bus (h : c.own.Unclaimed) (hd : waitListService (ptuSetGranted g c) = d) :
    d.bus = { c.bus with
      ptuMxw := c.bus.ptuMxw ++ c.own.waitList.filter (fun q => d.own.ports[q].state = .inService)
      toSpw := d.bus.toSpw, toAtu := d.bus.toAtu } := by
  subst hd
  have sent : (ptuSetGranted g c).bus.ptuMxw = c.bus.ptuMxw := by rw [ptuSetGranted_bus]
  have served := service_ptuMxw (ptuSetGranted_unclaimed h g)
  rw [sent] at served
  exact (copied_bus (service_writes _)).trans (by rw [served]; rfl)

/-- R37: a port that waits on has its record as it was. -/
theorem service_kept (h : c.own.Unclaimed) {q : Port} (hq : q ∈ (waitListService c).own.waitList) :
    (waitListService c).own.ports[q] = c.own.ports[q] := by
  have waits := (((service_writes c).tallied h.tallied).wait_unseated q).1 hq
  rcases serve_port h.tallied.wait_nodup c ((service_shrinks h).1.subset hq) with same | ⟨k, -, seated⟩
  · exact same
  · have served : (waitListService c).own.ports[q] = seatedRec c.own.view[slotOf q] k c.own.ports[q] := seated
    rw [served] at waits
    exact absurd waits (seatedState_ne _).1

/-- R37: a port that has left the list took a seat. -/
theorem service_seated (h : c.own.Unclaimed) {q : Port} (hq : q ∈ c.own.waitList)
    (left : q ∉ (waitListService c).own.waitList) : ∃ k, tierNum c.own.ports[q].reqTier ≤ tierNum k ∧
      (waitListService c).own.ports[q] = seatedRec c.own.view[slotOf q] k c.own.ports[q] := by
  refine (serve_port h.tallied.wait_nodup c hq).resolve_left fun same => left ?_
  have kept : (waitListService c).own.ports[q] = c.own.ports[q] := same
  rw [((service_writes c).tallied h.tallied).wait_unseated, kept]
  exact (h.tallied.wait_unseated q).1 hq

end copied

/-- Settles O21: `Reclaimed` says what the three passes leave, and the lemmas of wait-list service say the rest. -/
theorem grantsSeatAndWithdrawalsUnseat : Obligations.GrantsSeatAndWithdrawalsUnseat := by
  unfold Obligations.GrantsSeatAndWithdrawalsUnseat
  refine ⟨?_, ?_, ?_⟩
  · intro s g rest hm hc hs
    let taken : At Ptu := { own := s.ptu, bus := { s.bus with lcuPtu := rest } }
    have h : (ptuSetGranted g taken).own.Unclaimed := ptuSetGranted_unclaimed (hs.unclaimed hc) g
    have writes := service_writes (ptuSetGranted g taken)
    have waits (q : Port) (hq : q ∈ s.ptu.waitList) := Ptu.waits_of_mem h.tallied h.recordsRight hq
    have bus := grantReport_bus (c := taken) (g := g) (hs.unclaimed hc) rfl
    have input : ptuInput (.lcu (.grant g)) taken = waitListService (ptuSetGranted g taken) :=
      ptuInput_of_free hc _
    refine ⟨_, exec_grantReport hm input, rfl, writes.granted_eq, writes.view_eq, writes.claim_eq.trans hc,
      writes.heldInputs_eq, service_own h.tallied h.recordsRight, bus, (service_shrinks h).1, fun q hq => ⟨?_, ?_⟩,
      fun q hq left => ?_, fun q hq => ?_, fun k => ?_⟩
    · exact service_kept h hq
    · exact service_starves h.tallied h.recordsRight hq
    · exact service_seated h hq left
    · exact writes.port_eq hq
    · exact serve_held_bound h.tallied.wait_nodup waits k
  · intro s g rest hm hc hs
    let taken : At Ptu := { own := s.ptu, bus := { s.bus with lcuPtu := rest } }
    have h : (ptuSetGranted g taken).own.Unclaimed := ptuSetGranted_unclaimed (hs.unclaimed hc) g
    obtain ⟨⟨l, writes⟩, -⟩ := reclaimPasses h.recordsRight
    obtain ⟨own, run, full⟩ := reclaim_run h.tallied h.recordsRight
    have input : ptuInput (.lcu (.withdrawal g)) taken = ptuWithdrawal g taken := ptuInput_of_free hc _
    simp only [ptuWithdrawal] at input
    generalize tiers.foldl reclaimPass (ptuSetGranted g taken) = d at writes own run full input
    have bus := copied_bus writes
    have answers : d.bus.ptuLcu = s.bus.ptuLcu := by rw [bus]
    have before : (ptuSetGranted g taken).bus.ptuMxw = s.bus.ptuMxw := by rw [ptuSetGranted_bus]
    refine ⟨_, exec_withdrawal hm input, rfl, writes.granted_eq, writes.view_eq, writes.claim_eq.trans hc,
      writes.heldInputs_eq, own, full, run.record, run.list, ?_, ?_⟩
    · dsimp only
      rw [answers, bus]
    · obtain ⟨gone, sent, left⟩ := run.left
      exact ⟨gone, before ▸ sent, left⟩
  · intro s m rest hm hc held
    refine ⟨?_, ?_⟩
    · rintro g rfl
      exact exec_grantReport hm (ptuInput_of_claim hc _)
    · rintro g rfl
      exact exec_withdrawal hm (ptuInput_of_claim hc _)

end Sys2Proof.Machine

/-! PROOFS. The three resets and the loss of power (R20, R22, R105, R164, R176). -/

namespace Sys2Proof.Machine

open Sys2Proof

/-! ### Data that was moving stops (R176) -/

theorem znuSettle_free (n : Nat) {c : At Znu} (h : c.bus.service .znu = none) : znuSettle n c = c := by
  cases n with
  | zero => rfl
  | succ n => cases task : c.own.task <;> simp only [znuSettle, task, h]

/-- A ZONE COMMIT has no data that arrives. -/
theorem znuSettle_applying (n : Nat) {c : At Znu} (h : c.own.task = .applying) : znuSettle n c = c := by
  cases n with
  | zero => rfl
  | succ n => simp only [znuSettle, h]

/-- Only the ZNU has anything to judge before its data stops. -/
theorem settle_of_ne {v : Server} (h : v ≠ .znu) (s : State) : settle v s = s := by
  cases v with
  | znu => exact absurd rfl h
  | ptu | lcu | pbu | sls | clc | atu => rfl

theorem settle_znu_eq {s : State} (h : znuSettle settleFuel { own := s.znu, bus := s.bus } = { own := s.znu, bus := s.bus }) :
    settle .znu s = s := by
  show s.onZnu (znuSettle settleFuel) = s
  simp only [State.onZnu, h]

theorem stopMoving_free {v : Server} {s : State} (h : s.bus.service v = none) : stopMoving v s = s := by
  have settled : settle v s = s := by
    by_cases e : v = .znu
    · subst e
      exact settle_znu_eq (znuSettle_free _ h)
    · exact settle_of_ne e s
  simp only [stopMoving, settled, h]

theorem stopMoving_applying {s : State} (h : s.znu.task = .applying) : stopMoving .znu s = s := by
  have stopped : blockStopped .znu 0 s = s := by
    show s.onZnu (znuStopped 0) = s
    simp only [State.onZnu, znuStopped, h]
  unfold stopMoving
  simp only [settle_znu_eq (znuSettle_applying _ (c := { own := s.znu, bus := s.bus }) h), stopped]
  repeat' split
  all_goals rfl

section serving

variable {v : Server} {s : State} {sv : Service} {k : TaskKind} (hv : v ≠ .znu) (service : s.bus.service v = some sv)
  (kind : sv.word.is k = true)

include hv service kind

/-- A task whose input has all arrived keeps it. -/
theorem stopMoving_complete (all : (readsInput k && sv.complete) = true) : stopMoving v s = s := by
  have code : taskKindOf sv.word.code = some k := by simpa [TaskWord.is] using kind
  simp only [stopMoving, settle_of_ne hv, service, code, all, if_true]

/-- Every other task is told that its data has stopped. -/
theorem stopMoving_moving (moving : (readsInput k && sv.complete) = false) : stopMoving v s = blockStopped v 0 s := by
  have code : taskKindOf sv.word.code = some k := by simpa [TaskWord.is] using kind
  simp only [stopMoving, settle_of_ne hv, service, code, moving, Bool.false_eq_true, if_false]

end serving

/-- The LCU's task moves data while an install collects or a report is written, and at no other time. -/
theorem lcuStopped_still {c : At Lcu} (collecting : c.own.task ≠ .collecting) (reporting : ∀ n, c.own.task ≠ .reporting n)
    (n : Nat) : lcuStopped n c = c := by
  unfold lcuStopped
  split
  next h => exact absurd h collecting
  next h => exact absurd h (reporting _)
  next => rfl

theorem stopMoving_lcu_still {s : State} (collecting : s.lcu.task ≠ .collecting)
    (reporting : ∀ n, s.lcu.task ≠ .reporting n) : stopMoving .lcu s = s := by
  have stopped : blockStopped .lcu 0 s = s := by
    show s.onLcu (lcuStopped 0) = s
    simp only [State.onLcu, lcuStopped_still (c := { own := s.lcu, bus := s.bus }) collecting reporting]
  unfold stopMoving
  simp only [settle_of_ne (by decide : Server.lcu ≠ .znu), stopped]
  repeat' split
  all_goals rfl

/-! ### The tasks detached and the accesses dropped (R164, R173, R176) -/

/-- The state after the three resets, from the one in which the data has stopped. -/
def hostSideReset (s : State) : State :=
  { s with host := { hli := hliRegistersReset s.host.hli, anchors := Vector.replicate 16 anchorPowerOn } }.onSpw
    (spwNewBase 0)

theorem resetHostSide_eq (s : State) :
    resetHostSide s = hostSideReset (dataStopped (tasksDetached (abandonApply s))) := rfl

theorem detached_service (s : State) (v : Server) : (tasksDetached s).bus.service v =
    (s.bus.service v).map (fun sv => { sv with anchor := none }) := by
  simp [tasksDetached, dropAeAccesses, detachTasks, Bus.service, Bus.station]

theorem detached_free {s : State} {v : Server} (h : s.bus.service v = none) : (tasksDetached s).bus.service v = none := by
  rw [detached_service, h]
  rfl

theorem detached_serving {s : State} {v : Server} {sv : Service} (h : s.bus.service v = some sv) :
    (tasksDetached s).bus.service v = some { sv with anchor := none } := by
  rw [detached_service, h]
  rfl

/-- A task whose input has all arrived runs on without its anchor. -/
theorem detached_complete {s : State} {v : Server} {k : TaskKind} (hv : v ≠ .znu) (reads : readsInput k = true)
    (h : ∀ sv, s.bus.service v = some sv → sv.word.is k = true ∧ sv.complete = true) :
    stopMoving v (tasksDetached s) = tasksDetached s := by
  cases service : s.bus.service v with
  | none => exact stopMoving_free (detached_free service)
  | some sv =>
    obtain ⟨kind, all⟩ := h sv service
    have complete : ({ sv with anchor := none } : Service).complete = true := all
    exact stopMoving_complete hv (detached_serving service) kind (by rw [reads, complete]; rfl)

/-- No access is left: those of the anchors go with their tasks, those of the SPW with its base. -/
theorem dropped_accesses (b : Bus) : ((dropAeAccesses b).dropAccesses .spw).accesses = [] := by
  refine List.eq_nil_iff_forall_not_mem.2 fun x hx => ?_
  obtain ⟨kept, other⟩ := mem_dropAccesses.1 hx
  exact other (by simpa using (List.mem_filter.1 kept).2)

theorem abandonApply_idle {s : State} (h : s.znu.phase = .idle) : abandonApply s = s := by
  simp [abandonApply, h]

/-- With no task whose data moves nothing stops. -/
theorem dataStopped_eq {s : State} (lcu : stopMoving .lcu s = s) (pbu : stopMoving .pbu s = s)
    (clc : stopMoving .clc s = s) (znu : stopMoving .znu s = s) : dataStopped s = s := by
  rw [dataStopped, lcu, pbu, clc, znu]

/-- R149: a batch cut short brings the generation to the next even value (log entry 25). -/
theorem cutGeneration_eq (batch : Option Batch) (g : Word) :
    (if batch.isSome then evenGeneration g else g) = if batch.isSome ∧ g.getLsbD 0 = true then g + 1 else g := by
  cases batch <;> simp [evenGeneration]

/-! ### The copy of a management reset (R105) -/

theorem sameSet_iff {x y : ZoneSet} (gen : x.gen = y.gen) : sameSet x y = true ↔ y = x := by
  obtain ⟨access, g, zones⟩ := x
  obtain ⟨access', g', zones'⟩ := y
  cases gen
  simp only [sameSet, Bool.and_eq_true, beq_iff_eq, ZoneSet.mk.injEq, true_and]
  exact and_congr eq_comm eq_comm

theorem stagedCopy_eq (c : At Znu) :
    let x := c.own.staged
    let y : ZoneSet := { x with access := c.own.active.access, zones := c.own.active.zones }
    stagedCopy c =
      { own := { c.own with copyDue := false, staged := { y with gen := x.gen + (if y = x then 0 else 1) } }
        bus := { c.bus with toSpw := (stagedCopy c).bus.toSpw } } := by
  intro x y
  have same : sameSet x y = true ↔ y = x := sameSet_iff rfl
  have copied : (if sameSet x y then y else { y with gen := y.gen + 1 }) =
      { y with gen := x.gen + (if y = x then 0 else 1) } := by
    by_cases e : y = x
    · rw [if_pos (same.2 e), if_pos e, add_zero]
    · rw [if_neg (mt same.1 e), if_neg e]
  have own : (stagedCopy c).own =
      { c.own with copyDue := false, staged := { y with gen := x.gen + (if y = x then 0 else 1) } } := by
    rw [← copied]
    rfl
  exact At.eq_of own (by simp only [stagedCopy, znuWrite, markIf_eq])

/-- With no task in service the copy is made at once. -/
theorem znuManagementReset_free {s : State} (h : s.bus.service .znu = none) :
    let x := s.znu.staged
    let y : ZoneSet := { x with access := s.znu.active.access, zones := s.znu.active.zones }
    znuManagementReset s = { s with
      znu := { s.znu with
        findBuffer := [], copyDue := false, staged := { y with gen := x.gen + (if y = x then 0 else 1) } }
      bus := { s.bus with toSpw := (znuManagementReset s).bus.toSpw } } := by
  have free : ({ s with znu := { s.znu with findBuffer := [] } } : State).bus.serviceFree .znu = true := by
    show (s.bus.service .znu).isNone = true
    rw [h]
    rfl
  have copy := stagedCopy_eq { own := { s.znu with findBuffer := [] }, bus := s.bus }
  simp only [znuManagementReset, free, if_true, State.onZnu]
  generalize stagedCopy { own := { s.znu with findBuffer := [] }, bus := s.bus } = d at copy ⊢
  rw [copy]

/-- The copy is the ZNU's alone, and sends at most to the SPW. -/
theorem znuManagementReset_frame {s : State} (h : s.bus.service .znu = none) : ∃ own queue,
    znuManagementReset s = { s with znu := own, bus := { s.bus with toSpw := queue } } :=
  ⟨_, _, znuManagementReset_free h⟩

/-- With a task in service the copy waits. -/
theorem znuManagementReset_busy {s : State} {sv : Service} (h : s.bus.service .znu = some sv) :
    znuManagementReset s = { s with znu := { s.znu with findBuffer := [], copyDue := true } } := by
  have busy : ({ s with znu := { s.znu with findBuffer := [] } } : State).bus.serviceFree .znu = false := by
    show (s.bus.service .znu).isNone = false
    rw [h]
    rfl
  simp only [znuManagementReset, busy, Bool.false_eq_true, if_false]

/-! ### An APPLY in BUILDING (R114, R133) -/

/-- With a message outstanding the MXW waits for its acknowledgement. -/
theorem mxwWork_waits {c : At Mxw} (h : c.own.outstanding ≠ none) (v : MatrixView) : mxwWork v c = c := by
  obtain ⟨o, sent⟩ := Option.ne_none_iff_exists'.1 h
  have rest (waits : Bool) : choose v waits c.own = .rest := by
    unfold choose
    rw [sent]
    cases c.own.linkUp <;> rfl
  unfold mxwWork
  generalize mxwFuel = fuel
  cases fuel with
  | zero => rfl
  | succ n => simp only [mxwRun, rest]

theorem abandonApply_building {s : State} (phase : s.znu.phase = .building) (first : s.znu.abandonSent = false)
    (waits : s.mxw.outstanding ≠ none) (build : s.mxw.back = .build) : abandonApply s =
      { s with znu := { s.znu with abandonSent := true }, mxw := { s.mxw with abandon := true } } := by
  unfold abandonApply
  rw [if_pos ⟨phase, by simp [first]⟩]
  have asked : abandonAsked { own := s.mxw, bus := s.bus } =
      { own := { s.mxw with abandon := true }, bus := s.bus } := if_pos (.inl build)
  simp only [State.onMxw, asked]
  rw [mxwWork_waits waits]

/-- The commit in service, the MXW and the ZNU's station stand. -/
structure KeepsCommit (s t : State) : Prop where
  mxw : t.mxw = s.mxw
  znu : t.znu = s.znu
  station : t.bus.station .znu = s.bus.station .znu

namespace KeepsCommit

variable {s t u : State}

theorem refl (s : State) : KeepsCommit s s := ⟨rfl, rfl, rfl⟩

theorem trans (h : KeepsCommit s t) (h' : KeepsCommit t u) : KeepsCommit s u :=
  ⟨h'.mxw.trans h.mxw, h'.znu.trans h.znu, h'.station.trans h.station⟩

theorem lcuStopped_station (n : Nat) (c : At Lcu) : (lcuStopped n c).bus.station .znu = c.bus.station .znu := by
  unfold lcuStopped lcuReportEnd
  split
  · exact endTask_station_ne c.bus.freeDetails.2 _ _ (by decide)
  · split
    · exact endTask_station_ne _ _ _ (by decide)
    · rfl
  · rfl

theorem blockStopped {v : Server} (hv : v ≠ .znu) (n : Nat) (s : State) : KeepsCommit s (blockStopped v n s) := by
  cases v with
  | znu => exact absurd rfl hv
  | lcu => exact ⟨rfl, rfl, lcuStopped_station n _⟩
  | pbu | clc => exact ⟨rfl, rfl, endTask_station_ne _ _ _ (by decide)⟩
  | ptu | sls | atu => exact refl s

theorem stopMoving {v : Server} (hv : v ≠ .znu) (s : State) : KeepsCommit s (stopMoving v s) := by
  unfold Machine.stopMoving
  rw [settle_of_ne hv]
  dsimp only
  repeat' split
  all_goals first | exact refl s | exact blockStopped hv 0 s

theorem dataStopped {s : State} (h : s.znu.task = .applying) : KeepsCommit s (dataStopped s) := by
  have run := ((stopMoving (by decide : Server.lcu ≠ .znu) s).trans (stopMoving (by decide : Server.pbu ≠ .znu) _)).trans
    (stopMoving (by decide : Server.clc ≠ .znu) _)
  have task := h
  rw [← run.znu] at task
  unfold Machine.dataStopped
  rw [stopMoving_applying task]
  exact run

theorem hostSideReset (s : State) : KeepsCommit s (hostSideReset s) := ⟨rfl, rfl, rfl⟩

end KeepsCommit

/-! ### One task whose data was moving -/

/-- The block's task has ended as stopped, and nothing else of the blocks has changed. -/
structure StoppedAt (v : Server) (s t : State) : Prop where
  service : ∀ u, t.bus.service u = if u = v then none else s.bus.service u
  outcome : ∃ words, t.bus.outcomes =
    s.bus.outcomes ++ [{ server := v, anchor := none, cls := .stopped, details := words }]
  pbu : t.pbu = s.pbu
  clc : t.clc = s.clc
  lcu : t.lcu = { s.lcu with task := if v = .lcu then .idle else s.lcu.task }

/-- The registers, the contexts and the page writer are no concern of the block's task. -/
theorem StoppedAt.hostSideReset {v : Server} {s t : State} (h : StoppedAt v s t) : StoppedAt v s (hostSideReset t) :=
  ⟨h.service, h.outcome, h.pbu, h.clc, h.lcu⟩

section stopped

variable {s : State} {v : Server} {sv : Service} (service : s.bus.service v = some sv) (detached : sv.anchor = none)

include service detached

/-- The end of the task at the bus, whatever free values its details took. -/
theorem endTask_stopped {b : Bus} (hs : b.stations = s.bus.stations) (ho : b.outcomes = s.bus.outcomes) (d : Details) :
    (∀ u, (b.endTask v .stopped d).service u = if u = v then none else s.bus.service u) ∧
      ∃ words, (b.endTask v .stopped d).outcomes =
        s.bus.outcomes ++ [{ server := v, anchor := none, cls := .stopped, details := words }] := by
  have at' (u : Server) : b.service u = s.bus.service u := by simp only [Bus.service, Bus.station, hs]
  refine ⟨fun u => ?_, d, ?_⟩
  · split_ifs with e
    · rw [e]
      exact endTask_service _ _ _ _
    · rw [Bus.service, endTask_station_ne _ _ _ (Ne.symm e)]
      exact at' u
  · rw [endTask_outcomes _ _ ((at' v).trans service), ho, detached]

end stopped

section stopped

variable {s : State} {sv : Service} (detached : sv.anchor = none)

include detached

theorem blockStopped_collecting (service : s.bus.service .lcu = some sv) (task : s.lcu.task = .collecting) :
    StoppedAt .lcu s (blockStopped .lcu 0 s) := by
  obtain ⟨free, outcome⟩ := endTask_stopped service detached (b := s.bus.freeDetails.2) rfl rfl s.bus.freeDetails.1
  have stopped : lcuStopped 0 { own := s.lcu, bus := s.bus } =
      lcuEnd .stopped s.bus.freeDetails.1 { own := s.lcu, bus := s.bus.freeDetails.2 } := by
    simp only [lcuStopped, task]
  have run : blockStopped .lcu 0 s = _ := onLcu_eq stopped
  rw [run]
  exact ⟨free, outcome, rfl, rfl, rfl⟩

theorem blockStopped_reporting (service : s.bus.service .lcu = some sv) {n : Nat} (task : s.lcu.task = .reporting n) :
    StoppedAt .lcu s (blockStopped .lcu 0 s) := by
  have stopped : lcuStopped 0 { own := s.lcu, bus := s.bus } = lcuReportEnd .stopped 0 { own := s.lcu, bus := s.bus } := by
    simp only [lcuStopped, task]
  have ended := stopped
  simp only [lcuReportEnd, task] at ended
  have run : blockStopped .lcu 0 s = _ := onLcu_eq ended
  obtain ⟨free, outcome⟩ := endTask_stopped service detached (b := s.bus) rfl rfl
    (details n (0 / 72) s.lcu.failedInstalls (if s.lcu.freeze then 1 else 0))
  rw [run]
  exact ⟨free, outcome, rfl, rfl, rfl⟩

theorem blockStopped_policy (service : s.bus.service .pbu = some sv) : StoppedAt .pbu s (blockStopped .pbu 0 s) := by
  obtain ⟨free, outcome⟩ := endTask_stopped service detached (b := s.bus) rfl rfl (policyDetails s.pbu 0)
  exact ⟨free, outcome, rfl, rfl, rfl⟩

theorem blockStopped_profile (service : s.bus.service .clc = some sv) : StoppedAt .clc s (blockStopped .clc 0 s) := by
  obtain ⟨free, outcome⟩ := endTask_stopped service detached (b := s.bus) rfl rfl (profileDetails 0 3 s.clc.mask)
  exact ⟨free, outcome, rfl, rfl, rfl⟩

end stopped

/-- Where one task is in service, and its block's data stops, no other block has data to stop. -/
theorem dataStopped_one {s : State} {v : Server} (hv : v = .lcu ∨ v = .pbu ∨ v = .clc)
    (alone : ∀ u, u ≠ v → s.bus.service u = none) (h : StoppedAt v s (stopMoving v s)) :
    dataStopped s = stopMoving v s := by
  have after (u : Server) : stopMoving u (stopMoving v s) = stopMoving v s := by
    refine stopMoving_free ?_
    rw [h.service]
    split_ifs with e
    · rfl
    · exact alone u e
  have before {u : Server} (e : u ≠ v) : stopMoving u s = s := stopMoving_free (alone u e)
  unfold dataStopped
  rcases hv with rfl | rfl | rfl
  · rw [after, after, after]
  · rw [before (by decide : Server.lcu ≠ .pbu), after, after]
  · rw [before (by decide : Server.lcu ≠ .clc), before (by decide : Server.pbu ≠ .clc), after]

/-! ### The two resets, whole -/

theorem exec_linkReset (s : State) : exec .linkReset s = .next (resetHostSide s) := rfl

theorem exec_managementReset (s : State) : exec .managementReset s =
    .next (znuManagementReset { resetHostSide s with lcu := lcuManagementReset (resetHostSide s).lcu }) := rfl

/-- With no data on the move: registers, contexts, queues and accesses are reset, and the blocks run on. -/
theorem resetHostSide_still {s : State} (idle : s.znu.phase = .idle)
    (still : dataStopped (tasksDetached s) = tasksDetached s) : resetHostSide s = { s with
      host := { hli := hliRegistersReset s.host.hli, anchors := Vector.replicate 16 anchorPowerOn }
      spw := { s.spw with
        batch := none, dirty := allPageRecords, area := .unset
        gen := if s.spw.batch.isSome ∧ s.spw.gen.getLsbD 0 = true then s.spw.gen + 1 else s.spw.gen }
      ptu := s.ptu.forgetTask
      bus := { detachTasks s.bus with accesses := [] } } := by
  rw [resetHostSide_eq, abandonApply_idle idle, still, ← cutGeneration_eq, ← dropped_accesses (detachTasks s.bus)]
  rfl

/-- R114: an APPLY in BUILDING is abandoned, and goes on without its anchor. -/
theorem resetHostSide_applying {s : State} (task : s.znu.task = .applying) (phase : s.znu.phase = .building)
    (first : s.znu.abandonSent = false) (waits : s.mxw.outstanding ≠ none) (build : s.mxw.back = .build) :
    KeepsCommit (tasksDetached
      { s with znu := { s.znu with abandonSent := true }, mxw := { s.mxw with abandon := true } }) (resetHostSide s) := by
  rw [resetHostSide_eq, abandonApply_building phase first waits build]
  have kept := KeepsCommit.dataStopped (s := tasksDetached
    { s with znu := { s.znu with abandonSent := true }, mxw := { s.mxw with abandon := true } }) task
  exact kept.trans (.hostSideReset _)

/-- R176: the one task whose data was moving ends as stopped. -/
theorem resetHostSide_stopped {s : State} {v : Server} {sv : Service} (service : s.bus.service v = some sv)
    (alone : ∀ u, u ≠ v → s.bus.service u = none) (idle : s.znu.phase = .idle)
    (moving : (v = .lcu ∧ s.lcu.task = .collecting ∧ sv.word.is .licenceInstall = true ∧ sv.complete = false) ∨
      (v = .lcu ∧ (∃ n, s.lcu.task = .reporting n) ∧ sv.word.is .licenceReport = true) ∨
      (v = .pbu ∧ sv.word.is .powerPolicy = true ∧ sv.complete = false) ∨
      (v = .clc ∧ sv.word.is .thermalProfile = true ∧ sv.complete = false)) :
    StoppedAt v (tasksDetached s) (resetHostSide s) := by
  have serving := detached_serving service
  have stops : (v = .lcu ∨ v = .pbu ∨ v = .clc) ∧ StoppedAt v (tasksDetached s) (stopMoving v (tasksDetached s)) := by
    rcases moving with ⟨rfl, task, kind, short⟩ | ⟨rfl, ⟨n, task⟩, kind⟩ | ⟨rfl, kind, short⟩ | ⟨rfl, kind, short⟩
    · rw [stopMoving_moving (by decide) serving kind (by rw [Bool.and_eq_false_iff]; exact .inr short)]
      exact ⟨.inl rfl, blockStopped_collecting rfl serving task⟩
    · rw [stopMoving_moving (by decide) serving kind rfl]
      exact ⟨.inl rfl, blockStopped_reporting rfl serving task⟩
    · rw [stopMoving_moving (by decide) serving kind (by rw [Bool.and_eq_false_iff]; exact .inr short)]
      exact ⟨.inr (.inl rfl), blockStopped_policy rfl serving⟩
    · rw [stopMoving_moving (by decide) serving kind (by rw [Bool.and_eq_false_iff]; exact .inr short)]
      exact ⟨.inr (.inr rfl), blockStopped_profile rfl serving⟩
  obtain ⟨hv, stopped⟩ := stops
  rw [resetHostSide_eq, abandonApply_idle idle, dataStopped_one hv (fun u e => detached_free (alone u e)) stopped]
  exact stopped.hostSideReset

/-- Settles O15: each reset is brought to `hostSideReset` after the data stops, block by block; then the ZNU's own part. -/
theorem resetsKeepWhatTheyMust : Obligations.ResetsKeepWhatTheyMust := by
  unfold Obligations.ResetsKeepWhatTheyMust
  refine ⟨fun s => rfl, ?_, ?_, ?_, fun s => rfl⟩
  · intro s znuFree idle lcu pbu clc reset x y
    have still : dataStopped (tasksDetached s) = tasksDetached s := by
      refine dataStopped_eq ?_ (detached_complete (by decide) rfl pbu) (detached_complete (by decide) rfl clc)
        (stopMoving_free (detached_free znuFree))
      by_cases moving : s.lcu.task ≠ .collecting ∧ ∀ n, s.lcu.task ≠ .reporting n
      · exact stopMoving_lcu_still moving.1 moving.2
      · exact detached_complete (by decide) rfl fun sv service => (lcu sv service).resolve_left moving
    have forgotten : s.ptu.forgetTask.heldInputs = s.ptu.heldInputs.filter (fun h => h ≠ .task) :=
      List.filter_congr fun h _ => by simp [bne, beq_eq_decide]
    have whole : resetHostSide s = reset := by
      rw [resetHostSide_still idle still]
      simp only [reset, ← forgotten]
      rfl
    have free : reset.bus.service .znu = none := detached_free znuFree
    refine ⟨congrArg Host.Outcome.next whole, _, exec_managementReset s, ?_⟩
    rw [whole]
    exact znuManagementReset_free (s := { reset with lcu := lcuManagementReset reset.lcu }) free
  · intro s c sv hc service task phase first waits build
    have run := resetHostSide_applying task phase first waits build
    have serving : (resetHostSide s).bus.service .znu = some { sv with anchor := none } := by
      rw [Bus.service, run.station]
      exact detached_serving service
    rcases hc with rfl | rfl
    · refine ⟨_, exec_linkReset s, run.mxw, ?_⟩
      rw [run.znu]
      exact ⟨rfl, task, rfl, rfl, (Bool.or_false _).symm, serving⟩
    · refine ⟨_, exec_managementReset s, ?_⟩
      rw [znuManagementReset_busy (s := { resetHostSide s with lcu := lcuManagementReset (resetHostSide s).lcu }) serving]
      dsimp only
      rw [run.znu]
      exact ⟨run.mxw, rfl, task, rfl, rfl, (Bool.or_true _).symm, serving⟩
  · intro s c v sv hc service alone idle moving cleared
    have run := resetHostSide_stopped service alone idle moving
    have free (u : Server) : (resetHostSide s).bus.service u = none := by
      rw [run.service]
      split_ifs with e
      · rfl
      · exact detached_free (alone u e)
    have byLink := exec_linkReset s
    have byManagement := exec_managementReset s
    -- from here on only what is known of the reset host side counts
    generalize resetHostSide s = r at run free byLink byManagement
    obtain ⟨words, outcomes⟩ := run.outcome
    rcases hc with rfl | rfl
    · refine ⟨r, words, byLink, free, outcomes, run.pbu, run.clc, ?_⟩
      rw [run.lcu]
      simp [cleared, tasksDetached]
    · obtain ⟨own, queue, copied⟩ := znuManagementReset_frame
        (s := { r with lcu := lcuManagementReset r.lcu }) (free .znu)
      rw [copied] at byManagement
      refine ⟨_, words, byManagement, free, outcomes, run.pbu, run.clc, ?_⟩
      dsimp only [lcuManagementReset]
      rw [run.lcu]
      simp [cleared, tasksDetached]

end Sys2Proof.Machine

/-! PROOFS. The figures of the power budget (R47 to R51): what one entry of a table gives to its sum, what D takes from a
port list, and what U depends on. -/

namespace Sys2Proof.Machine

open Sys2Proof

/-! ### Sums over a table -/

/-- Replacing an entry moves a table's sum by that entry alone. -/
theorem sum_map_setAt {α : Type} {n : Nat} (v : Vector α n) (i : Fin n) (x : α) (f : α → Nat) :
    ((setAt v i x).toList.map f).sum + f v[i] = (v.toList.map f).sum + f x := by
  have hi : i.val < (v.toList.map f).length := by simp
  have whole := List.sum_take_add_sum_drop (v.toList.map f) i.val
  rw [List.drop_eq_getElem_cons hi, List.sum_cons] at whole
  simp only [setAt, Vector.toList_set, List.map_set, List.sum_set, if_pos hi]
  simp only [List.getElem_map, Vector.getElem_toList] at whole
  simp only [Fin.getElem_fin]
  omega

/-- D follows one slot entry by what that entry puts into it (R51). -/
theorem demandOf_setSlot (wb : Nat) (port : Counts) (trays : Vector TrayEntry 6) (slots : Vector SlotEntry 8) (i : Slot)
    (e : SlotEntry) : demandOf wb port trays (setAt slots i e) + slotWatts port slots[i] =
      demandOf wb port trays slots + slotWatts port e := by
  have := sum_map_setAt slots i e (slotWatts port)
  unfold demandOf
  omega

/-! ### Port lists (R50, R53, R55) -/

section portLists

variable {port : Counts} {p : Port} {t was : Tier} {ports : List (Port × Tier)}

theorem recordedTier_eq_none : recordedTier p ports = none ↔ ∀ x ∈ ports, x.1 ≠ p := by
  simp [recordedTier]

/-- A port that is listed once has the tier of its entry. -/
theorem recordedTier_of_mem (once : (ports.map (fun e => e.1)).Nodup) (h : (p, was) ∈ ports) :
    recordedTier p ports = some was := by
  induction ports with
  | nil => cases h
  | cons x xs ih =>
    obtain ⟨fresh, once⟩ := List.nodup_cons.1 once
    by_cases e : x.1 = p
    · rcases List.mem_cons.1 h with rfl | h
      · simp [recordedTier]
      · exact absurd (List.mem_map.2 ⟨_, h, e.symm⟩) fresh
    · have later : (p, was) ∈ xs := (List.mem_cons.1 h).resolve_left fun eq => e (eq ▸ rfl)
      simpa [recordedTier, List.find?_cons, e] using ih once later

/-- A change of tier leaves the ports of the list. -/
theorem retier_ports (p : Port) (t : Tier) (ports : List (Port × Tier)) :
    (retier p t ports).map (fun e => e.1) = ports.map (fun e => e.1) := by
  rw [retier, List.map_map]
  refine List.map_congr_left fun x _ => ?_
  by_cases e : x.1 = p <;> simp [e]

theorem retier_of_absent (h : ∀ x ∈ ports, x.1 ≠ p) : retier p t ports = ports :=
  (List.map_congr_left fun x hx => if_neg (h x hx)).trans (List.map_id _)

theorem listWatts_cons (x : Port × Tier) : listWatts port (x :: ports) = port.get x.2 + listWatts port ports := rfl

theorem listWatts_add : listWatts port (ports ++ [(p, t)]) = listWatts port ports + port.get t := by
  simp [listWatts]

/-- A port taken from the list takes no watts into it. -/
theorem listWatts_filter_le (f : Port × Tier → Bool) : listWatts port (ports.filter f) ≤ listWatts port ports :=
  (List.filter_sublist.map _).sum_le_sum fun _ _ => Nat.zero_le _

/-- The watts of the list move by the difference of the two tiers (R53). -/
theorem listWatts_retier (once : (ports.map (fun e => e.1)).Nodup) (h : (p, was) ∈ ports) :
    listWatts port (retier p t ports) + port.get was = listWatts port ports + port.get t := by
  induction ports with
  | nil => cases h
  | cons x xs ih =>
    obtain ⟨fresh, once⟩ := List.nodup_cons.1 once
    have step : retier p t (x :: xs) = (if x.1 = p then (p, t) else x) :: retier p t xs := rfl
    rw [step, listWatts_cons, listWatts_cons]
    by_cases e : x.1 = p
    · have others : retier p t xs = xs :=
        retier_of_absent fun y hy eq => fresh (List.mem_map.2 ⟨y, hy, eq.trans e.symm⟩)
      have entry : x = (p, was) := by
        rcases List.mem_cons.1 h with rfl | h
        · rfl
        · exact absurd (List.mem_map.2 ⟨_, h, e.symm⟩) fresh
      rw [others, entry, if_pos rfl]
      dsimp only
      omega
    · have later : (p, was) ∈ xs := (List.mem_cons.1 h).resolve_left fun eq => e (eq ▸ rfl)
      have := ih once later
      rw [if_neg e]
      omega

end portLists

/-! ### What U depends on (R48) -/

/-- What a module record gives to U: whether it contributes, and its available watts. -/
def ModuleRec.supply (r : ModuleRec) : Bool × Nat := (r.state == .ok, r.available)

section supply

variable {m m' : Vector ModuleRec 4} (h : m.map ModuleRec.supply = m'.map ModuleRec.supply)

include h

theorem available_of_supply (i : Fin 4) : m[i].available = m'[i].available := by
  have := congrArg (fun v : Vector (Bool × Nat) 4 => v[i].2) h
  simpa [ModuleRec.supply] using this

theorem contributing_of_supply : contributing m = contributing m' := by
  have count (v : Vector ModuleRec 4) : contributing v = (v.map ModuleRec.supply).toList.countP (·.1) := by
    rw [Vector.toList_map, List.countP_map]; rfl
  rw [count, h, ← count]

theorem largestAvailable_of_supply : largestAvailable m = largestAvailable m' := by
  have fold (v : Vector ModuleRec 4) :
      largestAvailable v = (v.map ModuleRec.supply).toList.foldl (fun x r => max x r.2) 0 := by
    rw [Vector.toList_map, List.foldl_map]; rfl
  rw [fold, h, ← fold]

theorem gridA_of_supply : gridA m = gridA m' :=
  congrArg₂ (· + ·) (available_of_supply h 0) (available_of_supply h 1)

theorem gridB_of_supply : gridB m = gridB m' :=
  congrArg₂ (· + ·) (available_of_supply h 2) (available_of_supply h 3)

theorem usableOf_of_supply (mode : RedundancyMode) : usableOf mode m = usableOf mode m' := by
  simp only [usableOf, contributing_of_supply h, largestAvailable_of_supply h, gridA_of_supply h, gridB_of_supply h]

theorem redundancyLostOf_of_supply (mode : RedundancyMode) : redundancyLostOf mode m = redundancyLostOf mode m' := by
  simp only [redundancyLostOf, contributing_of_supply h, gridA_of_supply h, gridB_of_supply h]

end supply

/-- A record that gives what the old one gave leaves what the modules supply. -/
theorem supply_setAt {m : Vector ModuleRec 4} {b : Fin 4} {r : ModuleRec} (h : r.supply = m[b].supply) :
    (setAt m b r).map ModuleRec.supply = m.map ModuleRec.supply := by
  ext i hi
  · by_cases e : b.val = i
    · subst e; simp [setAt, h]
    · simp [setAt, e]
  · by_cases e : b.val = i
    · subst e; simp [setAt, h]
    · simp [setAt, e]

end Sys2Proof.Machine

/-! PROOFS. The over-budget machine (R51, R57 to R60): what the recomputation sends, and what it makes of the machine. -/

namespace Sys2Proof.Machine

open Sys2Proof

/-! ### A sound budget in parts -/

/-- What holds of one slot entry (R50, R54): its ports are of its slot, each once, and Wsb is not above Ws. -/
structure SlotEntry.Right (i : Slot) (e : SlotEntry) : Prop where
  once : (e.ports.map (fun x => x.1)).Nodup
  here : ∀ x ∈ e.ports, slotOf x.1 = i
  standby_below : e.wsb ≤ e.ws

/-- The figures of a policy are in their ranges (R45). -/
def PowerPolicy.InRange (p : PowerPolicy) : Prop :=
  p.wb ≤ 1000 ∧ p.port.t1 ≤ p.port.t2 ∧ p.port.t2 ≤ p.port.t3 ∧ p.port.t3 ≤ 30 ∧ p.grace ≤ 60 ∧ p.idle ≤ 240

/-- The module records, the slot entries and the policy, each right by itself. -/
structure Pbu.TablesRight (b : Pbu) : Prop where
  available_right : ∀ i : Fin 4, b.modules[i].available = availableOf b.modules[i]
  slots_right : ∀ i : Slot, b.slots[i].Right i
  policy_range : b.policy.InRange

/-- U and the REDUNDANCY_LOST condition are those of the modules and the mode (R48). -/
structure Pbu.SupplyRight (b : Pbu) : Prop where
  usable_right : b.usable = usableOf b.policy.mode b.modules
  redundancy_right : b.redundancyLost = redundancyLostOf b.policy.mode b.modules

/-- U, D and the condition are those of their rules (R48, R51). -/
structure Pbu.FiguresRight (b : Pbu) : Prop extends b.SupplyRight where
  demand_right : b.demand = b.demandNow

/-- Each timer runs in its own state alone, and the start-up hold keeps the machine WITHIN (R56, R57). -/
structure Pbu.MachineRight (b : Pbu) : Prop where
  held_within : b.hold = true → b.budget = .within
  grace_timer : b.graceTimer ≠ .stopped ↔ b.budget = .grace
  interval_timer : b.intervalTimer ≠ .stopped ↔ b.budget = .shedding

/-- The machine stands where the H of the last recomputation puts it (R56, R57). -/
def Pbu.WithinRight (b : Pbu) : Prop := b.budget = .within ↔ b.hold = true ∨ 0 ≤ b.headroom

theorem Pbu.sound_iff {b : Pbu} : b.Sound ↔ b.TablesRight ∧ b.FiguresRight ∧ b.MachineRight ∧ b.WithinRight := by
  constructor
  · intro h
    exact ⟨⟨h.available_right, fun i => ⟨h.ports_once i, h.ports_here i, h.standby_below i⟩, h.policy_range⟩,
      ⟨⟨h.usable_right, h.redundancy_right⟩, h.demand_right⟩,
      ⟨fun hold => h.within_right.2 (.inl hold), h.grace_timer, h.interval_timer⟩, h.within_right⟩
  · rintro ⟨tables, figures, machine, within⟩
    exact
      { available_right := tables.available_right, policy_range := tables.policy_range
        ports_once := fun i => (tables.slots_right i).once, ports_here := fun i => (tables.slots_right i).here
        standby_below := fun i => (tables.slots_right i).standby_below
        usable_right := figures.usable_right, redundancy_right := figures.redundancy_right
        demand_right := figures.demand_right, within_right := within
        grace_timer := machine.grace_timer, interval_timer := machine.interval_timer }

namespace Pbu.Sound

variable {b : Pbu} (h : b.Sound)

include h

theorem tables : b.TablesRight := (Pbu.sound_iff.1 h).1
theorem figures : b.FiguresRight := (Pbu.sound_iff.1 h).2.1
theorem supply : b.SupplyRight := h.figures.toSupplyRight
theorem machine : b.MachineRight := (Pbu.sound_iff.1 h).2.2.1

/-- Out of WITHIN the hold is over and H is below 0. -/
theorem short_of_not_within (hb : b.budget ≠ .within) : b.hold = false ∧ b.headroom < 0 := by
  have := mt h.within_right.2 hb
  simp only [not_or, Bool.not_eq_true, not_le] at this
  exact this

/-- WITHIN, with the hold over, H is not below 0. -/
theorem enough_of_within (hold : b.hold = false) (hb : b.budget = .within) : 0 ≤ b.headroom :=
  (h.within_right.1 hb).resolve_left (by simp [hold])

end Pbu.Sound

theorem Pbu.MachineRight.stopped_of_within {b : Pbu} (h : b.MachineRight) (hb : b.budget = .within) :
    b.graceTimer = .stopped ∧ b.intervalTimer = .stopped :=
  ⟨not_not.1 fun run => by simpa [hb] using h.grace_timer.1 run, not_not.1 fun run => by simpa [hb] using h.interval_timer.1 run⟩

/-! ### What the unit sends while it computes again -/

/-- The bus goes on with marks and alarm requests, and with these messages to the SLS: no other channel is touched. -/
structure Bus.Tells (orders : List PbuToSls) (b b' : Bus) : Prop where
  frame : b' = { b with toSpw := b'.toSpw, toAtu := b'.toAtu, pbuSls := b.pbuSls ++ orders }
  asked : b.toAtu <+: b'.toAtu

namespace Bus.Tells

theorem refl (b : Bus) : Tells [] b b := ⟨by simp, List.prefix_refl _⟩

theorem trans {x y : List PbuToSls} {a b c : Bus} (h : Tells x a b) (h' : Tells y b c) : Tells (x ++ y) a c where
  frame := by
    have := h'.frame
    rw [h.frame] at this
    simpa only [List.append_assoc] using this
  asked := h.asked.trans h'.asked

/-- Two stretches without a message to the SLS. -/
theorem silent {a b c : Bus} (h : Tells [] a b) (h' : Tells [] b c) : Tells [] a c := h.trans h'

theorem markIf (b : Bus) (x : Bool) (r : PageRecord) : Tells [] b (b.markIf x r) := by
  rw [markIf_eq]
  exact ⟨by simp, List.prefix_refl _⟩

theorem mark (b : Bus) (r : PageRecord) : Tells [] b (b.mark r) := markIf b true r

theorem raise (b : Bus) (k : AlarmKind) (o : Nat) : Tells [] b (b.raise k o) :=
  ⟨by simp [Bus.raise], List.prefix_append _ _⟩

theorem clearAlarm (b : Bus) (k : AlarmKind) (o : Nat) : Tells [] b (b.clearAlarm k o) :=
  ⟨by simp [Bus.clearAlarm], List.prefix_append _ _⟩

theorem send (b : Bus) (m : PbuToSls) : Tells [m] b (b.sendPbuSls m) := ⟨rfl, List.prefix_refl _⟩

end Bus.Tells

theorem pbuFigures_tells (c : At Pbu) : Bus.Tells [] c.bus (pbuFigures c).bus := by
  unfold pbuFigures
  dsimp only
  split_ifs
  · exact (Bus.Tells.markIf _ _ _).silent (.raise _ _ _)
  · exact (Bus.Tells.markIf _ _ _).silent (.clearAlarm _ _ _)
  · exact .markIf _ _ _

theorem setBudget_tells (x : BudgetState) (g i : Timer) (c : At Pbu) : Bus.Tells [] c.bus (setBudget x g i c).bus :=
  .markIf _ _ _

theorem backWithin_tells (c : At Pbu) : Bus.Tells [] c.bus (backWithin c).bus :=
  (setBudget_tells _ _ _ c).silent (.clearAlarm _ _ _)

/-- R60: the victim UNPOWERED and marked, its order sent, and nothing computed again yet. -/
def orderedOff (i : Slot) (c : At Pbu) : At Pbu :=
  { own := { c.own with slots := setAt c.own.slots i { c.own.slots[i] with standing := .unpowered, shedPending := true } }
    bus := c.bus.sendPbuSls (.shedOrder i) }

theorem shedSlot_eq (i : Slot) (c : At Pbu) : shedSlot i c =
    if 0 ≤ (pbuFigures (orderedOff i c)).own.headroom then backWithin (pbuFigures (orderedOff i c))
    else pbuFigures (orderedOff i c) := rfl

theorem shedSlot_tells (i : Slot) (c : At Pbu) : Bus.Tells [.shedOrder i] c.bus (shedSlot i c).bus := by
  have computed : Bus.Tells [.shedOrder i] c.bus (pbuFigures (orderedOff i c)).bus :=
    (Bus.Tells.send _ _).trans (pbuFigures_tells (orderedOff i c))
  rw [shedSlot_eq]
  split_ifs
  · exact computed.trans (backWithin_tells _)
  · exact computed

/-- R58: the machine falls out of WITHIN. -/
def overBudget (c : At Pbu) : At Pbu :=
  let c : At Pbu := { c with bus := c.bus.raise .overBudget 0 }
  if c.own.policy.grace = 0 then shedOrExhaust c
  else setBudget .grace (.running (1000 * c.own.policy.grace)) .stopped c

/-- From WITHIN, with the hold over, an H below 0 starts the episode (R58). -/
theorem takeHeadroom_of_fall {c : At Pbu} (hold : c.own.hold = false) (hb : c.own.budget = .within)
    (hh : c.own.headroom < 0) : takeHeadroom c = overBudget c := by
  simp [takeHeadroom, overBudget, hold, hb, hh]

/-- What the machine does with an H is one of three things: nothing, the return to WITHIN, the start of an episode. -/
theorem takeHeadroom_cases (c : At Pbu) {P : At Pbu → Prop}
    (stays : c.own.hold = true ∨ (c.own.budget = .within ↔ 0 ≤ c.own.headroom) → P c)
    (back : c.own.hold = false → c.own.budget ≠ .within → 0 ≤ c.own.headroom → P (backWithin c))
    (falls : c.own.hold = false → c.own.budget = .within → c.own.headroom < 0 → P (overBudget c)) :
    P (takeHeadroom c) := by
  by_cases hold : c.own.hold = true
  · rw [takeHeadroom_of_hold hold]; exact stays (.inl hold)
  rw [Bool.not_eq_true] at hold
  by_cases enough : 0 ≤ c.own.headroom <;> by_cases within : c.own.budget = .within
  · rw [takeHeadroom_of_enough hold enough, if_pos within]; exact stays (.inr (iff_of_true within enough))
  · rw [takeHeadroom_of_enough hold enough, if_neg within]; exact back hold within enough
  · rw [takeHeadroom_of_fall hold within (not_le.1 enough)]; exact falls hold within (not_le.1 enough)
  · rw [takeHeadroom_of_short (not_le.1 enough) within]; exact stays (.inr (iff_of_false within enough))

/-- What the machine does without a victim or with one. -/
theorem shedOrExhaust_cases (c : At Pbu) {P : At Pbu → Prop}
    (sheds : ∀ i, victim c.own.slots = some i → P (shedSlot i (setBudget .shedding .stopped (.running 1000) c)))
    (exhausted : victim c.own.slots = none → P (setBudget .exhausted .stopped .stopped c)) : P (shedOrExhaust c) := by
  unfold shedOrExhaust
  split
  next i hi => exact sheds i hi
  next hn => exact exhausted hn

theorem shedOrExhaust_tells (c : At Pbu) : ∃ orders, Bus.Tells orders c.bus (shedOrExhaust c).bus :=
  shedOrExhaust_cases c (P := fun d => ∃ orders, Bus.Tells orders c.bus d.bus)
    (fun _ _ => ⟨_, (setBudget_tells _ _ _ c).trans (shedSlot_tells _ _)⟩) fun _ => ⟨_, setBudget_tells _ _ _ c⟩

theorem overBudget_tells (c : At Pbu) : ∃ orders, Bus.Tells orders c.bus (overBudget c).bus := by
  have raised := Bus.Tells.raise c.bus .overBudget 0
  obtain ⟨orders, shed⟩ := shedOrExhaust_tells { c with bus := c.bus.raise .overBudget 0 }
  unfold overBudget
  dsimp only
  split_ifs
  · exact ⟨_, raised.trans shed⟩
  · exact ⟨_, raised.trans (setBudget_tells _ _ _ { c with bus := c.bus.raise .overBudget 0 })⟩

theorem takeHeadroom_tells (c : At Pbu) : ∃ orders, Bus.Tells orders c.bus (takeHeadroom c).bus :=
  takeHeadroom_cases c (P := fun d => ∃ orders, Bus.Tells orders c.bus d.bus) (fun _ => ⟨_, .refl _⟩)
    (fun _ _ _ => ⟨_, backWithin_tells c⟩) fun _ _ _ => overBudget_tells c

theorem recompute_tells (c : At Pbu) : ∃ orders, Bus.Tells orders c.bus (recompute c).bus := by
  obtain ⟨orders, told⟩ := takeHeadroom_tells (pbuFigures c)
  exact ⟨_, (pbuFigures_tells c).trans told⟩

/-! ### What the recomputation leaves -/

/-- The records, the policy, the trays and the start-up hold stand. -/
structure Pbu.Kept (b b' : Pbu) : Prop where
  modules : b'.modules = b.modules
  policy : b'.policy = b.policy
  trays : b'.trays = b.trays
  hold : b'.hold = b.hold
  awaited : b'.awaited = b.awaited
  finished : b'.finished = b.finished
  heldClaims : b'.heldClaims = b.heldClaims

namespace Pbu.Kept

theorem refl (b : Pbu) : b.Kept b := ⟨rfl, rfl, rfl, rfl, rfl, rfl, rfl⟩

theorem trans {a b c : Pbu} (h : a.Kept b) (h' : b.Kept c) : a.Kept c :=
  ⟨h'.modules.trans h.modules, h'.policy.trans h.policy, h'.trays.trans h.trays, h'.hold.trans h.hold,
    h'.awaited.trans h.awaited, h'.finished.trans h.finished, h'.heldClaims.trans h.heldClaims⟩

theorem pbuFigures (c : At Pbu) : c.own.Kept (pbuFigures c).own := ⟨rfl, rfl, rfl, rfl, rfl, rfl, rfl⟩

theorem setBudget (x : BudgetState) (g i : Timer) (c : At Pbu) : c.own.Kept (setBudget x g i c).own :=
  ⟨rfl, rfl, rfl, rfl, rfl, rfl, rfl⟩

theorem shedSlot (i : Slot) (c : At Pbu) : c.own.Kept (shedSlot i c).own := by
  rw [shedSlot_eq]
  split_ifs <;> exact ⟨rfl, rfl, rfl, rfl, rfl, rfl, rfl⟩

theorem shedOrExhaust (c : At Pbu) : c.own.Kept (shedOrExhaust c).own :=
  shedOrExhaust_cases c (P := fun d => c.own.Kept d.own) (fun _ _ => (setBudget _ _ _ c).trans (shedSlot _ _))
    fun _ => setBudget _ _ _ c

theorem overBudget (c : At Pbu) : c.own.Kept (overBudget c).own := by
  unfold Machine.overBudget
  dsimp only
  split_ifs
  · exact shedOrExhaust { c with bus := c.bus.raise .overBudget 0 }
  · exact setBudget _ _ _ { c with bus := c.bus.raise .overBudget 0 }

theorem takeHeadroom (c : At Pbu) : c.own.Kept (takeHeadroom c).own :=
  takeHeadroom_cases c (P := fun d => c.own.Kept d.own) (fun _ => refl _) (fun _ _ _ => setBudget _ _ _ c)
    fun _ _ _ => overBudget c

theorem recompute (c : At Pbu) : c.own.Kept (recompute c).own := (pbuFigures c).trans (takeHeadroom _)

end Pbu.Kept

/-! ### The figures after the recomputation (R47 to R51) -/

namespace Pbu.TablesRight

variable {b b' : Pbu} (h : b.TablesRight)

include h

theorem of_same (modules : b'.modules = b.modules) (slots : b'.slots = b.slots) (policy : b'.policy = b.policy) :
    b'.TablesRight :=
  ⟨modules ▸ h.available_right, slots ▸ h.slots_right, policy ▸ h.policy_range⟩

/-- One slot entry replaced by a right one. -/
theorem withSlot {i : Slot} {e : SlotEntry} (he : e.Right i) : { b with slots := setAt b.slots i e }.TablesRight where
  available_right := h.available_right
  slots_right j := by
    rw [setAt_get]
    split_ifs with eq
    · exact eq ▸ he
    · exact h.slots_right j
  policy_range := h.policy_range

/-- One module record replaced, with its available watts. -/
theorem withModule {k : Fin 4} {r : ModuleRec} (hr : r.available = availableOf r) :
    { b with modules := setAt b.modules k r }.TablesRight where
  available_right j := by
    rw [setAt_get]
    split_ifs
    · exact hr
    · exact h.available_right j
  slots_right := h.slots_right
  policy_range := h.policy_range

end Pbu.TablesRight

theorem pbuFigures_figures (c : At Pbu) : (pbuFigures c).own.FiguresRight := ⟨⟨rfl, rfl⟩, rfl⟩

/-- Figures that are right stay, and nothing is sent. -/
theorem pbuFigures_of_right {c : At Pbu} (h : c.own.FiguresRight) : pbuFigures c = c := by
  obtain ⟨own, bus⟩ := c
  obtain ⟨⟨usable, lost⟩, demand⟩ := h
  simp only at usable lost demand
  simp [pbuFigures, ← usable, ← lost, ← demand, Bus.markIf]

/-- Where U is right, D alone moves, and the header is marked when it does. -/
theorem pbuFigures_of_supply {c : At Pbu} (h : c.own.SupplyRight) : pbuFigures c =
    { own := { c.own with demand := c.own.demandNow }
      bus := { c.bus with toSpw := c.bus.toSpw ++ if c.own.demandNow = c.own.demand then [] else [.header] } } := by
  obtain ⟨own, bus⟩ := c
  obtain ⟨usable, lost⟩ := h
  simp only at usable lost
  simp [pbuFigures, ← usable, ← lost, markIf_eq]

end Sys2Proof.Machine

/-! PROOFS. One slot shed (R58 to R60): the victim, what its shedding leaves, and that each passage of the over-budget
machine leaves a sound budget. -/

namespace Sys2Proof.Machine

open Sys2Proof

/-! ### The victim (R60) -/

/-- Slot v goes before slot i: by a lower priority value, or by a higher number among equals. -/
def shedsBefore (slots : Vector SlotEntry 8) (v i : Slot) : Prop :=
  slots[v].priority < slots[i].priority ∨ (slots[v].priority = slots[i].priority ∧ i < v)

/-- Slot v is a candidate and goes before every other one. -/
def IsVictim (slots : Vector SlotEntry 8) (v : Slot) : Prop :=
  slots[v].standing ≠ .unpowered ∧ ∀ i : Slot, slots[i].standing ≠ .unpowered → i ≠ v → shedsBefore slots v i

/-- The better of the victim so far and slot i. -/
def victimStep (slots : Vector SlotEntry 8) (best : Option Slot) (i : Slot) : Option Slot :=
  if candidate slots[i] then
    match best with
    | none => some i
    | some j => if slots[i].priority ≤ slots[j].priority then some i else some j
  else best

theorem candidate_iff {e : SlotEntry} : candidate e = true ↔ e.standing ≠ .unpowered := by simp [candidate]

/-- What the search has found among the slots of a list: a candidate that goes before every other one, or that there is
none. -/
def BestAmong (slots : Vector SlotEntry 8) (l : List Slot) : Option Slot → Prop
  | none => ∀ i ∈ l, slots[i].standing = .unpowered
  | some v => v ∈ l ∧ slots[v].standing ≠ .unpowered ∧
      ∀ i ∈ l, slots[i].standing ≠ .unpowered → i ≠ v → shedsBefore slots v i

/-- A slot that is no candidate changes nothing of the search. -/
theorem BestAmong.skip {slots : Vector SlotEntry 8} {l : List Slot} {best : Option Slot} {k : Slot}
    (h : BestAmong slots l best) (hk : slots[k].standing = .unpowered) : BestAmong slots (l ++ [k]) best := by
  have among {i : Slot} (hi : i ∈ l ++ [k]) (ci : slots[i].standing ≠ .unpowered) : i ∈ l :=
    (List.mem_append.1 hi).resolve_right fun e => ci (List.mem_singleton.1 e ▸ hk)
  cases best with
  | none => exact fun i hi => by_contra fun ci => ci (h i (among hi ci))
  | some v => exact ⟨List.mem_append_left _ h.1, h.2.1, fun i hi ci ne => h.2.2 i (among hi ci) ci ne⟩

/-- A candidate above the slots searched takes the place of the best one unless that has the lower priority value. -/
theorem BestAmong.tried {slots : Vector SlotEntry 8} {l : List Slot} {best : Option Slot} {k : Slot}
    (h : BestAmong slots l best) (hk : slots[k].standing ≠ .unpowered) (above : ∀ i ∈ l, i < k) :
    BestAmong slots (l ++ [k]) (match best with
      | none => some k
      | some j => if slots[k].priority ≤ slots[j].priority then some k else some j) := by
  have last : k ∈ l ++ [k] := List.mem_append_right _ (List.mem_singleton_self k)
  cases best with
  | none =>
    refine ⟨last, hk, fun i hi ci ne => ?_⟩
    have hi : i ∈ l := (List.mem_append.1 hi).resolve_right fun e => ne (List.mem_singleton.1 e)
    exact absurd (h i hi) ci
  | some v =>
    obtain ⟨mem, cand, first⟩ := h
    dsimp only
    split_ifs with le
    · refine ⟨last, hk, fun i hi ci ne => ?_⟩
      have hi : i ∈ l := (List.mem_append.1 hi).resolve_right fun e => ne (List.mem_singleton.1 e)
      have low : slots[v].priority ≤ slots[i].priority := by
        by_cases e : i = v
        · rw [e]
        · exact (first i hi ci e).elim le_of_lt fun h => h.1.le
      exact (le.trans low).lt_or_eq.imp id fun eq => ⟨eq, above i hi⟩
    · refine ⟨List.mem_append_left _ mem, cand, fun i hi ci ne => ?_⟩
      rcases List.mem_append.1 hi with hi | hi
      · exact first i hi ci ne
      · rw [List.mem_singleton.1 hi]; exact .inl (not_le.1 le)

/-- The search over an ascending list finds the best of the list. -/
theorem victimStep_fold (slots : Vector SlotEntry 8) (l : List Slot) (asc : l.Pairwise (· < ·)) :
    BestAmong slots l (l.foldl (victimStep slots) none) := by
  induction l using List.reverseRecOn with
  | nil => intro i hi; cases hi
  | append_singleton l k ih =>
    obtain ⟨asc, -, above⟩ := List.pairwise_append.1 asc
    rw [List.foldl_append, List.foldl_cons, List.foldl_nil]
    unfold victimStep
    split_ifs with cand
    · exact (ih asc).tried (candidate_iff.1 cand) fun i hi => above i hi k (List.mem_singleton_self k)
    · exact (ih asc).skip (not_not.1 (mt candidate_iff.2 cand))

theorem indices_ascending (n : Nat) : (indices n).Pairwise (· < ·) := List.pairwise_lt_finRange n

theorem victim_best (slots : Vector SlotEntry 8) : BestAmong slots (indices 8) (victim slots) :=
  victimStep_fold slots (indices 8) (indices_ascending 8)

theorem victim_eq_none {slots : Vector SlotEntry 8} (h : ∀ i : Slot, slots[i].standing = .unpowered) :
    victim slots = none := by
  have best := victim_best slots
  cases found : victim slots with
  | none => rfl
  | some v => rw [found] at best; exact absurd (h v) best.2.1

/-- Of two slots one alone goes before the other. -/
theorem shedsBefore_asymm {slots : Vector SlotEntry 8} {v i : Slot} (h : shedsBefore slots v i) :
    ¬ shedsBefore slots i v := by
  rintro (lt' | ⟨eq', lt'⟩) <;> rcases h with lt | ⟨eq, lt⟩
  · exact lt.asymm lt'
  · exact lt'.ne' eq
  · exact lt.ne' eq'
  · exact lt.asymm lt'

/-- The candidate that goes before every other one is the victim. -/
theorem victim_eq_some {slots : Vector SlotEntry 8} {v : Slot} (h : IsVictim slots v) : victim slots = some v := by
  have best := victim_best slots
  cases found : victim slots with
  | none => rw [found] at best; exact absurd (best v (mem_indices v)) h.1
  | some w =>
    rw [found] at best
    obtain ⟨-, cand, first⟩ := best
    by_contra ne
    have ne : w ≠ v := fun e => ne (congrArg some e)
    exact shedsBefore_asymm (h.2 w cand ne) (first v (mem_indices v) h.1 ne.symm)

/-! ### One slot shed -/

/-- H after the victim's shedding. -/
def headroomWithout (i : Slot) (b : Pbu) : Int :=
  (b.usable : Int) - demandOf b.policy.wb b.policy.port b.trays
    (setAt b.slots i { b.slots[i] with standing := .unpowered, shedPending := true })

section shed

variable {c : At Pbu} (h : c.own.SupplyRight) (i : Slot)

include h

/-- The recomputation after the order takes D and H without the victim. -/
theorem orderedOff_figures : (pbuFigures (orderedOff i c)).own = { (orderedOff i c).own with
    demand := (orderedOff i c).own.demandNow } := by
  rw [pbuFigures_of_supply (c := orderedOff i c) ⟨h.usable_right, h.redundancy_right⟩]

theorem orderedOff_headroom : (pbuFigures (orderedOff i c)).own.headroom = headroomWithout i c.own := by
  rw [orderedOff_figures h]
  rfl

/-- The victim is UNPOWERED and marked, D is without it, and the machine is WITHIN when H is back (R60). -/
theorem shedSlot_own : (shedSlot i c).own =
    let slots := setAt c.own.slots i { c.own.slots[i] with standing := .unpowered, shedPending := true }
    let back := 0 ≤ headroomWithout i c.own
    { c.own with
      slots := slots
      demand := demandOf c.own.policy.wb c.own.policy.port c.own.trays slots
      budget := if back then .within else c.own.budget
      graceTimer := if back then .stopped else c.own.graceTimer
      intervalTimer := if back then .stopped else c.own.intervalTimer } := by
  rw [shedSlot_eq, orderedOff_headroom h]
  dsimp only
  split_ifs
  · rw [backWithin, setBudget_own, orderedOff_figures h]; rfl
  · rw [orderedOff_figures h]; rfl

/-- Its order goes to the SLS, and the clear of OVER_BUDGET to the ATU when H is back. -/
theorem shedSlot_bus : (shedSlot i c).bus = { c.bus with
    pbuSls := c.bus.pbuSls ++ [.shedOrder i]
    toSpw := (shedSlot i c).bus.toSpw
    toAtu := c.bus.toAtu ++
      if 0 ≤ headroomWithout i c.own then [{ raised := false, kind := .overBudget, object := 0 }] else [] } := by
  have computed : (pbuFigures (orderedOff i c)).bus.toAtu = c.bus.toAtu := by
    rw [pbuFigures_of_supply (c := orderedOff i c) ⟨h.usable_right, h.redundancy_right⟩]
    rfl
  have asked : (shedSlot i c).bus.toAtu = c.bus.toAtu ++
      if 0 ≤ headroomWithout i c.own then [{ raised := false, kind := .overBudget, object := 0 }] else [] := by
    rw [shedSlot_eq, orderedOff_headroom h]
    split_ifs
    · rw [← computed, backWithin, Bus.clearAlarm, setBudget, markIf_eq]
    · rw [computed, List.append_nil]
  rw [← asked]
  exact (shedSlot_tells i c).frame

end shed

/-! ### A sound budget after the machine has taken H -/

theorem pbuFigures_tables {c : At Pbu} (h : c.own.TablesRight) : (pbuFigures c).own.TablesRight := h.of_same rfl rfl rfl

theorem pbuFigures_machine {c : At Pbu} (h : c.own.MachineRight) : (pbuFigures c).own.MachineRight :=
  ⟨h.held_within, h.grace_timer, h.interval_timer⟩

theorem setBudget_sound {c : At Pbu} {x : BudgetState} {g i : Timer} (tables : c.own.TablesRight)
    (figures : c.own.FiguresRight) (grace : g ≠ .stopped ↔ x = .grace) (interval : i ≠ .stopped ↔ x = .shedding)
    (hold : c.own.hold = false) (within : x = .within ↔ 0 ≤ c.own.headroom) : (setBudget x g i c).own.Sound := by
  refine Pbu.sound_iff.2 ⟨tables.of_same rfl rfl rfl, ⟨⟨figures.usable_right, figures.redundancy_right⟩,
    figures.demand_right⟩, ⟨fun held => ?_, grace, interval⟩, ?_⟩
  · rw [setBudget_own] at held
    simp [hold] at held
  · simp only [Pbu.WithinRight, setBudget_own, hold, Bool.false_eq_true, false_or]
    exact within

theorem backWithin_sound {c : At Pbu} (tables : c.own.TablesRight) (figures : c.own.FiguresRight)
    (hold : c.own.hold = false) (enough : 0 ≤ c.own.headroom) : (backWithin c).own.Sound :=
  setBudget_sound tables figures (by simp) (by simp) hold (iff_of_true rfl enough)

/-- A slot shed from SHEDDING leaves the machine there, or takes it back. -/
theorem shedSlot_sound {c : At Pbu} (tables : c.own.TablesRight) (machine : c.own.MachineRight)
    (hold : c.own.hold = false) (shedding : c.own.budget = .shedding) (i : Slot) : (shedSlot i c).own.Sound := by
  have entry : SlotEntry.Right i { c.own.slots[i] with standing := .unpowered, shedPending := true } :=
    ⟨(tables.slots_right i).once, (tables.slots_right i).here, (tables.slots_right i).standby_below⟩
  have tables : (pbuFigures (orderedOff i c)).own.TablesRight := (tables.withSlot entry).of_same rfl rfl rfl
  have figures := pbuFigures_figures (orderedOff i c)
  rw [shedSlot_eq]
  split_ifs with back
  · exact backWithin_sound tables figures hold back
  · refine Pbu.sound_iff.2 ⟨tables, figures, pbuFigures_machine ⟨machine.held_within, machine.grace_timer,
      machine.interval_timer⟩, iff_of_false ?_ ?_⟩
    · change c.own.budget ≠ .within
      simp [shedding]
    · rintro (held | enough)
      · exact Bool.false_ne_true (hold.symm.trans held)
      · exact back enough

/-- R58, R59: a slot shed, or none found. -/
theorem shedOrExhaust_sound {c : At Pbu} (tables : c.own.TablesRight) (figures : c.own.FiguresRight)
    (hold : c.own.hold = false) (short : c.own.headroom < 0) : (shedOrExhaust c).own.Sound := by
  refine shedOrExhaust_cases c (P := fun d => d.own.Sound) (fun i _ => ?_) fun _ => ?_
  · have machine : (setBudget .shedding .stopped (.running 1000) c).own.MachineRight :=
      ⟨fun held => absurd (hold.symm.trans held) Bool.false_ne_true, by simp, by simp⟩
    exact shedSlot_sound (c := setBudget .shedding .stopped (.running 1000) c) (tables.of_same rfl rfl rfl) machine
      hold rfl i
  · exact setBudget_sound tables figures (by simp) (by simp) hold (iff_of_false (by simp) (not_le.2 short))

/-- R58: whatever H the machine takes, it stands where that H puts it. -/
theorem takeHeadroom_sound {c : At Pbu} (tables : c.own.TablesRight) (figures : c.own.FiguresRight)
    (machine : c.own.MachineRight) : (takeHeadroom c).own.Sound := by
  refine takeHeadroom_cases c (P := fun d => d.own.Sound) (fun stands => ?_) (fun hold _ enough => ?_)
    fun hold within short => ?_
  · refine Pbu.sound_iff.2 ⟨tables, figures, machine, ?_⟩
    rcases stands with held | iff
    · exact iff_of_true (machine.held_within held) (.inl held)
    · refine iff.trans ⟨.inr, fun h => h.elim (fun held => iff.1 (machine.held_within held)) id⟩
  · exact backWithin_sound tables figures hold enough
  · unfold overBudget
    dsimp only
    split_ifs
    · exact shedOrExhaust_sound tables figures hold short
    · exact setBudget_sound tables figures (by simp) (by simp) hold (iff_of_false (by simp) (not_le.2 short))

/-- R51: after the recomputation the budget is sound, whatever figures stood before. -/
theorem recompute_sound {c : At Pbu} (tables : c.own.TablesRight) (machine : c.own.MachineRight) :
    (recompute c).own.Sound :=
  takeHeadroom_sound (pbuFigures_tables tables) (pbuFigures_figures c) (pbuFigures_machine machine)

end Sys2Proof.Machine

/-! PROOFS. Each operation of the PBU leaves a sound budget sound (R40 to R56). -/

namespace Sys2Proof.Machine

open Sys2Proof

/-! ### Parts of a sound budget replaced -/

theorem Pbu.MachineRight.of_same {b b' : Pbu} (h : b.MachineRight) (hold : b'.hold = b.hold)
    (budget : b'.budget = b.budget) (grace : b'.graceTimer = b.graceTimer)
    (interval : b'.intervalTimer = b.intervalTimer) : b'.MachineRight :=
  ⟨by rw [hold, budget]; exact h.held_within, by rw [grace, budget]; exact h.grace_timer,
    by rw [interval, budget]; exact h.interval_timer⟩

namespace Pbu.Sound

variable {b : Pbu} (h : b.Sound)

include h

/-- What the start-up hold keeps has no part in the figures. -/
theorem withHeld (awaited finished : Vector Bool 4) (held : List HeldClaim) :
    { b with awaited := awaited, finished := finished, heldClaims := held }.Sound := by
  cases h
  constructor <;> assumption

/-- A slot entry replaced by one of the same watts. -/
theorem withSlot {i : Slot} {e : SlotEntry} (he : e.Right i)
    (same : slotWatts b.policy.port e = slotWatts b.policy.port b.slots[i]) :
    { b with slots := setAt b.slots i e }.Sound := by
  have demand := demandOf_setSlot b.policy.wb b.policy.port b.trays b.slots i e
  rw [same] at demand
  refine Pbu.sound_iff.2 ⟨h.tables.withSlot he, ⟨⟨h.usable_right, h.redundancy_right⟩, ?_⟩,
    h.machine.of_same rfl rfl rfl rfl, h.within_right⟩
  exact h.figures.demand_right.trans (Nat.add_right_cancel demand).symm

/-- A module record replaced by one that supplies the same. -/
theorem withModule {k : Fin 4} {r : ModuleRec} (hr : r.available = availableOf r)
    (same : r.supply = b.modules[k].supply) : { b with modules := setAt b.modules k r }.Sound := by
  have supply := supply_setAt same
  refine Pbu.sound_iff.2 ⟨h.tables.withModule hr, ⟨⟨?_, ?_⟩, h.figures.demand_right⟩,
    h.machine.of_same rfl rfl rfl rfl, h.within_right⟩
  · exact h.usable_right.trans (usableOf_of_supply supply _).symm
  · exact h.redundancy_right.trans (redundancyLostOf_of_supply supply _).symm

end Pbu.Sound

/-! ### Claims (R52 to R54) -/

theorem judgeClaim_sound {c : At Pbu} {i : Slot} {e : SlotEntry} (h : c.own.Sound) (he : e.Right i) (need : Int)
    (g : Grant) : (judgeClaim i need e g c).1.own.Sound := by
  by_cases granted : need ≤ 0 ∨ need ≤ c.own.headroom
  · rw [judgeClaim_granted granted]
    exact recompute_sound (h.tables.withSlot he) (h.machine.of_same rfl rfl rfl rfl)
  · rw [not_or, not_le, not_le] at granted
    rw [judgeClaim_refused granted.1 granted.2]
    exact h

/-- Only ports and watts decide whether an entry is right. -/
theorem SlotEntry.Right.of_ports {i : Slot} {e e' : SlotEntry} (h : e.Right i) (ports : e'.ports = e.ports)
    (ws : e'.ws = e.ws) (wsb : e'.wsb = e.wsb) : e'.Right i :=
  ⟨ports ▸ h.once, ports ▸ h.here, by rw [ws, wsb]; exact h.standby_below⟩

/-- An entry with a tier changed. -/
theorem SlotEntry.Right.retier {i : Slot} {e : SlotEntry} (h : e.Right i) {p : Port} (hp : slotOf p = i) (t : Tier) :
    SlotEntry.Right i { e with ports := retier p t e.ports } where
  once := by rw [retier_ports]; exact h.once
  here x hx := by
    obtain ⟨y, hy, rfl⟩ := List.mem_map.1 hx
    split_ifs
    · exact hp
    · exact h.here y hy
  standby_below := h.standby_below

/-- An entry with a port added that was not listed. -/
theorem SlotEntry.Right.addPort {i : Slot} {e : SlotEntry} (h : e.Right i) {p : Port} (hp : slotOf p = i)
    (new : ∀ x ∈ e.ports, x.1 ≠ p) (t : Tier) : SlotEntry.Right i { e with ports := e.ports ++ [(p, t)] } where
  once := by
    rw [List.map_append, List.nodup_append]
    refine ⟨h.once, List.nodup_singleton _, fun q hq q' hq' => ?_⟩
    obtain ⟨x, hx, rfl⟩ := List.mem_map.1 hq
    rw [List.map_singleton, List.mem_singleton] at hq'
    exact hq' ▸ new x hx
  here x hx := by
    rcases List.mem_append.1 hx with hx | hx
    · exact h.here x hx
    · rw [List.mem_singleton.1 hx]; exact hp
  standby_below := h.standby_below

section claims

variable {c : At Pbu} (h : c.own.Sound)

include h

theorem tierClaim_sound (p : Port) (t : Tier) : (tierClaim p t c).1.own.Sound :=
  judgeClaim_sound h ((h.tables.slots_right _).retier rfl t) _ _

theorem portClaim_sound (p : Port) (t : Tier) : (portClaim p t c).1.own.Sound := by
  unfold portClaim
  dsimp only
  split_ifs with listed
  · exact tierClaim_sound h p t
  · have new : ∀ x ∈ c.own.slots[slotOf p].ports, x.1 ≠ p :=
      recordedTier_eq_none.1 (by simpa using listed)
    have added := (h.tables.slots_right (slotOf p)).addPort rfl new t
    split
    · exact judgeClaim_sound h added _ _
    · refine judgeClaim_sound h ?_ _ _
      exact added.of_ports rfl rfl rfl
    · exact judgeClaim_sound h added _ _

theorem wakeClaim_sound (i : Slot) : (wakeClaim i c).1.own.Sound := by
  have entry := h.tables.slots_right i
  unfold wakeClaim
  dsimp only
  split
  · refine judgeClaim_sound h ?_ _ _
    exact entry.of_ports rfl rfl rfl
  · exact judgeClaim_sound h entry _ _

theorem slotClaim_sound (i : Slot) (ws wsb : Nat) : (slotClaim i ws wsb c).1.own.Sound := by
  have entry := h.tables.slots_right i
  unfold slotClaim
  dsimp only
  split_ifs
  · exact h
  · split
    · refine judgeClaim_sound h ?_ _ _
      exact ⟨entry.once, entry.here, min_le_right _ _⟩
    · refine judgeClaim_sound h ?_ _ _
      exact entry.of_ports rfl rfl rfl
    · exact judgeClaim_sound h entry _ _

theorem pbuClaim_sound (x : HeldClaim) : (pbuClaim x c).own.Sound := by
  unfold pbuClaim
  split_ifs
  · exact h.withHeld _ _ _
  · cases x with
    | sls i ws wsb => exact slotClaim_sound h i ws wsb
    | ptu m =>
      cases m with
      | portClaim p t => exact portClaim_sound h p t
      | tierClaim p old t => exact tierClaim_sound h p t
      | wakeClaim i => exact wakeClaim_sound h i
      | portRelease p => exact h
      | tierReturn p t => exact h

end claims

theorem endHold_sound {c : At Pbu} (h : c.own.Sound) : (endHold c).own.Sound := by
  have taken : (takeHeadroom { c with own := { c.own with hold := false, heldClaims := [] } }).own.Sound :=
    takeHeadroom_sound (h.tables.of_same rfl rfl rfl)
      ⟨⟨h.usable_right, h.redundancy_right⟩, h.figures.demand_right⟩
      ⟨fun held => absurd held Bool.false_ne_true, h.grace_timer, h.interval_timer⟩
  have judged (l : List HeldClaim) (d : At Pbu) (hd : d.own.Sound) : (l.foldl (fun c x => pbuClaim x c) d).own.Sound := by
    induction l generalizing d with
    | nil => exact hd
    | cons x l ih => exact ih _ (pbuClaim_sound hd x)
  exact judged _ _ taken

/-! ### Releases, duty reports, priorities and shed answers (R49, R50, R55, R60) -/

section releases

variable {c : At Pbu} (h : c.own.Sound)

include h

theorem updSlot_sound {i : Slot} {f : SlotEntry → SlotEntry} (hf : (f c.own.slots[i]).Right i) :
    (updSlot i f c).own.Sound :=
  recompute_sound (h.tables.withSlot hf) (h.machine.of_same rfl rfl rfl rfl)

theorem releasePort_sound (p : Port) : (releasePort p c).own.Sound := by
  have entry := h.tables.slots_right (slotOf p)
  exact updSlot_sound h ⟨entry.once.sublist (List.filter_sublist.map _), fun x hx => entry.here x (List.mem_filter.1 hx).1,
    entry.standby_below⟩

theorem returnTier_sound (p : Port) (t : Tier) : (returnTier p t c).own.Sound :=
  updSlot_sound h ((h.tables.slots_right (slotOf p)).retier rfl t)

theorem stepDown_sound (i : Slot) : (stepDown i c).own.Sound := by
  refine updSlot_sound h ?_
  split_ifs
  · exact (h.tables.slots_right i).of_ports rfl rfl rfl
  · exact h.tables.slots_right i

theorem releaseSlot_sound (i : Slot) : (releaseSlot i c).own.Sound :=
  updSlot_sound h ((h.tables.slots_right i).of_ports rfl rfl rfl)

theorem takeDuty_sound (r : DutyReport) : (takeDuty r c).own.Sound :=
  recompute_sound (h.tables.of_same rfl rfl rfl) (h.machine.of_same rfl rfl rfl rfl)

theorem clearShed_sound (i : Slot) : (clearShed i c).own.Sound :=
  h.withSlot ((h.tables.slots_right i).of_ports rfl rfl rfl) rfl

theorem setPriority_sound (i : Slot) (v : Nat) : (setPriority i v c).own.Sound :=
  h.withSlot ((h.tables.slots_right i).of_ports rfl rfl rfl) rfl

/-- R59: a timer that runs shows that the hold is over and H below 0. -/
theorem shedOrExhaust_sound_of_timer (hb : c.own.budget ≠ .within) : (shedOrExhaust c).own.Sound :=
  shedOrExhaust_sound h.tables h.figures (h.short_of_not_within hb).1 (h.short_of_not_within hb).2

end releases

/-! ### Modules (R40 to R44) -/

/-- A record with its available watts computed. -/
def ModuleRec.computed (r : ModuleRec) : ModuleRec := { r with available := availableOf r }

@[simp] theorem writeModule_own (b : Fin 4) (r : ModuleRec) (c : At Pbu) :
    (writeModule b r c).own = { c.own with modules := setAt c.own.modules b r.computed } := rfl

theorem availableOf_of_not_ok {r : ModuleRec} (h : r.state ≠ .ok) : availableOf r = 0 := if_neg h

/-- A record that is right by R47, changed in fields that R47 does not read, supplies the same. -/
theorem computed_supply {r old : ModuleRec} (right : old.available = availableOf old) (state : r.state = old.state)
    (wr : r.wr = old.wr) (tin : r.tin = old.tin) : r.computed.supply = old.supply := by
  simp [ModuleRec.supply, ModuleRec.computed, right, availableOf, state, wr, tin]

/-- A module that is not in OK supplies nothing. -/
theorem computed_supply_of_not_ok {r old : ModuleRec} (right : old.available = availableOf old) (new : r.state ≠ .ok)
    (was : old.state ≠ .ok) : r.computed.supply = old.supply := by
  simp [ModuleRec.supply, ModuleRec.computed, right, availableOf, new, was]

section modules

variable {c : At Pbu} (h : c.own.Sound) (b : Fin 4)

include h

/-- A write that leaves what the module supplies. -/
theorem writeModule_sound {r : ModuleRec} (same : r.computed.supply = c.own.modules[b].supply) :
    (writeModule b r c).own.Sound := h.withModule rfl same

/-- A write followed by the recomputation; what stands between them is no part of the figures. -/
theorem recompute_writeModule_sound (r : ModuleRec) {d : At Pbu} (modules : d.own.modules = setAt c.own.modules b r.computed)
    (policy : d.own.policy = c.own.policy) (slots : d.own.slots = c.own.slots) (hold : d.own.hold = c.own.hold)
    (budget : d.own.budget = c.own.budget) (grace : d.own.graceTimer = c.own.graceTimer)
    (interval : d.own.intervalTimer = c.own.intervalTimer) : (recompute d).own.Sound :=
  recompute_sound ((h.tables.withModule (r := r.computed) rfl).of_same modules slots policy)
    (h.machine.of_same hold budget grace interval)

theorem requestPoll_sound : (requestPoll b c).own.Sound :=
  writeModule_sound h b (computed_supply (h.available_right b) rfl rfl rfl)

theorem moduleGained_sound : (moduleGained b c).own.Sound := by
  unfold moduleGained
  dsimp only
  split_ifs with absent
  · have was : c.own.modules[b].state ≠ .ok := by rw [absent]; decide
    exact writeModule_sound h b (computed_supply_of_not_ok (h.available_right b) (by simp) was)
  · exact h

theorem moduleLost_sound : (moduleLost b c).own.Sound :=
  recompute_writeModule_sound h b _ rfl rfl rfl rfl rfl rfl rfl

theorem moduleLines_sound (inputOk outputOk : Bool) : (moduleLines b inputOk outputOk c).own.Sound := by
  unfold moduleLines
  dsimp only
  split_ifs
  · exact recompute_writeModule_sound h b _ rfl rfl rfl rfl rfl rfl rfl
  · exact h

theorem moduleRetry_sound : (moduleRetry b c).own.Sound := by
  unfold moduleRetry
  dsimp only
  split
  · exact writeModule_sound h b (computed_supply (h.available_right b) rfl rfl rfl)
  · exact h

theorem takePoll_sound (tag : Nat) (o : LineOutcome) : (takePoll b tag o c).own.Sound := by
  unfold takePoll
  dsimp only
  split_ifs
  · exact recompute_writeModule_sound h b _ rfl rfl rfl rfl rfl rfl rfl
  · exact writeModule_sound h b (computed_supply (h.available_right b) rfl rfl rfl)

theorem moduleTry_sound (tag : Nat) (o : LineOutcome) (inputOk outputOk : Bool) :
    (moduleTry b tag o inputOk outputOk c).own.Sound := by
  unfold moduleTry
  dsimp only
  split
  · exact h
  · split
    · exact h
    · split
      · exact recompute_sound (((h.tables.withModule (k := b) rfl).withModule (k := b) rfl).of_same rfl rfl rfl)
          (h.machine.of_same rfl rfl rfl rfl)
      · split
        · exact writeModule_sound h b (computed_supply (h.available_right b) rfl rfl rfl)
        · exact recompute_writeModule_sound h b _ rfl rfl rfl rfl rfl rfl rfl

omit b

theorem pollModules_sound : (pollModules c).own.Sound := by
  have polled (l : List (Fin 4)) (d : At Pbu) (hd : d.own.Sound) : (l.foldl (fun c b =>
      if liveModule c.own.modules[b].state && c.own.modules[b].polls.isEmpty then requestPoll b c else c) d).own.Sound := by
    induction l generalizing d with
    | nil => exact hd
    | cons b l ih =>
      refine ih _ ?_
      dsimp only
      split_ifs
      · exact requestPoll_sound hd b
      · exact hd
  exact polled _ _ h

end modules

/-! ### POWER POLICY (R46) -/

/-- The clamped figures are in their ranges. -/
theorem clampPolicy_inRange (raw : RawPolicy) (mode : RedundancyMode) : PowerPolicy.InRange
    { mode := mode, wb := (clampPolicy raw).wb, port := (clampPolicy raw).port
      grace := (clampPolicy raw).grace, idle := (clampPolicy raw).idle } := by
  simp only [PowerPolicy.InRange, clampPolicy]
  omega

theorem takePolicy_sound {c : At Pbu} (h : c.own.Sound) (raw : RawPolicy) : (takePolicy raw c).own.Sound := by
  unfold takePolicy
  dsimp only
  split
  · exact h
  · split_ifs
    · exact h
    · exact recompute_sound ⟨h.available_right, h.tables.slots_right, clampPolicy_inRange raw _⟩
        (h.machine.of_same rfl rfl rfl rfl)
    · exact recompute_sound ⟨h.available_right, h.tables.slots_right, clampPolicy_inRange raw _⟩
        (h.machine.of_same rfl rfl rfl rfl)

end Sys2Proof.Machine

/-! PROOFS. Every step keeps the power budget sound (R47, R48, R50, R51, R54, R57). -/

namespace Sys2Proof.Machine

open Sys2Proof

/-! ### What leaves the PBU as it is -/

theorem takePolicyWord_pbu (s : State) : (takePolicyWord s).pbu = s.pbu := by
  unfold takePolicyWord
  split <;> simp

theorem pageWriteFault_pbu (s : State) : (pageWriteFault s).pbu = s.pbu := by
  unfold pageWriteFault
  split <;> rfl

theorem pageWritten_pbu (s : State) : (pageWritten s).pbu = s.pbu := by
  unfold pageWritten nextPageWrite
  split <;> (try split) <;> rfl

theorem abandonApply_pbu (s : State) : (abandonApply s).pbu = s.pbu := by
  unfold abandonApply
  split <;> rfl

theorem settle_pbu (v : Server) (s : State) : (settle v s).pbu = s.pbu := by cases v <;> rfl

/-- A stopped POWER POLICY ends; the PBU itself stands (R46). -/
theorem blockStopped_pbu (v : Server) (n : Nat) (s : State) : (blockStopped v n s).pbu = s.pbu := by cases v <;> rfl

theorem outputDone_pbu (v : Server) (n : Nat) (s : State) : (outputDone v n s).pbu = s.pbu := by cases v <;> rfl

theorem stopDelivery_pbu (a : Fin 16) (v : Server) (f : MoveFailure) (s : State) :
    (stopDelivery a v f s).pbu = s.pbu := by
  unfold stopDelivery
  dsimp only
  split_ifs
  · exact (blockStopped_pbu v _ _).trans (settle_pbu v s)
  · exact settle_pbu v s

theorem finishMove_pbu (a : Fin 16) (v : Server) (input : Bool) (r : MoveResult) (s : State) :
    (finishMove a v input r s).pbu = s.pbu := by
  cases r with
  | going => rfl
  | done =>
    unfold finishMove
    dsimp only
    split_ifs
    · rfl
    · exact outputDone_pbu v _ s
  | failed f => exact stopDelivery_pbu a v f s

theorem withMove_pbu (a : Fin 16) (s : State)
    (f : Server → Service → Movement → At HostSide → At HostSide × MoveResult) : (withMove a s f).pbu = s.pbu := by
  unfold withMove
  split
  · split
    · exact finishMove_pbu a _ _ _ _
    · rfl
  · rfl

theorem accessFailed_pbu (a : Fin 16) (x : Access) (s : State) : (accessFailed a x s).pbu = s.pbu := by
  have stopped : (match s.bus.servingOf a with
      | some v => stopDelivery a v { reason := none, address := x.addr } s
      | none => s).pbu = s.pbu := by
    split
    · exact stopDelivery_pbu a _ _ s
    · rfl
  unfold accessFailed
  dsimp only
  split
  · rfl
  · rfl
  · exact stopped
  · exact stopped
  · exact stopped
  · rfl
  · rfl

theorem hostAccessFault_pbu (r : Requester) (s : State) : (hostAccessFault r s).pbu = s.pbu := by
  cases r with
  | spw => exact pageWriteFault_pbu s
  | anchor a =>
    unfold hostAccessFault
    dsimp only
    split
    · rfl
    · exact accessFailed_pbu a _ _

theorem haltBlock_pbu (a : Fin 16) (s : State) : (haltBlock a s).pbu = s.pbu := by
  unfold haltBlock
  split_ifs
  · exact abandonApply_pbu s
  · rfl

theorem ptuUnqueued_pbu (before after : State) : (ptuUnqueued before after).pbu = after.pbu := by
  unfold ptuUnqueued
  split_ifs <;> rfl

theorem stopMoving_pbu (v : Server) (s : State) : (stopMoving v s).pbu = s.pbu := by
  have settled := settle_pbu v s
  unfold stopMoving
  dsimp only
  split
  · exact settled
  · split
    · exact settled
    · split_ifs
      · exact settled
      · exact (blockStopped_pbu v 0 _).trans settled

theorem resetHostSide_pbu (s : State) : (resetHostSide s).pbu = s.pbu := by
  unfold resetHostSide
  dsimp only
  rw [onSpw_pbu]
  dsimp only
  rw [stopMoving_pbu, stopMoving_pbu, stopMoving_pbu, stopMoving_pbu]
  exact abandonApply_pbu s

theorem znuManagementReset_pbu (s : State) : (znuManagementReset s).pbu = s.pbu := by
  unfold znuManagementReset
  dsimp only
  split_ifs <;> rfl

theorem ptuRunTask_pbu (s : State) : (ptuRunTask s).pbu = s.pbu := by
  unfold ptuRunTask
  split
  · rfl
  · split_ifs <;> simp

theorem ptuTask_pbu (k : TaskKind) (s : State) : (ptuTask k s).pbu = s.pbu := by
  unfold ptuTask
  split
  · rfl
  · split_ifs
    · rfl
    · rfl
    · exact ptuRunTask_pbu s
    · rfl

theorem ptuDrain_pbu (l : List PtuHeld) (s : State) : (ptuDrain l s).pbu = s.pbu := by
  induction l generalizing s with
  | nil => rfl
  | cons x l ih =>
    have taken : (ptuTakeHeld x s).pbu = s.pbu := by
      cases x with
      | task => exact ptuRunTask_pbu s
      | sls m => rfl
      | lcu m => rfl
    unfold ptuDrain
    split_ifs
    · rfl
    · exact (ih _).trans taken

/-! ### From one state to the next -/

/-- A command that answers a next state keeps the budget sound. -/
def OutcomeKeepsBudget (s : State) (o : Host.Outcome State Fault Refusal) : Prop :=
  ∀ t, o = .next t → s.pbu.Sound → t.pbu.Sound

namespace OutcomeKeepsBudget

variable {s t : State}

theorem next (h : s.pbu.Sound → t.pbu.Sound) : OutcomeKeepsBudget s (.next t) := by rintro u ⟨⟩; exact h

/-- Where the PBU is not at work its budget stands. -/
theorem kept (h : t.pbu = s.pbu) : OutcomeKeepsBudget s (.next t) := next fun sound => h ▸ sound

/-- The PBU alone takes a message. -/
theorem onPbu {f : At Pbu → At Pbu} (hf : ∀ c : At Pbu, c.own.Sound → (f c).own.Sound) (s : State) (b : Bus) :
    OutcomeKeepsBudget s (.next ((s.withBus b).onPbu f)) := next (hf { own := s.pbu, bus := b })

end OutcomeKeepsBudget

/-- The commands by which the PBU does something. -/
def isOfBudget : Instr → Bool
  | .bayPresenceGained | .bayPresenceLost | .moduleInventoryAnswer | .moduleRetryTimer _ | .moduleLineChange _ _ _
  | .telemetryAnswer | .powerPolicy | .portClaim | .tierClaim | .wakeClaimJudged | .slotClaim | .portRelease
  | .tierReturn | .standbyStepDown | .slotRelease | .dutyReport | .priorityUpdate | .startupHoldRelease
  | .graceTimerExpiry | .intervalTimerExpiry | .shedAnswer | .cycleTick | .pendingTimerExpiry _ | .powerOnReset => true
  | _ => false

/-- By every other command the budget stands. -/
theorem exec_pbu_elsewhere {c : Instr} (hc : isOfBudget c = false) (s : State) : OutcomeKeepsBudget s (exec c s) := by
  cases c with
  -- one block at work, always
  | areaBaseLowWrite _ | interruptMaskWrite _ | readOnlyRegisterWrite _ _ | start _ | resume _ | accept _ | pageSeen _
  | slotRetryTimer _ | railGoodRise _ _ | railTimerExpiry _ | settleTimerExpiry _ | railGoodFall _ _
  | idleTimerExpiry _ | tachEdge _ | stallTimerExpiry _ | spinupTimerExpiry _ | holdTimerExpiry _ | trayRetryTimer _
  | zoneStageRecord | acknowledgement _ | ackTimerExpiry | probeTimerExpiry | batchTimerExpiry | transactionBegin
  | requestSent | answerFrame _ | answerTimerExpiry | lineActivity | recoveryIdle _ | storeWriteDone _
  | powerLoss => exact .kept rfl
  -- one block at work when its message, access, condition or timer is there
  | anchorReadDone _ _ | wordFetchDone _ _ | taskOutcome _ | recordWriteDone _ | slotPresenceGained
  | slotPresenceLost | slotInventoryAnswer | sweepDone | slotClaimAnswer | useNoticeTaken | idleTimeUpdate
  | wakeRequest | shedOrder | thermalOffOrder | hotFlagReport | sensorAnswer | trayPresenceLost | trayPresenceGained
  | trayInventoryAnswer | switchSent | committed | failed | abandoned | stagedCopy | recomputeAddition | buildRequest
  | activeSetReplaced | raise _ _ | clear _ _ | dirtyMark _ | batchBegin | mlcRequest _ | presenceLineChange _ _
  | startUpReport _ | areaBaseHighWrite _ | slotOnlineReport | identificationSweep | grantReport | withdrawal
  | zoneCount =>
    simp only [exec, execAnchorReadDone, execWordFetchDone, execTaskOutcome, execRecordWriteDone,
      execSlotPresenceGained, execSlotPresenceLost, execSlotInventoryAnswer, execSweepDone, execSlotClaimAnswer,
      execUseNoticeTaken, execIdleTimeUpdate, execWakeRequest, execShedOrder, execThermalOffOrder,
      execHotFlagReport, execSensorAnswer, execTrayPresenceLost, execTrayPresenceGained, execTrayInventoryAnswer,
      execSwitchSent, execCommitted, execFailed, execAbandoned, execStagedCopy, execRecomputeAddition,
      execBuildRequest, execActiveSetReplaced, execRaise, execClear, execDirtyMark, execBatchBegin, execMlcRequest,
      execPresenceLineChange, execStartUpReport, execAreaBaseHighWrite, execSlotOnlineReport,
      execIdentificationSweep, execGrantReport, execWithdrawal, execZoneCount]
    split <;> exact .kept rfl
  | licenceCellReadDone | hourTick | withdrawalAnswer | slotLeftOnlineReport =>
    simp only [exec, execLicenceCellReadDone, execHourTick, execWithdrawalAnswer, execSlotLeftOnlineReport]
    repeat' split
    all_goals exact .kept (by simp)
  -- a task word taken
  | alarmAcknowledge | zoneDrop | zoneCommitVerify | zoneCommitApply | slotPowerOn | slotPowerOff | slotConfig
  | thermalProfile | zoneStage | zoneFindLoad | zoneRead | zoneFind | licenceInstall | licenceRemove | licenceFreeze
  | licenceReport =>
    simp only [exec, execAlarmAcknowledge, execZoneDrop, execZoneCommitVerify, execZoneCommitApply, execSlotPowerOn,
      execSlotPowerOff, execSlotConfig, execThermalProfile, execZoneStage, execZoneFindLoad, execZoneRead, execZoneFind,
      execLicenceInstall, execLicenceRemove, execLicenceFreeze, execLicenceReport]
    repeat' split
    all_goals exact .kept (by simp)
  | portEnable => exact .kept (ptuTask_pbu _ s)
  | portDisable => exact .kept (ptuTask_pbu _ s)
  | claimAnswer =>
    simp only [exec, execClaimAnswer]
    split
    · exact .kept rfl
    · exact .kept (ptuDrain_pbu _ _)
  -- data that moves, and the pages
  | pieceFetchDone a _ | dataWriteDone a =>
    simp only [exec, execPieceFetchDone, execDataWriteDone]
    split
    · exact .kept rfl
    · exact .kept (withMove_pbu a _ _)
  | dataReadDone a _ =>
    simp only [exec, execDataReadDone]
    split
    · exact .kept rfl
    · split
      · exact .kept (withMove_pbu a _ _)
      · exact .kept rfl
  | hostAccessFailed r => exact .kept (hostAccessFault_pbu r s)
  | hostAccessTimeout r => exact .kept (hostAccessFault_pbu r s)
  | pageWriteDone | pageWriteFailed =>
    simp only [exec, execPageWriteDone, execPageWriteFailed]
    repeat' split
    all_goals exact .kept (by simp [pageWritten_pbu, pageWriteFault_pbu])
  -- HALT and the resets of the host side
  | halt w =>
    simp only [exec, execHalt]
    have halted := ptuUnqueued_pbu s (s.onHost (runAction .halt w (aeHalt s.tb.seconds)))
    split
    · split_ifs
      · exact .kept ((haltBlock_pbu _ _).trans halted)
      · exact .kept halted
    · exact .kept halted
  | managementReset =>
    exact .kept ((znuManagementReset_pbu { resetHostSide s with lcu := lcuManagementReset (resetHostSide s).lcu }).trans
      (resetHostSide_pbu s))
  | linkReset => exact .kept (resetHostSide_pbu s)
  | _ => cases hc

/-! ### The commands of the PBU -/

/-- A bay that the scan finds present is awaited (R56). -/
theorem awaitBay_sound {b : Pbu} (h : b.Sound) (line : PresenceLine) (x first : Bool) : (awaitBay line x first b).Sound := by
  cases line with
  | bay k =>
    unfold awaitBay
    dsimp only
    split_ifs
    · exact h.withHeld _ _ _
    · exact h
  | slot _ | tray _ => exact h

/-- A timer of the machine that runs shows that it is out of WITHIN. -/
theorem Pbu.Sound.not_within_of_timer {b : Pbu} (h : b.Sound)
    (run : b.graceTimer ≠ .stopped ∨ b.intervalTimer ≠ .stopped) : b.budget ≠ .within := by
  intro within
  obtain ⟨grace, interval⟩ := h.machine.stopped_of_within within
  exact run.elim (· grace) (· interval)

/-- Every command keeps the budget sound. -/
theorem exec_keepsBudget (c : Instr) (s : State) : OutcomeKeepsBudget s (exec c s) := by
  by_cases hc : isOfBudget c = false
  · exact exec_pbu_elsewhere hc s
  cases c with
  -- modules
  | bayPresenceGained =>
    simp only [exec, execBayPresenceGained]
    split
    · exact .onPbu (fun _ h => moduleGained_sound h _) s _
    · exact .kept rfl
  | bayPresenceLost =>
    simp only [exec, execBayPresenceLost]
    split
    · exact .onPbu (fun _ h => moduleLost_sound h _) s _
    · exact .kept rfl
  | moduleInventoryAnswer =>
    simp only [exec, execModuleInventoryAnswer]
    split
    · exact .onPbu (fun _ h => moduleTry_sound h _ _ _ _ _) s _
    · exact .kept rfl
  | telemetryAnswer =>
    simp only [exec, execTelemetryAnswer]
    split
    · exact .onPbu (fun _ h => takePoll_sound h _ _ _) s _
    · exact .kept rfl
  | moduleRetryTimer b => exact .next fun h => moduleRetry_sound (c := { own := s.pbu, bus := s.bus }) h b
  | moduleLineChange b line level =>
    exact .next fun h => moduleLines_sound (c := { own := s.pbu, bus := s.bus }) h b _ _
  | cycleTick =>
    refine .next (t := ((s.onTb tbTick).onClc controlCycle).onPbu pollModules) fun h => ?_
    rw [onPbu_pbu]
    refine pollModules_sound ?_
    rwa [onClc_pbu, onTb_pbu]
  | pendingTimerExpiry line =>
    simp only [exec, execPendingTimerExpiry]
    split
    · exact .next fun h => awaitBay_sound h line _ _
    · exact .kept rfl
  -- the policy and the start-up hold
  | powerPolicy =>
    simp only [exec, execPowerPolicy]
    split
    · split
      · exact .onPbu (fun _ h => takePolicy_sound h _) s s.bus
      · exact .kept rfl
    · split
      · exact .kept rfl
      · exact .kept (takePolicyWord_pbu s)
  | startupHoldRelease =>
    simp only [exec, execStartupHoldRelease]
    split
    · refine .next fun h => ?_
      rw [takePolicyWord_pbu]
      exact endHold_sound (c := { own := s.pbu, bus := s.bus }) h
    · exact .kept rfl
  -- claims
  | portClaim | tierClaim | wakeClaimJudged | slotClaim =>
    simp only [exec, execPortClaim, execTierClaim, execWakeClaimJudged, execSlotClaim]
    split
    · exact .onPbu (fun _ h => pbuClaim_sound h _) s _
    · exact .kept rfl
  -- releases, reports and answers
  | portRelease =>
    simp only [exec, execPortRelease]
    split
    · exact .onPbu (fun _ h => releasePort_sound h _) s _
    · exact .kept rfl
  | tierReturn =>
    simp only [exec, execTierReturn]
    split
    · exact .onPbu (fun _ h => returnTier_sound h _ _) s _
    · exact .kept rfl
  | standbyStepDown =>
    simp only [exec, execStandbyStepDown]
    split
    · exact .onPbu (fun _ h => stepDown_sound h _) s _
    · exact .kept rfl
  | slotRelease =>
    simp only [exec, execSlotRelease]
    split
    · exact .onPbu (fun _ h => releaseSlot_sound h _) s _
    · exact .kept rfl
  | dutyReport =>
    simp only [exec, execDutyReport]
    split
    · exact .onPbu (fun _ h => takeDuty_sound h _) s _
    · exact .kept rfl
  | priorityUpdate =>
    simp only [exec, execPriorityUpdate]
    split
    · exact .onPbu (fun _ h => setPriority_sound h _ _) s _
    · exact .kept rfl
  | shedAnswer =>
    simp only [exec, execShedAnswer]
    split
    · exact .onPbu (fun _ h => clearShed_sound h _) s _
    · exact .kept rfl
  -- the timers of the over-budget machine
  | graceTimerExpiry =>
    simp only [exec, execGraceTimerExpiry]
    split
    next run =>
      exact .next fun h => shedOrExhaust_sound_of_timer (c := { own := s.pbu, bus := s.bus }) h
        (h.not_within_of_timer (.inl (by simp [run])))
    next => exact .kept rfl
  | intervalTimerExpiry =>
    simp only [exec, execIntervalTimerExpiry]
    split
    next run =>
      exact .next fun h => shedOrExhaust_sound_of_timer (c := { own := s.pbu, bus := s.bus }) h
        (h.not_within_of_timer (.inr (by simp [run])))
    next => exact .kept rfl
  | powerOnReset => exact .next fun _ => pbuPowerOn_sound
  | _ => exact absurd rfl hc

/-- Settles O5: each operation of the PBU keeps its budget sound, and every other command leaves the PBU as it is. -/
theorem everyStepKeepsTheBudgetSound : Obligations.EveryStepKeepsTheBudgetSound := by
  unfold Obligations.EveryStepKeepsTheBudgetSound
  intro s t sound run
  unfold step at run
  split at run
  · cases run; exact sound
  next c rest _ => exact exec_keepsBudget c { s with pending := rest } t run sound

end Sys2Proof.Machine

/-! PROOFS. Releases and claims (R49 to R55): where H stays or comes back, the machine is settled in the same step. -/

namespace Sys2Proof.Machine

open Sys2Proof

/-! ### A machine that no fall of H disturbs (R58) -/

/-- The machine WITHIN, its timers stopped, where the hold is over and H is back; else as it stands. -/
def Pbu.settled (b : Pbu) : Pbu :=
  let back := b.hold = false ∧ 0 ≤ b.headroom
  { b with
    budget := if back then .within else b.budget
    graceTimer := if back then .stopped else b.graceTimer
    intervalTimer := if back then .stopped else b.intervalTimer }

theorem Pbu.settled_of_not_back {b : Pbu} (h : ¬ (b.hold = false ∧ 0 ≤ b.headroom)) : b.settled = b := by
  simp only [Pbu.settled, if_neg h]

theorem Pbu.settled_of_back {b : Pbu} (h : b.hold = false ∧ 0 ≤ b.headroom) :
    b.settled = { b with budget := .within, graceTimer := .stopped, intervalTimer := .stopped } := by
  simp only [Pbu.settled, if_pos h]

/-- WITHIN, with both timers stopped as they are, is settled. -/
theorem Pbu.settled_of_within {b : Pbu} (machine : b.MachineRight) (within : b.budget = .within) : b.settled = b := by
  obtain ⟨grace, interval⟩ := machine.stopped_of_within within
  cases b
  dsimp only at within grace interval
  subst within grace interval
  simp only [Pbu.settled, ite_self]

/-- H does not fall below 0 out of WITHIN. -/
def Pbu.Steady (b : Pbu) : Prop := b.budget = .within → b.hold = true ∨ 0 ≤ b.headroom

/-- Where H does not fall below 0 out of WITHIN, the machine settles and no slot is shed. -/
theorem takeHeadroom_settled {c : At Pbu} (machine : c.own.MachineRight) (steady : c.own.Steady) :
    (takeHeadroom c).own = c.own.settled ∧ Bus.Tells [] c.bus (takeHeadroom c).bus := by
  refine takeHeadroom_cases c (P := fun d => d.own = c.own.settled ∧ Bus.Tells [] c.bus d.bus) (fun stands => ?_)
    (fun hold _ enough => ?_) fun hold within short => ?_
  · refine ⟨Eq.symm ?_, .refl _⟩
    by_cases within : c.own.budget = .within
    · exact Pbu.settled_of_within machine within
    · refine Pbu.settled_of_not_back fun ⟨hold, enough⟩ => ?_
      exact stands.elim (fun held => Bool.false_ne_true (hold.symm.trans held)) fun iff => within (iff.2 enough)
  · exact ⟨(Pbu.settled_of_back ⟨hold, enough⟩).symm, backWithin_tells c⟩
  · rcases steady within with held | enough
    · exact absurd (hold.symm.trans held) Bool.false_ne_true
    · exact absurd short (not_lt.2 enough)

/-- D computed again, with U as it was. -/
def Pbu.demanded (b : Pbu) : Pbu := { b with demand := b.demandNow }

theorem recompute_settled {c : At Pbu} (supply : c.own.SupplyRight) (machine : c.own.MachineRight)
    (steady : c.own.demanded.Steady) :
    (recompute c).own = c.own.demanded.settled ∧ Bus.Tells [] c.bus (recompute c).bus := by
  have figures : (pbuFigures c).own = c.own.demanded := congrArg At.own (pbuFigures_of_supply supply)
  obtain ⟨own, told⟩ := takeHeadroom_settled (pbuFigures_machine machine) (figures ▸ steady)
  exact ⟨own.trans (congrArg Pbu.settled figures), (pbuFigures_tells c).silent told⟩

/-- A slot entry replaced: D follows it, and what else the machine reads stands. -/
theorem Pbu.Sound.demandNow_withSlot {b : Pbu} (h : b.Sound) (i : Slot) (e : SlotEntry) :
    { b with slots := setAt b.slots i e }.demandNow + slotWatts b.policy.port b.slots[i] =
      b.demand + slotWatts b.policy.port e :=
  (demandOf_setSlot _ _ _ _ _ _).trans (congrArg (· + _) h.figures.demand_right.symm)

/-- An entry replaced by one of no more watts leaves H where it was or higher. -/
theorem Pbu.Sound.steady_withSlot {b : Pbu} (h : b.Sound) {i : Slot} {e : SlotEntry}
    (less : slotWatts b.policy.port e ≤ slotWatts b.policy.port b.slots[i]) :
    { b with slots := setAt b.slots i e }.demanded.Steady := fun within => by
  refine (h.within_right.1 within).imp id fun enough => ?_
  have demand := h.demandNow_withSlot i e
  simp only [Pbu.headroom, Pbu.demanded] at enough ⊢
  omega

/-! ### Releases (R55) -/

/-- A message taken from the bus leaves the table u, D computed again, and the machine settled; only marks and alarm
requests are sent. -/
def SettledBy (s : State) (c : Instr) (b : Bus) (u : Pbu) : Prop :=
  ∃ t, exec c s = .next t ∧ t = { s with pbu := u.demanded.settled, bus := t.bus } ∧
    t.bus = { b with toSpw := t.bus.toSpw, toAtu := t.bus.toAtu }

/-- Telling nothing to the SLS leaves every channel but the marks and the alarm requests. -/
theorem Bus.Tells.silent_frame {b b' : Bus} (h : Bus.Tells [] b b') :
    b' = { b with toSpw := b'.toSpw, toAtu := b'.toAtu } := by simpa using h.frame

theorem settledBy_recompute {s : State} {c : Instr} {b : Bus} {u : Pbu} {f : At Pbu → At Pbu}
    (run : exec c s = .next ((s.withBus b).onPbu f)) (table : f { own := s.pbu, bus := b } = recompute { own := u, bus := b })
    (supply : u.SupplyRight) (machine : u.MachineRight) (steady : u.demanded.Steady) : SettledBy s c b u := by
  obtain ⟨own, told⟩ := recompute_settled (c := { own := u, bus := b }) supply machine steady
  refine ⟨_, run, ?_, ?_⟩
  · rw [← own, ← table]
    rfl
  · rw [onPbu_bus, withBus_pbu, withBus_bus, table]
    exact told.silent_frame

/-- An entry of the table replaced by one of no more watts. -/
theorem settledBy_entry {s : State} (h : s.pbu.Sound) {c : Instr} {b : Bus} {i : Slot} {e : SlotEntry}
    {f : SlotEntry → SlotEntry} (run : exec c s = .next ((s.withBus b).onPbu (updSlot i f)))
    (entry : f s.pbu.slots[i] = e)
    (less : slotWatts s.pbu.policy.port e ≤ slotWatts s.pbu.policy.port s.pbu.slots[i]) :
    SettledBy s c b { s.pbu with slots := setAt s.pbu.slots i e } := by
  subst entry
  exact settledBy_recompute run rfl ⟨h.usable_right, h.redundancy_right⟩ (h.machine.of_same rfl rfl rfl rfl)
    (h.steady_withSlot less)

/-- A list of no more watts, in an entry otherwise the same. -/
theorem slotWatts_ports_le {port : Counts} {e : SlotEntry} {ports : List (Port × Tier)}
    (less : listWatts port ports ≤ listWatts port e.ports) :
    slotWatts port { e with ports := ports } ≤ slotWatts port e := by
  unfold slotWatts
  dsimp only
  split
  · exact le_rfl
  · exact le_rfl
  · omega

/-- Settles O28: no release raises the watts of its entry, so that the machine settles; a duty report is taken as stated,
and priorities and marks are no figures. -/
theorem releasesTakeEffectWhenTaken : Obligations.ReleasesTakeEffectWhenTaken := by
  unfold Obligations.ReleasesTakeEffectWhenTaken
  intro s h watts settled entry
  refine ⟨fun p rest hq => ?_, fun p was old rest hq listed fall => ?_, fun i rest hq => ?_, fun i rest hq => ?_,
    fun r rest hq => ?_, fun i v rest hq => ?_, fun i shed rest hq => ?_⟩
  · have run : exec .portRelease s = .next ((s.withBus { s.bus with ptuPbu := rest }).onPbu (releasePort p)) := by
      simp only [exec, execPortRelease, hq]
    exact settledBy_entry h run rfl (slotWatts_ports_le (listWatts_filter_le _))
  · have run : exec .tierReturn s = .next ((s.withBus { s.bus with ptuPbu := rest }).onPbu (returnTier p old)) := by
      simp only [exec, execTierReturn, hq]
    have retiered := listWatts_retier (port := watts) (t := old) (h.ports_once _) listed
    have less : listWatts watts (retier p old s.pbu.slots[slotOf p].ports) ≤ listWatts watts s.pbu.slots[slotOf p].ports := by
      omega
    exact settledBy_entry h run rfl (slotWatts_ports_le less)
  · have run : exec .standbyStepDown s = .next ((s.withBus { s.bus with slsPbu := rest }).onPbu (stepDown i)) := by
      simp only [exec, execStandbyStepDown, hq]
    refine settledBy_entry h run rfl ?_
    have below := h.standby_below i
    split_ifs with powered
    · simp only [slotWatts, powered]
      omega
    · exact le_rfl
  · have run : exec .slotRelease s = .next ((s.withBus { s.bus with slsPbu := rest }).onPbu (releaseSlot i)) := by
      simp only [exec, execSlotRelease, hq]
    exact settledBy_entry h run rfl (Nat.zero_le _)
  · have run : exec .dutyReport s = .next ((s.withBus { s.bus with clcPbu := rest }).onPbu (takeDuty r)) := by
      simp only [exec, execDutyReport, hq]
    intro u enough
    exact settledBy_recompute run rfl ⟨h.usable_right, h.redundancy_right⟩ (h.machine.of_same rfl rfl rfl rfl)
      fun _ => .inr enough
  · simp only [exec, execPriorityUpdate, hq]
    rfl
  · simp only [exec, execShedAnswer, hq]
    rfl

end Sys2Proof.Machine

/-! PROOFS. Claims (R52 to R54): each is judged by its need against the headroom, outside the start-up hold. -/

namespace Sys2Proof.Machine

open Sys2Proof

/-! ### One claim judged (R52) -/

/-- The PBU after a granted claim of need n that leaves slot i the entry e. -/
def Pbu.afterClaim (b : Pbu) (i : Slot) (n : Int) (e : SlotEntry) : Pbu :=
  let back := 0 ≤ b.headroom - n
  { b with
    slots := setAt b.slots i e
    demand := (b.demand + n).toNat
    budget := if back then .within else b.budget
    graceTimer := if back then .stopped else b.graceTimer
    intervalTimer := if back then .stopped else b.intervalTimer }

/-- What a claim of need n leads to, granted or not: the entry and D by n, or nothing; the answer; and only marks and alarm
requests on the bus. -/
structure Judged (granted : Prop) [Decidable granted] (c : At Pbu) (i : Slot) (n : Int) (e : SlotEntry) (g : Grant)
    (r : At Pbu × ClaimAnswer) : Prop where
  own : r.1.own = if granted then c.own.afterClaim i n e else c.own
  answer : r.2 = if granted then { grant := g, amount := n } else { grant := .refused, amount := 0 }
  told : Bus.Tells [] c.bus r.1.bus

section judged

variable {c : At Pbu} {i : Slot} {e : SlotEntry} (h : c.own.Sound) (hold : c.own.hold = false)

include h hold

/-- A claim whose need is what its entry adds to D is judged by that need. -/
theorem judgeClaim_judged {n : Int} (g : Grant)
    (watts : (slotWatts c.own.policy.port e : Int) = slotWatts c.own.policy.port c.own.slots[i] + n) :
    Judged (n ≤ 0 ∨ n ≤ c.own.headroom) c i n e g (judgeClaim i n e g c) := by
  by_cases granted : n ≤ 0 ∨ n ≤ c.own.headroom
  · have demand : (setSlot i e c).own.demandNow + _ = _ := h.demandNow_withSlot i e
    have moved : ((setSlot i e c).own.demandNow : Int) = c.own.demand + n := by omega
    have headroom : (setSlot i e c).own.demanded.headroom = c.own.headroom - n := by
      change (c.own.usable : Int) - ((setSlot i e c).own.demandNow : Int) = (c.own.usable : Int) - c.own.demand - n
      omega
    have steady : (setSlot i e c).own.demanded.Steady := fun within => by
      have enough := h.enough_of_within hold within
      right
      omega
    obtain ⟨own, told⟩ := recompute_settled (c := setSlot i e c) ⟨h.usable_right, h.redundancy_right⟩
      (h.machine.of_same rfl rfl rfl rfl) steady
    rw [judgeClaim_granted granted]
    refine ⟨?_, ?_, told⟩
    · have back : ((setSlot i e c).own.demanded.hold = false ∧ 0 ≤ (setSlot i e c).own.demanded.headroom) ↔
          0 ≤ c.own.headroom - n := by
        rw [headroom]
        exact and_iff_right hold
      have figure : (setSlot i e c).own.demandNow = (c.own.demand + n).toNat := by omega
      rw [if_pos granted, own]
      simp only [Pbu.settled, Pbu.afterClaim, back]
      simp only [Pbu.demanded, figure]
      rfl
    · have amount : ((setSlot i e c).own.demandNow : Int) - c.own.demandNow = n := by
        rw [moved, h.figures.demand_right]
        omega
      rw [if_pos granted, amount]
  · have refused := not_or.1 granted
    rw [judgeClaim_refused (not_le.1 refused.1) (not_le.1 refused.2)]
    exact ⟨(if_neg granted).symm, (if_neg granted).symm, .refl _⟩

/-- A claim that leaves the entry as it is needs nothing. -/
theorem judgeClaim_idle (i : Slot) (g : Grant) :
    Judged ((0 : Int) ≤ 0 ∨ 0 ≤ c.own.headroom) c i 0 c.own.slots[i] g (judgeClaim i 0 c.own.slots[i] g c) :=
  judgeClaim_judged h hold g (by simp)

end judged

/-! ### The need of each claim (R53, R54) -/

/-- A STANDBY entry woken adds the need of its wake to D. -/
theorem slotWatts_woken {port : Counts} {e : SlotEntry} (standby : e.standing = .standby) :
    (slotWatts port { e with standing := .powered } : Int) = slotWatts port e + wakeNeed port e := by
  simp only [slotWatts, standby, wakeNeed]
  omega

section needs

variable {c : At Pbu} (h : c.own.Sound) (hold : c.own.hold = false)

include h hold

theorem tierClaim_judged {p : Port} {was : Tier} (listed : (p, was) ∈ c.own.slots[slotOf p].ports) (t : Tier) :
    let need : Int := if c.own.slots[slotOf p].standing = .powered
      then (c.own.policy.port.get t : Int) - c.own.policy.port.get was else 0
    Judged (need ≤ 0 ∨ need ≤ c.own.headroom) c (slotOf p) need
      { c.own.slots[slotOf p] with ports := retier p t c.own.slots[slotOf p].ports } .granted (tierClaim p t c) := by
  have once := h.ports_once (slotOf p)
  have retiered := listWatts_retier (port := c.own.policy.port) (t := t) once listed
  unfold tierClaim
  dsimp only
  rw [recordedTier_of_mem once listed]
  cases standing : c.own.slots[slotOf p].standing with
  | powered =>
    refine judgeClaim_judged h hold .granted ?_
    simp only [slotWatts, standing, if_true]
    omega
  | standby | unpowered =>
    refine judgeClaim_judged h hold .granted ?_
    simp only [slotWatts, standing, reduceCtorEq, if_false]
    omega

variable {p : Port} (new : ∀ x ∈ c.own.slots[slotOf p].ports, x.1 ≠ p) (t : Tier)

include new

theorem portClaim_powered_judged (powered : c.own.slots[slotOf p].standing = .powered) :
    let need : Int := c.own.policy.port.get t
    Judged (need ≤ 0 ∨ need ≤ c.own.headroom) c (slotOf p) need
      { c.own.slots[slotOf p] with ports := c.own.slots[slotOf p].ports ++ [(p, t)] } .granted (portClaim p t c) := by
  simp only [portClaim, recordedTier_eq_none.2 new, Option.isSome_none, Bool.false_eq_true, if_false, powered]
  refine judgeClaim_judged h hold .granted ?_
  simp only [slotWatts, powered, listWatts_add]
  omega

theorem portClaim_standby_judged (standby : c.own.slots[slotOf p].standing = .standby) :
    let need := wakeNeed c.own.policy.port c.own.slots[slotOf p] + c.own.policy.port.get t
    Judged (need ≤ 0 ∨ need ≤ c.own.headroom) c (slotOf p) need
      { c.own.slots[slotOf p] with standing := .powered, ports := c.own.slots[slotOf p].ports ++ [(p, t)] }
      .grantedWithWake (portClaim p t c) := by
  simp only [portClaim, recordedTier_eq_none.2 new, Option.isSome_none, Bool.false_eq_true, if_false, standby]
  refine judgeClaim_judged h hold .grantedWithWake ?_
  simp only [slotWatts, standby, wakeNeed, listWatts_add]
  omega

theorem portClaim_unpowered_judged (unpowered : c.own.slots[slotOf p].standing = .unpowered) :
    Judged ((0 : Int) ≤ 0 ∨ 0 ≤ c.own.headroom) c (slotOf p) 0
      { c.own.slots[slotOf p] with ports := c.own.slots[slotOf p].ports ++ [(p, t)] } .granted (portClaim p t c) := by
  simp only [portClaim, recordedTier_eq_none.2 new, Option.isSome_none, Bool.false_eq_true, if_false, unpowered]
  refine judgeClaim_judged h hold .granted ?_
  simp only [slotWatts, unpowered]
  omega

omit new t

theorem wakeClaim_standby_judged {i : Slot} (standby : c.own.slots[i].standing = .standby) :
    let need := wakeNeed c.own.policy.port c.own.slots[i]
    Judged (need ≤ 0 ∨ need ≤ c.own.headroom) c i need { c.own.slots[i] with standing := .powered }
      .grantedWithWake (wakeClaim i c) := by
  simp only [wakeClaim, standby]
  exact judgeClaim_judged h hold _ (slotWatts_woken standby)

theorem wakeClaim_awake_judged {i : Slot} (awake : c.own.slots[i].standing ≠ .standby) :
    Judged ((0 : Int) ≤ 0 ∨ 0 ≤ c.own.headroom) c i 0 c.own.slots[i] .granted (wakeClaim i c) := by
  have run : wakeClaim i c = judgeClaim i 0 c.own.slots[i] .granted c := by
    unfold wakeClaim
    dsimp only
    split
    next standby => exact absurd standby awake
    next => rfl
  rw [run]
  exact judgeClaim_idle h hold i .granted

/-- The need of a slot claim, by the entry that it finds. -/
def slotNeed (port : Counts) (e : SlotEntry) (ws : Nat) : Int :=
  match e.standing with
  | .unpowered => (ws : Int) + listWatts port e.ports
  | .standby => wakeNeed port e
  | .powered => 0

/-- The entry that a granted slot claim leaves. -/
def slotGranted (e : SlotEntry) (ws wsb : Nat) : SlotEntry :=
  match e.standing with
  | .unpowered => { e with ws := ws, wsb := min wsb ws, standing := .powered }
  | .standby => { e with standing := .powered }
  | .powered => e

/-- R54: a slot with its shed order outstanding is refused, whatever the need. -/
theorem slotClaim_judged (i : Slot) (ws wsb : Nat) :
    let need := slotNeed c.own.policy.port c.own.slots[i] ws
    Judged (c.own.slots[i].shedPending = false ∧ (need ≤ 0 ∨ need ≤ c.own.headroom)) c i need
      (slotGranted c.own.slots[i] ws wsb) .granted (slotClaim i ws wsb c) := by
  cases pending : c.own.slots[i].shedPending with
  | true =>
    simp only [slotClaim, pending, if_true, reduceCtorEq, false_and]
    exact ⟨rfl, rfl, .refl _⟩
  | false =>
    simp only [slotClaim, pending, Bool.false_eq_true, if_false, slotNeed, slotGranted, true_and]
    cases standing : c.own.slots[i].standing with
    | unpowered =>
      refine judgeClaim_judged h hold .granted ?_
      simp only [slotWatts, standing]
      omega
    | standby => exact judgeClaim_judged h hold .granted (slotWatts_woken standing)
    | powered => exact judgeClaim_idle h hold i .granted

end needs

/-! ### The claims taken from their channels -/

/-- The command c takes a claim of need n from the PTU's channel and answers it. -/
def PtuJudged (s : State) (c : Instr) (rest : List PtuToPbu) (i : Slot) (n : Int) (e : SlotEntry) (g : Grant) : Prop :=
  ∃ t, exec c s = .next t ∧
    t = { s with pbu := if n ≤ 0 ∨ n ≤ s.pbu.headroom then s.pbu.afterClaim i n e else s.pbu, bus := t.bus } ∧
    t.bus = { s.bus with
      ptuPbu := rest
      pbuPtu := s.bus.pbuPtu ++
        [if n ≤ 0 ∨ n ≤ s.pbu.headroom then { grant := g, amount := n } else { grant := .refused, amount := 0 }]
      toSpw := t.bus.toSpw
      toAtu := t.bus.toAtu }

/-- The PBU with a message of the PTU taken from its channel. -/
def atPtuRest (s : State) (rest : List PtuToPbu) : At Pbu := { own := s.pbu, bus := { s.bus with ptuPbu := rest } }

/-- An answer sent to the PTU. -/
def answeredPtu (r : At Pbu × ClaimAnswer) : At Pbu := { r.1 with bus := r.1.bus.sendPbuPtu r.2 }

theorem ptuJudged_of {s : State} {c : Instr} {rest : List PtuToPbu} {i : Slot} {n : Int} {e : SlotEntry} {g : Grant}
    {m : HeldClaim} {r : At Pbu × ClaimAnswer}
    (run : exec c s = .next ((s.withBus { s.bus with ptuPbu := rest }).onPbu (pbuClaim m)))
    (answered : pbuClaim m (atPtuRest s rest) = answeredPtu r)
    (judged : Judged (n ≤ 0 ∨ n ≤ s.pbu.headroom) (atPtuRest s rest) i n e g r) : PtuJudged s c rest i n e g := by
  refine ⟨_, run, ?_, ?_⟩
  · have own : (pbuClaim m (atPtuRest s rest)).own = _ := (congrArg At.own answered).trans judged.own
    exact congrArg (fun u => { s with pbu := u, bus := (pbuClaim m (atPtuRest s rest)).bus }) own
  · change (pbuClaim m (atPtuRest s rest)).bus = { s.bus with
      ptuPbu := rest
      pbuPtu := s.bus.pbuPtu ++
        [if n ≤ 0 ∨ n ≤ s.pbu.headroom then { grant := g, amount := n } else { grant := .refused, amount := 0 }]
      toSpw := (pbuClaim m (atPtuRest s rest)).bus.toSpw
      toAtu := (pbuClaim m (atPtuRest s rest)).bus.toAtu }
    rw [answered, answeredPtu, Bus.sendPbuPtu, judged.answer]
    dsimp only
    rw [judged.told.silent_frame]
    rfl

/-! ### Each claim answered as it is judged, once the hold is over -/

section answers

variable {c : At Pbu} (hold : c.own.hold = false)

include hold

theorem pbuClaim_of_port (p : Port) (t : Tier) :
    pbuClaim (.ptu (.portClaim p t)) c = answeredPtu (portClaim p t c) := if_neg (by simp [hold])

theorem pbuClaim_of_tier (p : Port) (old t : Tier) :
    pbuClaim (.ptu (.tierClaim p old t)) c = answeredPtu (tierClaim p t c) := if_neg (by simp [hold])

theorem pbuClaim_of_wake (i : Slot) : pbuClaim (.ptu (.wakeClaim i)) c = answeredPtu (wakeClaim i c) :=
  if_neg (by simp [hold])

theorem pbuClaim_of_sls (i : Slot) (ws wsb : Nat) : pbuClaim (.sls i ws wsb) c = answerSls i ws wsb c :=
  if_neg (by simp [hold])

end answers

/-- A slot claim is answered to the SLS with what it was granted. -/
theorem slotJudged {s : State} (h : s.pbu.Sound) (hold : s.pbu.hold = false) {i : Slot} {ws wsb : Nat}
    {rest : List SlsToPbu} (hq : s.bus.slsPbu = .slotClaim i ws wsb :: rest) :
    let n := slotNeed s.pbu.policy.port s.pbu.slots[i] ws
    let yes := s.pbu.slots[i].shedPending = false ∧ (n ≤ 0 ∨ n ≤ s.pbu.headroom)
    ∃ t, exec .slotClaim s = .next t ∧
      t = { s with
        pbu := if yes then s.pbu.afterClaim i n (slotGranted s.pbu.slots[i] ws wsb) else s.pbu, bus := t.bus } ∧
      t.bus = { s.bus with
        slsPbu := rest
        pbuSls := s.bus.pbuSls ++ [.claimAnswer i (decide yes) (if yes then n else 0)]
        toSpw := t.bus.toSpw
        toAtu := t.bus.toAtu } := by
  intro n yes
  let c : At Pbu := { own := s.pbu, bus := { s.bus with slsPbu := rest } }
  have run : exec .slotClaim s = .next ((s.withBus c.bus).onPbu (pbuClaim (.sls i ws wsb))) := by
    simp only [exec, execSlotClaim, hq]
    rfl
  have judged : Judged yes c i n (slotGranted s.pbu.slots[i] ws wsb) .granted (slotClaim i ws wsb c) :=
    slotClaim_judged (c := c) h hold i ws wsb
  have answered : pbuClaim (.sls i ws wsb) c = { (slotClaim i ws wsb c).1 with
      bus := (slotClaim i ws wsb c).1.bus.sendPbuSls (.claimAnswer i (decide yes) (if yes then n else 0)) } := by
    rw [pbuClaim_of_sls hold, answerSls]
    dsimp only
    rw [judged.answer]
    by_cases granted : yes
    · simp only [granted, if_true, decide_true]
      rfl
    · simp only [granted, if_false, decide_false]
      rfl
  refine ⟨_, run, ?_, ?_⟩
  · have own : (pbuClaim (.sls i ws wsb) c).own = _ := (congrArg At.own answered).trans judged.own
    exact congrArg (fun u => { s with pbu := u, bus := (pbuClaim (.sls i ws wsb) c).bus }) own
  · change (pbuClaim (.sls i ws wsb) c).bus = { s.bus with
      slsPbu := rest
      pbuSls := s.bus.pbuSls ++ [.claimAnswer i (decide yes) (if yes then n else 0)]
      toSpw := (pbuClaim (.sls i ws wsb) c).bus.toSpw
      toAtu := (pbuClaim (.sls i ws wsb) c).bus.toAtu }
    rw [answered, Bus.sendPbuSls]
    dsimp only
    rw [judged.told.silent_frame]

/-- Settles O27: each claim's need is what its entry adds to D, and the claim is judged by that need. -/
theorem claimsAreJudgedByTheHeadroom : Obligations.ClaimsAreJudgedByTheHeadroom := by
  unfold Obligations.ClaimsAreJudgedByTheHeadroom
  intro s h hold headroom watts onList waking granted after ptuJudged
  have judged {c rest i n e g} (j : PtuJudged s c rest i n e g) : ptuJudged c rest i n e g := j
  refine ⟨fun p t rest hq new => ?_, fun p old t was rest hq listed => ?_, fun i rest hq => ?_,
    fun i ws wsb rest hq => slotJudged h hold hq⟩
  · have run : exec .portClaim s = .next ((s.withBus { s.bus with ptuPbu := rest }).onPbu
        (pbuClaim (.ptu (.portClaim p t)))) := by simp only [exec, execPortClaim, hq]
    exact ⟨fun standing => judged (ptuJudged_of run (pbuClaim_of_port hold _ _)
        (portClaim_powered_judged (c := atPtuRest s rest) h hold new t standing)),
      fun standing => judged (ptuJudged_of run (pbuClaim_of_port hold _ _)
        (portClaim_standby_judged (c := atPtuRest s rest) h hold new t standing)),
      fun standing => judged (ptuJudged_of run (pbuClaim_of_port hold _ _)
        (portClaim_unpowered_judged (c := atPtuRest s rest) h hold new t standing))⟩
  · have run : exec .tierClaim s = .next ((s.withBus { s.bus with ptuPbu := rest }).onPbu
        (pbuClaim (.ptu (.tierClaim p old t)))) := by simp only [exec, execTierClaim, hq]
    exact judged (ptuJudged_of run (pbuClaim_of_tier hold _ _ _) (tierClaim_judged (c := atPtuRest s rest) h hold listed t))
  · have run : exec .wakeClaimJudged s = .next ((s.withBus { s.bus with ptuPbu := rest }).onPbu
        (pbuClaim (.ptu (.wakeClaim i)))) := by simp only [exec, execWakeClaimJudged, hq]
    exact ⟨fun standing => judged (ptuJudged_of run (pbuClaim_of_wake hold _)
        (wakeClaim_standby_judged (c := atPtuRest s rest) h hold standing)),
      fun standing => judged (ptuJudged_of run (pbuClaim_of_wake hold _)
        (wakeClaim_awake_judged (c := atPtuRest s rest) h hold standing))⟩

end Sys2Proof.Machine

/-! PROOFS. Over budget (R58 to R60): the grace, the shedding of the lowest priority, and its end. -/

namespace Sys2Proof.Machine

open Sys2Proof

/-! ### The machine out of WITHIN -/

/-- The grace runs (R58). -/
theorem overBudget_of_grace {c : At Pbu} (within : c.own.budget = .within) (grace : c.own.policy.grace ≠ 0) :
    overBudget c =
      { own := { c.own with
          budget := .grace, graceTimer := .running (1000 * c.own.policy.grace), intervalTimer := .stopped }
        bus := { c.bus with
          toSpw := c.bus.toSpw ++ [.header]
          toAtu := c.bus.toAtu ++ [{ raised := true, kind := .overBudget, object := 0 }] } } := by
  unfold overBudget
  dsimp only
  rw [if_neg grace, setBudget, within, markIf_eq]
  rfl

/-- OVER_BUDGET asked for. -/
def overBudgetRaised (c : At Pbu) : At Pbu := { c with bus := c.bus.raise .overBudget 0 }

/-- With a grace figure of 0 one slot is shed at once (R58). -/
theorem overBudget_of_no_grace {c : At Pbu} (grace : c.own.policy.grace = 0) :
    overBudget c = shedOrExhaust (overBudgetRaised c) := if_pos grace

/-- With no candidate the machine is EXHAUSTED (R58, R59). -/
theorem shedOrExhaust_of_bare {c : At Pbu} (bare : ∀ i : Slot, c.own.slots[i].standing = .unpowered)
    (not_exhausted : c.own.budget ≠ .exhausted) : shedOrExhaust c =
      { own := { c.own with budget := .exhausted, graceTimer := .stopped, intervalTimer := .stopped }
        bus := { c.bus with toSpw := c.bus.toSpw ++ [.header] } } := by
  have marked : (BudgetState.exhausted != c.own.budget) = true := bne_iff_ne.2 not_exhausted.symm
  simp only [shedOrExhaust, victim_eq_none bare, setBudget, marked, markIf_eq, if_true]

section shed

variable {c : At Pbu} {v : Slot} (supply : c.own.SupplyRight) (first : IsVictim c.own.slots v)

include first

theorem shedOrExhaust_of_victim :
    shedOrExhaust c = shedSlot v (setBudget .shedding .stopped (.running 1000) c) := by
  simp only [shedOrExhaust, victim_eq_some first]

include supply

/-- The victim UNPOWERED and marked, D without it, and the machine in SHEDDING with its timer, or WITHIN (R60). -/
theorem shedOrExhaust_own : (shedOrExhaust c).own =
    let slots := setAt c.own.slots v { c.own.slots[v] with standing := .unpowered, shedPending := true }
    let back := 0 ≤ headroomWithout v c.own
    { c.own with
      slots := slots
      demand := demandOf c.own.policy.wb c.own.policy.port c.own.trays slots
      budget := if back then .within else .shedding
      graceTimer := .stopped
      intervalTimer := if back then .stopped else .running 1000 } := by
  rw [shedOrExhaust_of_victim first,
    shedSlot_own (c := setBudget .shedding .stopped (.running 1000) c) ⟨supply.usable_right, supply.redundancy_right⟩]
  have same : headroomWithout v (setBudget .shedding .stopped (.running 1000) c).own = headroomWithout v c.own := rfl
  dsimp only
  rw [same]
  split_ifs <;> rfl

/-- The order goes out, and the clear of OVER_BUDGET when H is back; no other channel but the marks. -/
theorem shedOrExhaust_bus : (shedOrExhaust c).bus = { c.bus with
    pbuSls := c.bus.pbuSls ++ [.shedOrder v]
    toSpw := (shedOrExhaust c).bus.toSpw
    toAtu := c.bus.toAtu ++
      if 0 ≤ headroomWithout v c.own then [{ raised := false, kind := .overBudget, object := 0 }] else [] } := by
  have frame := (setBudget_tells .shedding .stopped (.running 1000) c).silent_frame
  have asked : (setBudget .shedding .stopped (.running 1000) c).bus.toAtu = c.bus.toAtu := by
    rw [setBudget, markIf_eq]
  have shed := shedSlot_bus (c := setBudget .shedding .stopped (.running 1000) c)
    ⟨supply.usable_right, supply.redundancy_right⟩ v
  rw [asked] at shed
  rw [shedOrExhaust_of_victim first]
  refine shed.trans ?_
  rw [frame]
  rfl

end shed

/-! ### A fall of H from WITHIN (R58) -/

/-- D computed again with U as it was, the header marked when D moved. -/
def demandMarked (c : At Pbu) : At Pbu :=
  { own := c.own.demanded
    bus := { c.bus with toSpw := c.bus.toSpw ++ if c.own.demandNow = c.own.demand then [] else [.header] } }

theorem recompute_of_supply {c : At Pbu} (supply : c.own.SupplyRight) :
    recompute c = takeHeadroom (demandMarked c) := congrArg takeHeadroom (pbuFigures_of_supply supply)

/-- A fall of H below 0 from WITHIN, by D, marks the header and starts the episode. -/
theorem recompute_of_fall {c : At Pbu} (supply : c.own.SupplyRight) (hold : c.own.hold = false)
    (within : c.own.budget = .within) (enough : 0 ≤ c.own.headroom) (short : c.own.demanded.headroom < 0) :
    recompute c = overBudget
      { own := c.own.demanded, bus := { c.bus with toSpw := c.bus.toSpw ++ [.header] } } := by
  have moved : c.own.demandNow ≠ c.own.demand := fun same => by
    simp only [Pbu.headroom, Pbu.demanded, same] at enough short
    omega
  have marked : demandMarked c = { own := c.own.demanded, bus := { c.bus with toSpw := c.bus.toSpw ++ [.header] } } := by
    rw [demandMarked, if_neg moved]
  rw [recompute_of_supply supply, takeHeadroom_of_fall (c := demandMarked c) hold within short, marked]

/-- What the block makes of a message is what the state is then. -/
theorem onPbu_eq {s : State} {b : Bus} {f : At Pbu → At Pbu} {d : At Pbu} (h : f { own := s.pbu, bus := b } = d) :
    (s.withBus b).onPbu f = { s with pbu := d.own, bus := d.bus } := by
  subst h
  rfl

/-! ### Duty reports -/

/-- The PBU with a duty report written into its tray entry (R49). -/
def Pbu.withDuty (b : Pbu) (r : DutyReport) : Pbu :=
  { b with trays := setAt b.trays r.tray { present := r.present, fmax := r.fmax, duty := r.duty } }

/-- A duty report taken from its channel into the table. -/
def dutyTaken (s : State) (r : DutyReport) (rest : List DutyReport) : At Pbu :=
  { own := s.pbu.withDuty r, bus := { s.bus with clcPbu := rest } }

/-- The same, with D computed and the header marked. -/
def dutyMarked (s : State) (r : DutyReport) (rest : List DutyReport) : At Pbu :=
  { own := (s.pbu.withDuty r).demanded
    bus := { s.bus with clcPbu := rest, toSpw := s.bus.toSpw ++ [.header] } }

/-- A duty report taken is what the recomputation makes of the table with it. -/
theorem exec_dutyReport {s : State} {r : DutyReport} {rest : List DutyReport} (hq : s.bus.clcPbu = r :: rest) {d : At Pbu}
    (computed : recompute (dutyTaken s r rest) = d) :
    exec .dutyReport s = .next { s with pbu := d.own, bus := d.bus } := by
  simp only [exec, execDutyReport, hq]
  exact congrArg Host.Outcome.next (onPbu_eq computed)

section duty

variable {s : State} {r : DutyReport} {rest : List DutyReport} (h : s.pbu.Sound) (hq : s.bus.clcPbu = r :: rest)
  (short : (s.pbu.withDuty r).demanded.headroom < 0)

include h hq short

/-- Out of WITHIN the machine goes on (R58). -/
theorem dutyReport_goesOn (out : s.pbu.budget ≠ .within) : exec .dutyReport s = .next { s with
    pbu := (s.pbu.withDuty r).demanded
    bus := { s.bus with
      clcPbu := rest
      toSpw := s.bus.toSpw ++ if (s.pbu.withDuty r).demandNow = s.pbu.demand then [] else [.header] } } := by
  have goesOn : recompute (dutyTaken s r rest) = demandMarked (dutyTaken s r rest) := by
    rw [recompute_of_supply (c := dutyTaken s r rest) ⟨h.usable_right, h.redundancy_right⟩]
    exact takeHeadroom_of_short (c := demandMarked (dutyTaken s r rest)) short out
  rw [exec_dutyReport hq goesOn]
  rfl

variable (hold : s.pbu.hold = false) (within : s.pbu.budget = .within)

include hold within

omit hq in
/-- From WITHIN the report starts the episode. -/
theorem dutyReport_falls : recompute (dutyTaken s r rest) = overBudget (dutyMarked s r rest) :=
  recompute_of_fall (c := dutyTaken s r rest) ⟨h.usable_right, h.redundancy_right⟩ hold within
    (h.enough_of_within hold within) short

/-- The grace begins (R58). -/
theorem dutyReport_grace (grace : s.pbu.policy.grace ≠ 0) : exec .dutyReport s = .next { s with
    pbu := { (s.pbu.withDuty r).demanded with budget := .grace, graceTimer := .running (1000 * s.pbu.policy.grace) }
    bus := { s.bus with
      clcPbu := rest
      toSpw := s.bus.toSpw ++ [.header, .header]
      toAtu := s.bus.toAtu ++ [{ raised := true, kind := .overBudget, object := 0 }] } } := by
  rw [exec_dutyReport hq (dutyReport_falls h short hold within),
    overBudget_of_grace (c := dutyMarked s r rest) within grace]
  simp only [dutyMarked, List.append_assoc]
  rw [← (h.machine.stopped_of_within within).2]
  rfl

variable (grace : s.pbu.policy.grace = 0)

include grace

/-- No grace, and no candidate: EXHAUSTED (R58). -/
theorem dutyReport_exhausts (bare : ∀ i : Slot, s.pbu.slots[i].standing = .unpowered) :
    exec .dutyReport s = .next { s with
      pbu := { (s.pbu.withDuty r).demanded with budget := .exhausted }
      bus := { s.bus with
        clcPbu := rest
        toSpw := s.bus.toSpw ++ [.header, .header]
        toAtu := s.bus.toAtu ++ [{ raised := true, kind := .overBudget, object := 0 }] } } := by
  obtain ⟨graceStopped, intervalStopped⟩ := h.machine.stopped_of_within within
  have open' : (overBudgetRaised (dutyMarked s r rest)).own.budget ≠ .exhausted := fun e => by
    have : s.pbu.budget = .exhausted := e
    simp [within] at this
  have stays : { (s.pbu.withDuty r).demanded with
      budget := .exhausted, graceTimer := .stopped, intervalTimer := .stopped } =
      { (s.pbu.withDuty r).demanded with budget := .exhausted } := by
    simp only [Pbu.demanded, Pbu.withDuty, graceStopped, intervalStopped]
  rw [exec_dutyReport hq (dutyReport_falls h short hold within), overBudget_of_no_grace (c := dutyMarked s r rest) grace,
    shedOrExhaust_of_bare (c := overBudgetRaised (dutyMarked s r rest)) bare open', ← stays]
  simp only [dutyMarked, overBudgetRaised, Bus.raise, List.append_assoc]
  rfl

/-- No grace, and a victim: it is shed at once (R58, R60). -/
theorem dutyReport_sheds {v : Slot} (first : IsVictim s.pbu.slots v) :
    let u := s.pbu.withDuty r
    let slots := setAt s.pbu.slots v { s.pbu.slots[v] with standing := .unpowered, shedPending := true }
    let less := demandOf u.policy.wb u.policy.port u.trays slots
    let back := 0 ≤ (u.usable : Int) - less
    ∃ t, exec .dutyReport s = .next t ∧
      t = { s with
        pbu := { u with
          slots := slots, demand := less, budget := if back then .within else .shedding
          intervalTimer := if back then .stopped else .running 1000 }
        bus := t.bus } ∧
      t.bus = { s.bus with
        clcPbu := rest
        pbuSls := s.bus.pbuSls ++ [.shedOrder v]
        toSpw := t.bus.toSpw
        toAtu := s.bus.toAtu ++ [{ raised := true, kind := .overBudget, object := 0 }] ++
          (if back then [{ raised := false, kind := .overBudget, object := 0 }] else []) } := by
  intro u slots less back
  have shed : recompute (dutyTaken s r rest) = shedOrExhaust (overBudgetRaised (dutyMarked s r rest)) := by
    rw [dutyReport_falls h short hold within, overBudget_of_no_grace grace]
  have supply : (overBudgetRaised (dutyMarked s r rest)).own.SupplyRight := ⟨h.usable_right, h.redundancy_right⟩
  refine ⟨_, exec_dutyReport hq shed, ?_, ?_⟩
  · rw [shedOrExhaust_own supply first, ← (h.machine.stopped_of_within within).1]
    rfl
  · exact shedOrExhaust_bus supply first

end duty

/-! ### The timers of the machine (R59) -/

section expiry

variable {s : State} {c : Instr} (h : s.pbu.Sound)
  (expires : (c = .graceTimerExpiry ∧ s.pbu.budget = .grace ∧ s.pbu.graceTimer ≠ .runOut) ∨
    (c = .intervalTimerExpiry ∧ s.pbu.budget = .shedding ∧ s.pbu.intervalTimer ≠ .runOut))

include h expires

/-- The grace timer in GRACE and the interval timer in SHEDDING run, and at the expiry the PBU sheds or is EXHAUSTED. -/
theorem exec_expiry : exec c s = .next (s.onPbu shedOrExhaust) := by
  rcases expires with ⟨rfl, state, out⟩ | ⟨rfl, state, out⟩
  · have runs := h.grace_timer.2 state
    cases timer : s.pbu.graceTimer with
    | running ms => simp only [exec, execGraceTimerExpiry, timer]
    | stopped => exact absurd timer runs
    | runOut => exact absurd timer out
  · have runs := h.interval_timer.2 state
    cases timer : s.pbu.intervalTimer with
    | running ms => simp only [exec, execIntervalTimerExpiry, timer]
    | stopped => exact absurd timer runs
    | runOut => exact absurd timer out

end expiry

/-- Settles O29: a fall of H from WITHIN starts the episode, and an expiry sheds the victim or finds none. -/
theorem shedsTheLowestPriority : Obligations.ShedsTheLowestPriority := by
  unfold Obligations.ShedsTheLowestPriority
  refine ⟨fun s r rest h hold hq within grace => ?_, fun s r rest h hold hq => ?_, fun s c h expires => ⟨?_, ?_⟩⟩
  · intro u d short
    exact dutyReport_grace h hq short hold within grace
  · intro u d raise short
    exact ⟨fun out => dutyReport_goesOn h hq short out, fun within grace =>
      ⟨fun bare => dutyReport_exhausts h hq short hold within grace bare,
        fun v cand first => dutyReport_sheds h hq short hold within grace ⟨cand, first⟩⟩⟩
  · intro v cand first slots d back
    refine ⟨_, exec_expiry h expires, ?_, ?_⟩
    · exact congrArg (fun u => { s with pbu := u, bus := (s.onPbu shedOrExhaust).bus })
        (shedOrExhaust_own (c := { own := s.pbu, bus := s.bus }) h.supply ⟨cand, first⟩)
    · exact shedOrExhaust_bus (c := { own := s.pbu, bus := s.bus }) h.supply ⟨cand, first⟩
  · intro bare
    have open' : s.pbu.budget ≠ .exhausted := by
      rcases expires with ⟨-, state, -⟩ | ⟨-, state, -⟩ <;> simp [state]
    rw [exec_expiry h expires]
    exact congrArg (fun d : At Pbu => Host.Outcome.next { s with pbu := d.own, bus := d.bus })
      (shedOrExhaust_of_bare (c := { own := s.pbu, bus := s.bus }) bare open')

end Sys2Proof.Machine

/-! PROOFS. Power modules (R40 to R44): identification, lines, polls and presence. -/

namespace Sys2Proof.Machine

open Sys2Proof

/-! ### A recomputation seen from outside -/

theorem shedSlot_supply (i : Slot) (c : At Pbu) : (shedSlot i c).own.SupplyRight := by
  rw [shedSlot_eq]
  split_ifs <;> exact ⟨rfl, rfl⟩

theorem shedOrExhaust_supply {c : At Pbu} (h : c.own.SupplyRight) : (shedOrExhaust c).own.SupplyRight :=
  shedOrExhaust_cases c (P := fun d => d.own.SupplyRight) (fun _ _ => shedSlot_supply _ _)
    fun _ => ⟨h.usable_right, h.redundancy_right⟩

theorem takeHeadroom_supply {c : At Pbu} (h : c.own.SupplyRight) : (takeHeadroom c).own.SupplyRight := by
  refine takeHeadroom_cases c (P := fun d => d.own.SupplyRight) (fun _ => h)
    (fun _ _ _ => ⟨h.usable_right, h.redundancy_right⟩) fun _ _ _ => ?_
  unfold overBudget
  dsimp only
  split_ifs
  · exact shedOrExhaust_supply (c := { c with bus := c.bus.raise .overBudget 0 }) h
  · exact ⟨h.usable_right, h.redundancy_right⟩

/-- U after a recomputation is that of the modules and the mode, whatever is shed (R48). -/
theorem recompute_usable (c : At Pbu) : (recompute c).own.usable = usableOf c.own.policy.mode c.own.modules := by
  have supply := (takeHeadroom_supply (pbuFigures_figures c).toSupplyRight).usable_right
  have kept := Pbu.Kept.recompute c
  rw [← kept.policy, ← kept.modules]
  exact supply

/-- A sound budget computed again is as it was, and nothing is sent. -/
theorem recompute_of_sound {c : At Pbu} (h : c.own.Sound) : recompute c = c := by
  rw [recompute, pbuFigures_of_right h.figures]
  refine takeHeadroom_cases c (P := fun d => d = c) (fun _ => rfl) (fun hold out enough => ?_) fun hold within short => ?_
  · exact absurd (h.within_right.2 (.inr enough)) out
  · exact absurd short (not_lt.2 (h.enough_of_within hold within))

/-! ### One module record written (R40, R47) -/

theorem computed_of_available {r : ModuleRec} (h : r.available = availableOf r) : r.computed = r := by
  rw [ModuleRec.computed, ← h]

/-- A record right by R47 is as written when R47's fields stand, or when it is in OK neither before nor after. -/
theorem computed_of_same {r old : ModuleRec} (right : old.available = availableOf old) (available : r.available = old.available)
    (state : r.state = old.state) (wr : r.wr = old.wr) (tin : r.tin = old.tin) : r.computed = r :=
  computed_of_available (by rw [available, right, availableOf, availableOf, state, wr, tin])

theorem computed_of_not_ok {r old : ModuleRec} (right : old.available = availableOf old)
    (available : r.available = old.available) (new : r.state ≠ .ok) (was : old.state ≠ .ok) : r.computed = r :=
  computed_of_available (by rw [available, right, availableOf_of_not_ok was, availableOf_of_not_ok new])

/-- A write that changes a field of R40 marks the bay. -/
theorem writeModule_marked {b : Fin 4} {r : ModuleRec} {c : At Pbu} (changed : r.computed.listed ≠ c.own.modules[b].listed) :
    writeModule b r c =
      { own := { c.own with modules := setAt c.own.modules b r.computed }
        bus := { c.bus with toSpw := c.bus.toSpw ++ [.moduleBay b] } } := by
  have marked : (r.computed.listed != c.own.modules[b].listed) = true := bne_iff_ne.2 changed
  change ({ own := _, bus := c.bus.markIf (r.computed.listed != c.own.modules[b].listed) _ } : At Pbu) = _
  rw [marked]
  rfl

theorem writeModule_tells (b : Fin 4) (r : ModuleRec) (c : At Pbu) : Bus.Tells [] c.bus (writeModule b r c).bus :=
  .markIf _ _ _

/-- The inventory read asked for after a write: the tag is the bay's (R42). -/
theorem requestInventory_written {b : Fin 4} {r : ModuleRec} {c : At Pbu}
    (changed : r.computed.listed ≠ c.own.modules[b].listed) : requestInventory b (writeModule b r c) =
      { own := { c.own with modules := setAt c.own.modules b r.computed }
        bus := { c.bus with
          toSpw := c.bus.toSpw ++ [.moduleBay b]
          toMlc := c.bus.toMlc ++ [{ who := .pbu, dev := .moduleBay b, cmd := .inventory, tag := r.epoch }] } } := by
  rw [writeModule_marked changed, requestInventory]
  simp only [setAt_get_self]
  rfl

/-! ### Identification (R41, R42) -/

/-- R42: an OK answer with rated watts in range. -/
def GoodRating (o : LineOutcome) (w : Nat) : Prop := ∃ data, o = .ok data ∧ field data 0 2 = w ∧ 200 ≤ w ∧ w ≤ 4000

theorem goodRating_of_good {o : LineOutcome} {w : Nat} (h : GoodRating o w) : goodRating o = some w := by
  obtain ⟨data, rfl, rfl, range⟩ := h
  exact if_pos range

theorem goodRating_of_bad {o : LineOutcome} (h : ∀ w, ¬ GoodRating o w) : goodRating o = none := by
  cases o with
  | ok data => exact if_neg fun range => h _ ⟨data, rfl, rfl, range⟩
  | noAnswer | badCheck => rfl

/-- R43: the state that the lines give, by their levels. -/
theorem moduleStateOf_eq (inputOk outputOk : Bool) : moduleStateOf inputOk outputOk =
    if inputOk = false then .inputLost else if outputOk = false then .outputFault else .ok := by
  cases inputOk <;> cases outputOk <;> rfl

/-- R43: the alarm requests of a passage between two states. -/
def moduleAsks (b : Fin 4) (old new : ModuleState) : List AlarmRequest :=
  (if old = .inputLost then [{ raised := false, kind := .moduleInputLost, object := b.val }] else []) ++
  (if old = .outputFault then [{ raised := false, kind := .moduleFault, object := b.val }] else []) ++
  (if new = .inputLost then [{ raised := true, kind := .moduleInputLost, object := b.val }] else []) ++
  (if new = .outputFault then [{ raised := true, kind := .moduleFault, object := b.val }] else [])

theorem moduleAlarms_eq (b : Fin 4) {old new : ModuleState} (ne : old ≠ new) (x : Bus) :
    moduleAlarms b old new x = { x with toAtu := x.toAtu ++ moduleAsks b old new } := by
  unfold moduleAlarms moduleAsks
  rw [if_neg ne]
  dsimp only
  cases old <;> cases new <;> simp [Bus.raise, Bus.clearAlarm] at ne ⊢

/-- The record of a module newly identified: polled at once, and at half its rating until its first good poll (R42). -/
def identified (m : ModuleRec) (st : ModuleState) (w : Nat) : ModuleRec :=
  { m with
    state := st, wr := w, tin := 60, telemetry := .held3, tryNo := none, retryTimer := .stopped
    polls := m.polls ++ [m.epoch], available := if st = .ok then w * 500 / 1000 else 0 }

/-- The PBU with the module identified, its alarm asked for and its poll requested, and nothing computed again yet. -/
def identifiedPolled (b : Fin 4) (st : ModuleState) (w : Nat) (c : At Pbu) : At Pbu :=
  let d := writeModule b { c.own.modules[b] with
    wr := w, state := st, tin := 60, telemetry := .held3, tryNo := none, retryTimer := .stopped } c
  requestPoll b { d with bus := moduleAlarms b .identifying st d.bus }

theorem identifiedPolled_own (b : Fin 4) (st : ModuleState) (w : Nat) (c : At Pbu) :
    (identifiedPolled b st w c).own =
      { c.own with modules := setAt c.own.modules b (identified c.own.modules[b] st w) } := by
  simp only [identifiedPolled, requestPoll, writeModule_own, setAt_get_self, setAt_setAt]
  rfl

theorem identifiedPolled_bus (b : Fin 4) {st : ModuleState} (entered : ModuleState.identifying ≠ st) (w : Nat)
    (c : At Pbu) : (identifiedPolled b st w c).bus = { c.bus with
      toSpw := (identifiedPolled b st w c).bus.toSpw
      toAtu := c.bus.toAtu ++ moduleAsks b .identifying st
      toMlc := c.bus.toMlc ++
        [{ who := .pbu, dev := .moduleBay b, cmd := .telemetry, tag := c.own.modules[b].epoch }] } := by
  simp only [identifiedPolled, requestPoll, writeModule, moduleAlarms_eq b entered, markIf_eq, Bus.request,
    setAt_get_self]

section tries

variable {c : At Pbu} {b : Fin 4} {n : Nat} (identifying : c.own.modules[b].state = .identifying)
  (tried : c.own.modules[b].tryNo = some n) (waiting : c.own.modules[b].retryTimer = .stopped) {o : LineOutcome}
  (inputOk outputOk : Bool)

include identifying tried waiting

/-- R42: a failed first or second try. -/
theorem moduleTry_again (bad : goodRating o = none) (early : n < 3) :
    moduleTry b c.own.modules[b].epoch o inputOk outputOk c =
      writeModule b { c.own.modules[b] with tryNo := some (n + 1), retryTimer := .running 100 } c := by
  simp only [moduleTry, tried, identifying, waiting, bad, ne_eq, not_true, or_self, if_false, if_pos early]

/-- R42: the third failure. -/
theorem moduleTry_unknown (bad : goodRating o = none) (last : 3 ≤ n) :
    let d := writeModule b
      { c.own.modules[b] with state := .unknownModule, wr := 0, tryNo := none, retryTimer := .stopped } c
    moduleTry b c.own.modules[b].epoch o inputOk outputOk c =
      recompute (finishBay b { d with bus := d.bus.raise .moduleUnknown b.val }) := by
  simp only [moduleTry, tried, identifying, waiting, bad, ne_eq, not_true, or_self, if_false, if_neg (not_lt.2 last)]

/-- R42: a good try. -/
theorem moduleTry_good {w : Nat} (good : goodRating o = some w) :
    moduleTry b c.own.modules[b].epoch o inputOk outputOk c =
      recompute (identifiedPolled b (moduleStateOf inputOk outputOk) w c) := by
  simp only [moduleTry, tried, identifying, waiting, good, ne_eq, not_true, or_self, if_false]
  rfl

end tries

/-! ### The commands of identification -/

/-- A record in a state that contributes nothing, listed with another state, try or timer, is marked. -/
theorem listed_ne_of_state {r old : ModuleRec} (h : r.state ≠ old.state) : r.listed ≠ old.listed :=
  fun e => h (congrArg (fun m : ModuleRec => m.state) e : r.listed.state = old.listed.state)

theorem listed_ne_of_retryTimer {r old : ModuleRec} (h : r.retryTimer ≠ old.retryTimer) : r.listed ≠ old.listed :=
  fun e => h (congrArg (fun m : ModuleRec => m.retryTimer) e : r.listed.retryTimer = old.listed.retryTimer)

/-- R41: presence gained in ABSENT. -/
theorem exec_bayGained {s : State} {b : Fin 4} {rest : List (Fin 4 × Bool)} (hq : s.bus.tbPbu = (b, true) :: rest)
    (h : s.pbu.Sound) (absent : s.pbu.modules[b].state = .absent) :
    let m := { s.pbu.modules[b] with state := ModuleState.identifying, tryNo := some 1, retryTimer := Timer.stopped }
    exec .bayPresenceGained s = .next { s with
      pbu := { s.pbu with modules := setAt s.pbu.modules b m }
      bus := { s.bus with
        tbPbu := rest
        toSpw := s.bus.toSpw ++ [.moduleBay b]
        toMlc := s.bus.toMlc ++
          [{ who := .pbu, dev := .moduleBay b, cmd := .inventory, tag := s.pbu.modules[b].epoch }] } } := by
  intro r
  let c : At Pbu := { own := s.pbu, bus := { s.bus with tbPbu := rest } }
  have was : s.pbu.modules[b].state ≠ .ok := by rw [absent]; decide
  have right : r.computed = r := computed_of_not_ok (h.available_right b) rfl
    (show ModuleState.identifying ≠ .ok by decide) was
  have changed : r.computed.listed ≠ c.own.modules[b].listed := listed_ne_of_state fun e => by
    have was : ModuleState.identifying = s.pbu.modules[b].state := e
    exact absurd (was.trans absent) (by decide)
  have gained : moduleGained b c = requestInventory b (writeModule b r c) := if_pos absent
  simp only [exec, execBayPresenceGained, hq]
  rw [onPbu_eq (gained.trans (requestInventory_written changed)), right]

/-- R42: the retry timer ends. -/
theorem exec_moduleRetry {s : State} {b : Fin 4} {ms : Nat} (h : s.pbu.Sound)
    (running : s.pbu.modules[b].retryTimer = .running ms) :
    exec (.moduleRetryTimer b) s = .next { s with
      pbu := { s.pbu with modules := setAt s.pbu.modules b { s.pbu.modules[b] with retryTimer := .stopped } }
      bus := { s.bus with
        toSpw := s.bus.toSpw ++ [.moduleBay b]
        toMlc := s.bus.toMlc ++
          [{ who := .pbu, dev := .moduleBay b, cmd := .inventory, tag := s.pbu.modules[b].epoch }] } } := by
  let r : ModuleRec := { s.pbu.modules[b] with retryTimer := .stopped }
  let c : At Pbu := { own := s.pbu, bus := s.bus }
  have right : r.computed = r := computed_of_same (h.available_right b) rfl rfl rfl rfl
  have changed : r.computed.listed ≠ c.own.modules[b].listed := listed_ne_of_retryTimer fun e => by
    have was : Timer.stopped = s.pbu.modules[b].retryTimer := e
    exact absurd (was.trans running) Timer.noConfusion
  have again : moduleRetry b c = requestInventory b (writeModule b r c) := by
    simp only [moduleRetry, c, running]
    rfl
  simp only [exec, execModuleRetryTimer]
  exact congrArg Host.Outcome.next ((onPbu_eq (b := s.bus) (again.trans (requestInventory_written changed))).trans
    (by rw [right]))

/-- An inventory answer of the bay taken from its channel. -/
theorem exec_inventoryAnswer {s : State} {b : Fin 4} {t : Nat} {o : LineOutcome} {rest : List MlcAnswer}
    (hq : s.bus.mlcPbu = { req := { who := .pbu, dev := .moduleBay b, cmd := .inventory, tag := t }, outcome := o } :: rest)
    {d : At Pbu} (tried : moduleTry b t o s.pins.inputOk[b] s.pins.outputOk[b]
      { own := s.pbu, bus := { s.bus with mlcPbu := rest } } = d) :
    exec .moduleInventoryAnswer s = .next { s with pbu := d.own, bus := d.bus } := by
  simp only [exec, execModuleInventoryAnswer, hq]
  exact congrArg Host.Outcome.next (onPbu_eq tried)

/-- The channels that a recomputation leaves alone. -/
theorem Bus.Tells.toMlc {x : List PbuToSls} {b b' : Bus} (h : Bus.Tells x b b') : b'.toMlc = b.toMlc := by
  rw [h.frame]

section answers

variable {s : State} {b : Fin 4} {n : Nat} {o : LineOutcome} {rest : List MlcAnswer} (h : s.pbu.Sound)
  (hq : s.bus.mlcPbu = { req := { who := .pbu, dev := .moduleBay b, cmd := .inventory, tag := s.pbu.modules[b].epoch }
                         outcome := o } :: rest)
  (identifying : s.pbu.modules[b].state = .identifying) (tried : s.pbu.modules[b].tryNo = some n)
  (waiting : s.pbu.modules[b].retryTimer = .stopped)

include h hq identifying tried waiting

/-- R42: a failed first or second try waits 100 ms. -/
theorem exec_inventory_again (bad : goodRating o = none) (early : n < 3) :
    let m := { s.pbu.modules[b] with tryNo := some (n + 1), retryTimer := Timer.running 100 }
    exec .moduleInventoryAnswer s = .next { s with
      pbu := { s.pbu with modules := setAt s.pbu.modules b m }
      bus := { s.bus with mlcPbu := rest, toSpw := s.bus.toSpw ++ [.moduleBay b] } } := by
  intro m
  let c : At Pbu := { own := s.pbu, bus := { s.bus with mlcPbu := rest } }
  have right : m.computed = m := computed_of_same (h.available_right b) rfl rfl rfl rfl
  have changed : m.computed.listed ≠ c.own.modules[b].listed := listed_ne_of_retryTimer fun e => by
    have was : Timer.running 100 = s.pbu.modules[b].retryTimer := e
    exact absurd (was.trans waiting) Timer.noConfusion
  rw [exec_inventoryAnswer hq ((moduleTry_again (c := c) identifying tried waiting _ _ bad early).trans
    (writeModule_marked changed)), right]

/-- R42: the third failure. The module supplied nothing before and supplies nothing now, so that the recomputation
changes nothing. -/
theorem exec_inventory_unknown (bad : goodRating o = none) (last : 3 ≤ n) :
    let m := { s.pbu.modules[b] with state := ModuleState.unknownModule, wr := 0, tryNo := none }
    ∃ t, exec .moduleInventoryAnswer s = .next t ∧ t = { s with pbu := t.pbu, bus := t.bus } ∧
      t.pbu.modules = setAt s.pbu.modules b m ∧ t.pbu.finished = setAt s.pbu.finished b true ∧
      t.pbu.usable = s.pbu.usable ∧ t.pbu.slots = s.pbu.slots ∧
      t.bus.toAtu = s.bus.toAtu ++ [{ raised := true, kind := .moduleUnknown, object := b.val }] ∧
      t.bus.toMlc = s.bus.toMlc := by
  intro m
  let r : ModuleRec := { s.pbu.modules[b] with
    state := .unknownModule, wr := 0, tryNo := none, retryTimer := .stopped }
  let c : At Pbu := { own := s.pbu, bus := { s.bus with mlcPbu := rest } }
  let d := writeModule b r c
  have was : s.pbu.modules[b].state ≠ .ok := by rw [identifying]; decide
  have new : r.state ≠ .ok := show ModuleState.unknownModule ≠ .ok by decide
  have same : r = m := by simp only [r, m, ← waiting]
  have right : r.computed = m := (computed_of_not_ok (r := r) (h.available_right b) rfl new was).trans same
  have sound : (finishBay b { d with bus := d.bus.raise .moduleUnknown b.val }).own.Sound :=
    (writeModule_sound (c := c) h b (computed_supply_of_not_ok (h.available_right b) new was)).withHeld _ _ _
  have ran : moduleTry b s.pbu.modules[b].epoch o s.pins.inputOk[b] s.pins.outputOk[b] c =
      finishBay b { d with bus := d.bus.raise .moduleUnknown b.val } :=
    (moduleTry_unknown (c := c) identifying tried waiting _ _ bad last).trans (recompute_of_sound sound)
  have written := (writeModule_tells b r c).silent_frame
  refine ⟨_, exec_inventoryAnswer hq ran, rfl, ?_, rfl, rfl, rfl, ?_, ?_⟩
  · change setAt s.pbu.modules b r.computed = _
    rw [right]
  · change (writeModule b r c).bus.toAtu ++ _ = _
    rw [writeModule, markIf_eq]
  · change (writeModule b r c).bus.toMlc = _
    rw [(writeModule_tells b r c).toMlc]

omit h in
/-- R42: a good try. -/
theorem exec_inventory_good {w : Nat} (good : goodRating o = some w) :
    let st := moduleStateOf s.pins.inputOk[b] s.pins.outputOk[b]
    ∃ t, exec .moduleInventoryAnswer s = .next t ∧ t = { s with pbu := t.pbu, bus := t.bus } ∧
      t.pbu.modules = setAt s.pbu.modules b (identified s.pbu.modules[b] st w) ∧
      t.pbu.policy = s.pbu.policy ∧ t.pbu.trays = s.pbu.trays ∧
      t.bus.toMlc = s.bus.toMlc ++
        [{ who := .pbu, dev := .moduleBay b, cmd := .telemetry, tag := s.pbu.modules[b].epoch }] ∧
      s.bus.toAtu ++ moduleAsks b .identifying st <+: t.bus.toAtu := by
  intro st
  let c : At Pbu := { own := s.pbu, bus := { s.bus with mlcPbu := rest } }
  let d := identifiedPolled b st w c
  have entered : ModuleState.identifying ≠ st := by
    simp only [st, moduleStateOf_eq]
    split_ifs <;> decide
  have own : d.own = _ := identifiedPolled_own b st w c
  have bus : d.bus = _ := identifiedPolled_bus b entered w c
  have kept := Pbu.Kept.recompute d
  obtain ⟨orders, told⟩ := recompute_tells d
  refine ⟨_, exec_inventoryAnswer hq (moduleTry_good (c := c) identifying tried waiting _ _ good), rfl, ?_, ?_, ?_, ?_, ?_⟩
  · exact kept.modules.trans (by rw [own])
  · exact kept.policy.trans (by rw [own])
  · exact kept.trays.trans (by rw [own])
  · exact told.toMlc.trans (by rw [bus])
  · have asked := told.asked
    rw [bus] at asked
    exact asked

end answers

/-- Settles O30: presence and the retry timer ask for the inventory, and each outcome of a try is taken as R42 says. -/
theorem moduleIdentificationMakesThreeTries : Obligations.ModuleIdentificationMakesThreeTries := by
  unfold Obligations.ModuleIdentificationMakesThreeTries
  refine ⟨fun s b rest hq h absent => exec_bayGained hq h absent, fun s b ms h running => exec_moduleRetry h running,
    fun s b o n rest h => ?_⟩
  intro m hq identifying tried waiting good
  refine ⟨fun bad early => exec_inventory_again h hq identifying tried waiting (goodRating_of_bad bad) early,
    fun bad last => exec_inventory_unknown h hq identifying tried waiting (goodRating_of_bad bad) last, fun w hw => ?_⟩
  obtain ⟨t, run, frame, modules, policy, trays, toMlc, asked⟩ :=
    exec_inventory_good hq identifying tried waiting (goodRating_of_good hw)
  rw [moduleStateOf_eq] at modules asked
  refine ⟨t, run, frame, ?_, policy, trays, toMlc, ?_⟩
  · rw [modules, identified, ← waiting]
  · refine (List.prefix_append_right_inj _).2 ?_ |>.trans asked
    split_ifs <;> simp [moduleAsks]

end Sys2Proof.Machine

/-! PROOFS. A live module (R41, R43, R44, R47): its lines, its polls and the loss of its presence. -/

namespace Sys2Proof.Machine

open Sys2Proof

/-- The states in which a module is polled and follows its lines. -/
theorem liveModule_iff {st : ModuleState} :
    liveModule st = true ↔ st = .ok ∨ st = .inputLost ∨ st = .outputFault := by
  cases st <;> simp [liveModule]

/-! ### Lines (R43) -/

/-- The record follows its lines: at rest it is so already, and else it is written and the figures follow. -/
theorem moduleLines_modules {c : At Pbu} {b : Fin 4} (h : c.own.Sound) (live : liveModule c.own.modules[b].state = true)
    (inputOk outputOk : Bool) :
    let st := moduleStateOf inputOk outputOk
    let r : ModuleRec := { c.own.modules[b] with state := st }
    (moduleLines b inputOk outputOk c).own.modules = setAt c.own.modules b r.computed ∧
      (moduleLines b inputOk outputOk c).own.usable =
        usableOf c.own.policy.mode (moduleLines b inputOk outputOk c).own.modules ∧
      (st ≠ c.own.modules[b].state →
        c.bus.toAtu ++ moduleAsks b c.own.modules[b].state st <+: (moduleLines b inputOk outputOk c).bus.toAtu) := by
  intro st r
  by_cases moved : st = c.own.modules[b].state
  · have rests : moduleLines b inputOk outputOk c = c := if_neg fun both => both.2 moved
    have same : r = c.own.modules[b] := by simp only [r, moved]
    have right : r.computed = c.own.modules[b] := by rw [same, computed_of_available (h.available_right b)]
    rw [rests, right]
    exact ⟨(setAt_self _ _).symm, h.usable_right, fun ne => absurd moved ne⟩
  · let d := writeModule b r c
    let told : At Pbu := { d with bus := moduleAlarms b c.own.modules[b].state st d.bus }
    have runs : moduleLines b inputOk outputOk c = recompute told := if_pos ⟨live, moved⟩
    have kept := Pbu.Kept.recompute told
    obtain ⟨orders, tells⟩ := recompute_tells told
    rw [runs]
    refine ⟨kept.modules, ?_, fun _ => ?_⟩
    · rw [kept.modules]
      exact recompute_usable told
    · have asked := tells.asked
      have written : d.bus.toAtu = c.bus.toAtu := by rw [(writeModule_tells b r c).silent_frame, writeModule, markIf_eq]
      have alarms : told.bus.toAtu = c.bus.toAtu ++ moduleAsks b c.own.modules[b].state st := by
        rw [← written]
        change (moduleAlarms b c.own.modules[b].state st d.bus).toAtu = _
        rw [moduleAlarms_eq b (Ne.symm moved)]
      exact alarms ▸ asked

/-! ### Polls (R44) -/

section poll

variable (o : LineOutcome) (r : ModuleRec)

/-- A poll judged leaves what R47 reads but Tin, and the polls. -/
theorem pollStep_kept : (pollStep o r).state = r.state ∧ (pollStep o r).wr = r.wr ∧ (pollStep o r).polls = r.polls := by
  unfold pollStep
  split
  · exact ⟨rfl, rfl, rfl⟩
  · split <;> exact ⟨rfl, rfl, rfl⟩

variable {o r}

theorem pollStep_good {data : List Byte} (ho : o = .ok data) (low : -40 ≤ signed16 (field data 0 2))
    (high : signed16 (field data 0 2) ≤ 150) : pollStep o r =
      { r with tin := signed16 (field data 0 2), outputWatts := field data 2 2, telemetry := .fresh } := by
  have good : goodPoll o = some (signed16 (field data 0 2), field data 2 2) := by
    subst ho
    exact if_pos ⟨low, high⟩
  simp only [pollStep, good]

/-- A failed poll steps the telemetry state; from HELD(2) on Tin is taken as 60. -/
theorem pollStep_failed
    (bad : ∀ data, o = .ok data → signed16 (field data 0 2) < -40 ∨ 150 < signed16 (field data 0 2)) :
    (pollStep o r).outputWatts = r.outputWatts ∧
      (pollStep o r).telemetry = (match r.telemetry with
        | .fresh => .held1
        | .held1 => .held2
        | .held2 | .held3 => .held3) ∧
      (pollStep o r).tin = (match r.telemetry with
        | .fresh | .held1 => r.tin
        | .held2 | .held3 => 60) := by
  have failed : goodPoll o = none := by
    cases o with
    | ok data =>
      refine if_neg fun range => ?_
      rcases bad data rfl with low | high <;> omega
    | noAnswer | badCheck => rfl
  simp only [pollStep, failed]
  cases r.telemetry <;> exact ⟨rfl, rfl, rfl⟩

end poll

/-! ### A write and the recomputation (R47, R48, R51) -/

/-- The channels to the PBU are not the recomputation's. -/
theorem Bus.Tells.mlcPbu {x : List PbuToSls} {b b' : Bus} (h : Bus.Tells x b b') : b'.mlcPbu = b.mlcPbu := by
  rw [h.frame]

theorem Bus.Tells.tbPbu {x : List PbuToSls} {b b' : Bus} (h : Bus.Tells x b b') : b'.tbPbu = b.tbPbu := by
  rw [h.frame]

/-- What a recomputation after a write of one bay, with what else the step sent, shows of the modules and of U. -/
theorem recompute_written {c d : At Pbu} {b : Fin 4} {r : ModuleRec}
    (modules : d.own.modules = setAt c.own.modules b r.computed) (policy : d.own.policy = c.own.policy) :
    (recompute d).own.modules = setAt c.own.modules b r.computed ∧
      (recompute d).own.usable = usableOf c.own.policy.mode (recompute d).own.modules := by
  have kept := (Pbu.Kept.recompute d).modules.trans modules
  exact ⟨kept, by rw [kept, ← modules, ← policy]; exact recompute_usable d⟩

/-- R44: the answer of the one outstanding poll of a live module is judged into its record, and its bay has finished. -/
theorem exec_telemetryAnswer {s : State} {b : Fin 4} {o : LineOutcome} {rest : List MlcAnswer}
    (hq : s.bus.mlcPbu = { req := { who := .pbu, dev := .moduleBay b, cmd := .telemetry, tag := s.pbu.modules[b].epoch }
                           outcome := o } :: rest)
    (live : liveModule s.pbu.modules[b].state = true) (polled : s.pbu.modules[b].polls = [s.pbu.modules[b].epoch]) :
    let m := { s.pbu.modules[b] with polls := [] }
    ∃ t, exec .telemetryAnswer s = .next t ∧ t = { s with pbu := t.pbu, bus := t.bus } ∧
      t.pbu.modules = setAt s.pbu.modules b (pollStep o m).computed ∧ t.pbu.finished = setAt s.pbu.finished b true ∧
      t.pbu.usable = usableOf s.pbu.policy.mode t.pbu.modules ∧ t.bus.mlcPbu = rest ∧ t.bus.toMlc = s.bus.toMlc := by
  intro m
  let c : At Pbu := { own := s.pbu, bus := { s.bus with mlcPbu := rest } }
  let d := finishBay b (writeModule b (pollStep o m) c)
  have answered : { s.pbu.modules[b] with polls := s.pbu.modules[b].polls.erase s.pbu.modules[b].epoch } = m := by
    rw [polled, List.erase_cons_head]
  have taken : takePoll b s.pbu.modules[b].epoch o c = recompute d := by
    refine (if_pos ⟨rfl, live⟩).trans ?_
    simp only [c, d, answered]
  have run : exec .telemetryAnswer s = .next { s with pbu := (recompute d).own, bus := (recompute d).bus } := by
    simp only [exec, execTelemetryAnswer, hq]
    exact congrArg Host.Outcome.next (onPbu_eq taken)
  obtain ⟨modules, usable⟩ := recompute_written (c := c) (d := d) (b := b) (r := pollStep o m) rfl rfl
  obtain ⟨orders, told⟩ := recompute_tells d
  have written := writeModule_tells b (pollStep o m) c
  exact ⟨_, run, rfl, modules, (Pbu.Kept.recompute d).finished, usable, told.mlcPbu.trans written.mlcPbu,
    told.toMlc.trans written.toMlc⟩

/-- R41: presence lost. -/
theorem exec_bayLost {s : State} {b : Fin 4} {rest : List (Fin 4 × Bool)} (hq : s.bus.tbPbu = (b, false) :: rest) :
    let m := { s.pbu.modules[b] with
      state := ModuleState.absent, wr := 0, tin := 0, telemetry := Telemetry.fresh, outputWatts := 0, available := 0
      tryNo := none, retryTimer := Timer.stopped, epoch := s.pbu.modules[b].epoch + 1 }
    ∃ t, exec .bayPresenceLost s = .next t ∧ t = { s with pbu := t.pbu, bus := t.bus } ∧
      t.pbu.modules = setAt s.pbu.modules b m ∧
      t.pbu.usable = usableOf s.pbu.policy.mode t.pbu.modules ∧ t.pbu.finished = setAt s.pbu.finished b true ∧
      t.pbu.policy = s.pbu.policy ∧ t.pbu.trays = s.pbu.trays ∧ t.bus.tbPbu = rest ∧
      s.bus.toAtu ++ [{ raised := false, kind := .moduleInputLost, object := b.val },
        { raised := false, kind := .moduleFault, object := b.val },
        { raised := false, kind := .moduleUnknown, object := b.val }] <+: t.bus.toAtu := by
  intro m
  let c : At Pbu := { own := s.pbu, bus := { s.bus with tbPbu := rest } }
  let w := writeModule b m c
  let d := finishBay b { w with bus :=
    ((w.bus.clearAlarm .moduleInputLost b.val).clearAlarm .moduleFault b.val).clearAlarm .moduleUnknown b.val }
  have run : exec .bayPresenceLost s = .next { s with pbu := (recompute d).own, bus := (recompute d).bus } := by
    simp only [exec, execBayPresenceLost, hq]
    rfl
  have right : m.computed = m :=
    computed_of_available (availableOf_of_not_ok (show ModuleState.absent ≠ .ok by decide)).symm
  have written : Bus.Tells [] c.bus w.bus := writeModule_tells b m c
  have cleared : Bus.Tells [] w.bus d.bus :=
    ((Bus.Tells.clearAlarm _ _ _).silent (.clearAlarm _ _ _)).silent (.clearAlarm _ _ _)
  have clears : d.bus.toAtu = s.bus.toAtu ++ [{ raised := false, kind := .moduleInputLost, object := b.val },
      { raised := false, kind := .moduleFault, object := b.val },
      { raised := false, kind := .moduleUnknown, object := b.val }] := by
    simp [d, w, c, finishBay, Bus.clearAlarm, writeModule, markIf_eq]
  have kept := Pbu.Kept.recompute d
  have modules : d.own.modules = setAt s.pbu.modules b m := congrArg (setAt s.pbu.modules b) right
  have usable := recompute_usable d
  obtain ⟨orders, told⟩ := recompute_tells d
  have asked := told.asked
  rw [clears] at asked
  refine ⟨_, run, rfl, kept.modules.trans modules, ?_, kept.finished, kept.policy, kept.trays,
    (told.tbPbu.trans cleared.tbPbu).trans written.tbPbu, asked⟩
  rw [kept.modules]
  exact usable

/-- Settles O31: the lines, the polls and the loss of presence write one record, and U follows it. -/
theorem moduleFollowsLinesPollsAndPresence : Obligations.ModuleFollowsLinesPollsAndPresence := by
  unfold Obligations.ModuleFollowsLinesPollsAndPresence
  refine ⟨fun s b line level h live => ?_, fun s b o rest h => ?_, fun s b rest hq => exec_bayLost hq⟩
  · let pins := setModuleLine b line level s.pins
    obtain ⟨modules, usable, asked⟩ := moduleLines_modules (c := { own := s.pbu, bus := s.bus }) h (liveModule_iff.2 live)
      pins.inputOk[b] pins.outputOk[b]
    rw [moduleStateOf_eq] at modules asked
    refine ⟨_, rfl, rfl, ?_, modules, usable, fun ne => ?_⟩
    · cases line <;> rfl
    · simp only [moduleAsks, ← List.append_assoc] at asked
      exact asked ne
  · intro m hq live polled
    obtain ⟨t, run, frame, modules, finished, usable, mlcPbu, toMlc⟩ :=
      exec_telemetryAnswer hq (liveModule_iff.2 live) polled
    have record : t.pbu.modules[b] = (pollStep o { m with polls := [] }).computed := by rw [modules, setAt_get_self]
    have others (c : Fin 4) (ne : c ≠ b) : t.pbu.modules[c] = s.pbu.modules[c] := by
      rw [modules, setAt_get_ne _ _ _ _ ne.symm]
    obtain ⟨state, wr, polls⟩ := pollStep_kept o { m with polls := [] }
    refine ⟨t, run, frame, others, finished, ?_, ?_, ?_, ?_, usable, mlcPbu, toMlc, fun data ho low high => ?_,
      fun bad => ?_⟩
    · rw [record]; exact state
    · rw [record]; exact wr
    · rw [record]; exact polls
    · rw [record]
      change availableOf _ = _
      simp only [availableOf, state, wr]
      rfl
    · rw [record, pollStep_good ho low high]
      exact ⟨rfl, rfl, rfl⟩
    · rw [record]
      exact pollStep_failed bad

end Sys2Proof.Machine

/-! PROOFS. POWER POLICY (R46): clamped, judged against H, and taken whole or not at all. -/

namespace Sys2Proof.Machine

open Sys2Proof

/-! ### A recomputation that may fall (R51, R58) -/

/-- H is below 0 once it is computed again, out of WITHIN and out of the start-up hold. -/
def Falls (c : At Pbu) : Prop :=
  (pbuFigures c).own.headroom < 0 ∧ c.own.budget = .within ∧ c.own.hold = false

/-- No slot is touched, and nothing is told to the SLS. -/
structure Unshed (c d : At Pbu) : Prop where
  slots : d.own.slots = c.own.slots
  demand : d.own.demand = c.own.demandNow
  told : Bus.Tells [] c.bus d.bus

section recompute

variable {c : At Pbu}

theorem recompute_unshed (machine : c.own.MachineRight) (h : ¬ Falls c) : Unshed c (recompute c) := by
  have steady : (pbuFigures c).own.Steady := fun within => by
    by_contra neither
    rw [not_or, Bool.not_eq_true, not_le] at neither
    exact h ⟨neither.2, within, neither.1⟩
  obtain ⟨own, told⟩ := takeHeadroom_settled (pbuFigures_machine machine) steady
  have settled : (recompute c).own = (pbuFigures c).own.settled := own
  exact ⟨by rw [settled]; rfl, by rw [settled]; rfl, (pbuFigures_tells c).silent told⟩

variable (h : Falls c)

include h

theorem recompute_falls : recompute c = overBudget (pbuFigures c) := takeHeadroom_of_fall h.2.2 h.2.1 h.1

theorem recompute_grace (grace : c.own.policy.grace ≠ 0) :
    Unshed c (recompute c) ∧ (recompute c).own.budget = .grace ∧
      (recompute c).own.graceTimer = .running (1000 * c.own.policy.grace) := by
  rw [recompute_falls h, overBudget_of_grace (c := pbuFigures c) h.2.1 grace]
  have frame := (pbuFigures_tells c).silent_frame
  refine ⟨⟨rfl, rfl, ?_⟩, rfl, rfl⟩
  exact (pbuFigures_tells c).silent ⟨by simp, List.prefix_append _ _⟩

variable (grace : c.own.policy.grace = 0)

include grace

theorem recompute_no_grace : recompute c = shedOrExhaust (overBudgetRaised (pbuFigures c)) :=
  (recompute_falls h).trans (overBudget_of_no_grace (c := pbuFigures c) grace)

theorem recompute_exhausts (bare : ∀ i : Slot, c.own.slots[i].standing = .unpowered) :
    Unshed c (recompute c) ∧ (recompute c).own.budget = .exhausted := by
  have open' : (overBudgetRaised (pbuFigures c)).own.budget ≠ .exhausted := fun e => by
    have exhausted : c.own.budget = .exhausted := e
    exact absurd (h.2.1.symm.trans exhausted) (by decide)
  rw [recompute_no_grace h grace, shedOrExhaust_of_bare (c := overBudgetRaised (pbuFigures c)) bare open']
  refine ⟨⟨rfl, rfl, ?_⟩, rfl⟩
  exact (pbuFigures_tells c).silent ⟨by simp [overBudgetRaised, Bus.raise], List.prefix_append _ _⟩

theorem recompute_sheds {v : Slot} (first : IsVictim c.own.slots v) :
    let slots := setAt c.own.slots v { c.own.slots[v] with standing := .unpowered, shedPending := true }
    (recompute c).own.slots = slots ∧
      (recompute c).own.demand = demandOf c.own.policy.wb c.own.policy.port c.own.trays slots ∧
      (recompute c).own.budget = (if 0 ≤ (recompute c).own.headroom then .within else .shedding) ∧
      (recompute c).own.intervalTimer = (if 0 ≤ (recompute c).own.headroom then .stopped else .running 1000) ∧
      (recompute c).bus.pbuSls = c.bus.pbuSls ++ [.shedOrder v] := by
  have supply : (overBudgetRaised (pbuFigures c)).own.SupplyRight := (pbuFigures_figures c).toSupplyRight
  have own := shedOrExhaust_own supply first
  have bus := shedOrExhaust_bus supply first
  have silent : (overBudgetRaised (pbuFigures c)).bus.pbuSls = c.bus.pbuSls := by
    change (pbuFigures c).bus.pbuSls = _
    rw [(pbuFigures_tells c).silent_frame]
  rw [recompute_no_grace h grace]
  have headroom : (shedOrExhaust (overBudgetRaised (pbuFigures c))).own.headroom =
      headroomWithout v (overBudgetRaised (pbuFigures c)).own := by rw [own]; rfl
  rw [headroom]
  refine ⟨by rw [own]; rfl, by rw [own]; rfl, by rw [own], by rw [own], ?_⟩
  rw [bus, ← silent]

end recompute

/-! ### The figures judged -/

/-- R46, step 2: the code names a mode. -/
theorem redundancyModeOf_eq_none : ∀ {n : Nat}, n = 0 ∨ 3 < n → redundancyModeOf n = none
  | 0, _ => rfl
  | 1, h | 2, h | 3, h => by omega
  | _ + 4, _ => rfl

theorem redundancyModeOf_eq_some {n : Nat} (low : 1 ≤ n) (high : n ≤ 3) : redundancyModeOf n =
    some (if n = 1 then .combined else if n = 2 then .nPlus1 else .grid) := by
  interval_cases n <;> rfl

/-- The policy of clamped figures. -/
def ClampedPolicy.policy (p : ClampedPolicy) (mode : RedundancyMode) : PowerPolicy :=
  { mode := mode, wb := p.wb, port := p.port, grace := p.grace, idle := p.idle }

/-- The policy taken, a new idle time sent, and nothing computed again yet. -/
def policyWritten (p : PowerPolicy) (c : At Pbu) : At Pbu :=
  { own := { c.own with policy := p }
    bus := (if p.idle ≠ c.own.policy.idle then c.bus.sendPbuSls (.idleTime p.idle) else c.bus).mark .header }

section judged

variable {raw : RawPolicy} {c : At Pbu}

/-- R46, step 3: the rise of D fits. -/
def policyFits (raw : RawPolicy) (b : Pbu) : Prop :=
  let p := clampPolicy raw
  let d := demandOf p.wb p.port b.trays b.slots
  (d : Int) - b.demand ≤ 0 ∨ (d : Int) - b.demand ≤ b.headroom

theorem takePolicy_of_bad (h : redundancyModeOf raw.mode = none) :
    takePolicy raw c = pbuEnd (.refused .badPolicy) 0 c := by simp only [takePolicy, h]

variable {mode : RedundancyMode} (h : redundancyModeOf raw.mode = some mode)

include h

theorem takePolicy_of_rise (rises : ¬ policyFits raw c.own) :
    takePolicy raw c = pbuEnd (.refused .noPower) (clampPolicy raw).changed c := by
  simp only [policyFits, not_or, not_le] at rises
  simp only [takePolicy, h]
  exact if_pos rises

theorem takePolicy_of_fits (fits : policyFits raw c.own) : takePolicy raw c =
    pbuEnd .normal (clampPolicy raw).changed (recompute (policyWritten ((clampPolicy raw).policy mode) c)) := by
  have not_rises : ¬ (0 < (demandOf (clampPolicy raw).wb (clampPolicy raw).port c.own.trays c.own.slots : Int) -
      c.own.demand ∧ c.own.headroom < (demandOf (clampPolicy raw).wb (clampPolicy raw).port c.own.trays c.own.slots : Int) -
      c.own.demand) := fun ⟨rise, short⟩ => fits.elim (not_le.2 rise) (not_le.2 short)
  simp only [takePolicy, h]
  exact if_neg not_rises

end judged

theorem Bus.Tells.service {x : List PbuToSls} {b b' : Bus} (h : Bus.Tells x b b') (v : Server) :
    b'.service v = b.service v := by
  rw [h.frame]
  rfl

theorem Bus.Tells.outcomes {x : List PbuToSls} {b b' : Bus} (h : Bus.Tells x b b') : b'.outcomes = b.outcomes := by
  rw [h.frame]

theorem policyWritten_tells (p : PowerPolicy) (c : At Pbu) :
    Bus.Tells (if p.idle = c.own.policy.idle then [] else [.idleTime p.idle]) c.bus (policyWritten p c).bus := by
  by_cases same : p.idle = c.own.policy.idle
  · simp only [policyWritten, same, if_true, ne_eq, not_true, if_false]
    exact .mark _ _
  · simp only [policyWritten, same, if_false, ne_eq, not_false_iff, if_true]
    simpa using (Bus.Tells.send c.bus (.idleTime p.idle)).trans (.mark _ _)

/-! ### The commands of POWER POLICY -/

/-- The judgement once all bytes have arrived. -/
theorem exec_powerPolicy_complete {s : State} {sv : Service} (service : s.bus.service .pbu = some sv)
    (all : sv.complete = true) {d : At Pbu}
    (hd : takePolicy (rawPolicyOf sv.input) { own := s.pbu, bus := s.bus } = d) :
    exec .powerPolicy s = .next { s with pbu := d.own, bus := d.bus } := by
  change execPowerPolicy s = _
  simp only [execPowerPolicy, service, all, if_true]
  exact congrArg Host.Outcome.next (onPbu_eq (b := s.bus) hd)

/-- In the start-up hold the word waits (R56). -/
theorem exec_powerPolicy_held {s : State} (free : s.bus.service .pbu = none) (hold : s.pbu.hold = true) :
    exec .powerPolicy s = .next s := by
  change execPowerPolicy s = _
  simp only [execPowerPolicy, free, hold, if_true]

/-- A POWER POLICY word taken outside the hold: its first byte is read, or its first piece fetched. -/
theorem exec_powerPolicy_taken {s : State} {a : Fin 16} {w : TaskWord} {rest : List (Fin 16 × TaskWord)}
    (hq : s.bus.station .pbu = { queue := (a, w) :: rest, service := none }) (hold : s.pbu.hold = false)
    (hn : w.count.toNat ≠ 0) : exec .powerPolicy s = .next { s with
      host := s.host.moving a true w
      bus := { (s.takeWord .pbu).bus with accesses := s.bus.accesses ++ [firstRead a w] } } := by
  have free : s.bus.service .pbu = none := by rw [Bus.service, hq]
  change execPowerPolicy s = _
  simp only [execPowerPolicy, free, hold, Bool.false_eq_true, if_false, takePolicyWord, oldestWord_of_front hq,
    State.onHost, beginInput_taken hq hn]
  rw [takeWord_frame]

section taken

variable {s : State} {sv : Service} (service : s.bus.service .pbu = some sv)
  (all : sv.complete = true) {mode : RedundancyMode} (named : redundancyModeOf (rawPolicyOf sv.input).mode = some mode)
  (fits : policyFits (rawPolicyOf sv.input) s.pbu)

/-- The PBU and the bus with the new policy written. -/
def policyAt (s : State) (sv : Service) (mode : RedundancyMode) : At Pbu :=
  policyWritten ((clampPolicy (rawPolicyOf sv.input)).policy mode) { own := s.pbu, bus := s.bus }

include service all named fits

/-- A policy that fits is taken: what the recomputation makes of it, and the end of the task. -/
theorem exec_powerPolicy_fits :
    let d := recompute (policyAt s sv mode)
    exec .powerPolicy s = .next { s with
      pbu := d.own
      bus := d.bus.endTask .pbu .normal (policyDetails d.own (clampPolicy (rawPolicyOf sv.input)).changed) } :=
  exec_powerPolicy_complete service all (takePolicy_of_fits (c := { own := s.pbu, bus := s.bus }) named fits)

omit all named fits in
/-- The task ends with the figures after it. -/
theorem policyTask_ends (details : Details) :
    let b := (recompute (policyAt s sv mode)).bus
    (b.endTask .pbu .normal details).service .pbu = none ∧ (b.endTask .pbu .normal details).outcomes =
      s.bus.outcomes ++ [{ server := .pbu, anchor := sv.anchor, cls := .normal, details := details }] ∧
      (b.endTask .pbu .normal details).pbuSls = b.pbuSls := by
  obtain ⟨orders, told⟩ := recompute_tells (policyAt s sv mode)
  have written := policyWritten_tells ((clampPolicy (rawPolicyOf sv.input)).policy mode) { own := s.pbu, bus := s.bus }
  have serving : (recompute (policyAt s sv mode)).bus.service .pbu = some sv :=
    ((told.service .pbu).trans (written.service .pbu)).trans service
  refine ⟨endTask_service _ _ _ _, ?_, ?_⟩
  · rw [endTask_outcomes _ _ serving, told.outcomes]
    exact congrArg (· ++ _) written.outcomes
  · rw [endTask_of_service _ _ serving]
    rfl

end taken

/-- Settles O32: the figures are judged in order, and a policy that fits is written and the budget computed again. -/
theorem powerPolicyIsClampedAndJudged : Obligations.PowerPolicyIsClampedAndJudged := by
  unfold Obligations.PowerPolicyIsClampedAndJudged
  refine ⟨fun s a w rest hq => ⟨fun hold => exec_powerPolicy_held (by rw [Bus.service, hq]) hold,
    fun hold _ hn => exec_powerPolicy_taken hq hold hn⟩, fun s sv h service all => ?_⟩
  intro b wb t1 t2 t3 grace idle clamped port d words fits
  refine ⟨fun bad => ?_, fun low high rises => ?_, fun low high holds => ?_⟩
  · exact exec_powerPolicy_complete service all (takePolicy_of_bad (redundancyModeOf_eq_none bad))
  · exact exec_powerPolicy_complete service all (takePolicy_of_rise (redundancyModeOf_eq_some low high) rises)
  let mode : RedundancyMode := if field b 0 1 = 1 then .combined else if field b 0 1 = 2 then .nPlus1 else .grid
  let c := policyAt s sv mode
  have named : redundancyModeOf (rawPolicyOf sv.input).mode = some mode := redundancyModeOf_eq_some low high
  have kept := Pbu.Kept.recompute c
  have usable : (recompute c).own.usable = usableOf (recompute c).own.policy.mode s.pbu.modules := by
    rw [kept.policy]
    exact recompute_usable c
  have written := policyWritten_tells ((clampPolicy (rawPolicyOf sv.input)).policy mode) { own := s.pbu, bus := s.bus }
  obtain ⟨free, outcome, sent⟩ := policyTask_ends (mode := mode) service (policyDetails (recompute c).own clamped)
  refine ⟨_, exec_powerPolicy_fits service all named holds, rfl, kept.policy, usable, kept.modules, kept.trays, ?_⟩
  intro told falls bare
  have before : c.bus.pbuSls = s.bus.pbuSls ++ told := congrArg Bus.pbuSls written.frame
  have falls_iff : Falls c ↔ falls := by
    change _ ↔ ((recompute c).own.usable : Int) - d < 0 ∧ _
    rw [usable, kept.policy]
    exact Iff.rfl
  have unshed (u : Unshed c (recompute c)) : (recompute c).own.slots = s.pbu.slots ∧ (recompute c).own.demand = d ∧
      ((recompute c).bus.endTask .pbu .normal (policyDetails (recompute c).own clamped)).pbuSls =
        s.bus.pbuSls ++ told := by
    refine ⟨u.slots, u.demand, sent.trans ?_⟩
    rw [u.told.frame, List.append_nil, before]
  refine ⟨fun quiet => unshed ?_, fun fall waits => ?_, fun fall noGrace left => ?_, fun fall noGrace v cand first => ?_,
    free, outcome⟩
  · by_cases fall : Falls c
    · by_cases noGrace : grace = 0
      · rcases quiet with no | waits | left
        · exact absurd (falls_iff.1 fall) no
        · exact absurd noGrace waits
        · exact (recompute_exhausts fall noGrace left).1
      · exact (recompute_grace fall noGrace).1
    · exact recompute_unshed (h.machine.of_same rfl rfl rfl rfl) fall
  · exact (recompute_grace (falls_iff.2 fall) waits).2
  · exact (recompute_exhausts (falls_iff.2 fall) noGrace left).2
  · obtain ⟨slots, demand, budget, timer, order⟩ := recompute_sheds (falls_iff.2 fall) noGrace ⟨cand, first⟩
    refine ⟨slots, ?_, budget, timer, sent.trans ?_⟩
    · exact demand.trans (congrArg (demandOf wb port s.pbu.trays) slots.symm)
    · rw [order, before]

end Sys2Proof.Machine

/-! PROOFS. The end of the start-up hold (R56): the held claims are judged as their own commands would judge them. -/

namespace Sys2Proof.Machine

open Sys2Proof

/-! ### What the judgement of a claim does not read -/

/-- The channels of the PTU and the SLS to the PBU, and the intake stations, replaced. -/
def Bus.rewired (p : List PtuToPbu) (l : List SlsToPbu) (st : Vector Station 7) (b : Bus) : Bus :=
  { b with ptuPbu := p, slsPbu := l, stations := st }

def rewired (p : List PtuToPbu) (l : List SlsToPbu) (st : Vector Station 7) (c : At Pbu) : At Pbu :=
  { c with bus := c.bus.rewired p l st }

/-- An operation neither reads those channels and stations nor changes them. -/
def Unread (f : At Pbu → At Pbu) : Prop := ∀ p l st c, f (rewired p l st c) = rewired p l st (f c)

/-- The same for an operation that answers a claim. -/
def ClaimUnread (f : At Pbu → At Pbu × ClaimAnswer) : Prop :=
  ∀ p l st c, f (rewired p l st c) = (rewired p l st (f c).1, (f c).2)

section unread

variable {p : List PtuToPbu} {l : List SlsToPbu} {st : Vector Station 7} {b : Bus} {c : At Pbu}

theorem Bus.markIf_rewired (x : Bool) (r : PageRecord) :
    (b.rewired p l st).markIf x r = (b.markIf x r).rewired p l st := by cases x <;> rfl

theorem Bus.raise_rewired (k : AlarmKind) (o : Nat) : (b.rewired p l st).raise k o = (b.raise k o).rewired p l st := rfl

theorem Bus.clearAlarm_rewired (k : AlarmKind) (o : Nat) :
    (b.rewired p l st).clearAlarm k o = (b.clearAlarm k o).rewired p l st := rfl

theorem rewired_own : (rewired p l st c).own = c.own := rfl

theorem setBudget_unread (x : BudgetState) (g i : Timer) : Unread (setBudget x g i) := fun _ _ _ _ =>
  congrArg (At.mk _) (Bus.markIf_rewired _ _)

theorem backWithin_unread : Unread backWithin := fun p l st c => by
  rw [backWithin, setBudget_unread]
  rfl

theorem pbuFigures_unread : Unread pbuFigures := fun p l st c => by
  simp only [pbuFigures, rewired, Bus.markIf_rewired, Bus.raise_rewired, Bus.clearAlarm_rewired,
    apply_ite (Bus.rewired p l st)]

theorem shedSlot_unread (i : Slot) : Unread (shedSlot i) := fun p l st c => by
  have figures := pbuFigures_unread p l st (orderedOff i c)
  have ordered : orderedOff i (rewired p l st c) = rewired p l st (orderedOff i c) := rfl
  rw [shedSlot_eq, shedSlot_eq, ordered, figures, rewired_own, backWithin_unread, apply_ite (rewired p l st)]

theorem shedOrExhaust_unread : Unread shedOrExhaust := fun p l st c => by
  unfold shedOrExhaust
  rw [rewired_own]
  split
  · rw [setBudget_unread, shedSlot_unread]
  · exact setBudget_unread _ _ _ p l st c

theorem overBudget_unread : Unread overBudget := fun p l st c => by
  rw [overBudget, overBudget, apply_ite (rewired p l st), ← shedOrExhaust_unread, ← setBudget_unread]
  rfl

theorem takeHeadroom_unread : Unread takeHeadroom := fun p l st c => by
  unfold takeHeadroom
  rw [rewired_own]
  split
  · rfl
  · split
    · split
      · exact overBudget_unread p l st c
      · rfl
    · split
      · exact backWithin_unread p l st c
      · rfl

theorem recompute_unread : Unread recompute := fun p l st c => by
  rw [recompute, recompute, pbuFigures_unread, takeHeadroom_unread]

theorem judgeClaim_unread (i : Slot) (n : Int) (e : SlotEntry) (g : Grant) : ClaimUnread (judgeClaim i n e g) :=
  fun p l st c => by
    unfold judgeClaim
    rw [rewired_own]
    split
    · exact congrArg (·, _) (recompute_unread p l st (setSlot i e c))
    · rfl

theorem tierClaim_unread (x : Port) (t : Tier) : ClaimUnread (tierClaim x t) := fun p l st c =>
  judgeClaim_unread _ _ _ _ p l st c

theorem portClaim_unread (x : Port) (t : Tier) : ClaimUnread (portClaim x t) := fun p l st c => by
  unfold portClaim
  dsimp only [rewired_own]
  split
  · exact tierClaim_unread x t p l st c
  · split <;> exact judgeClaim_unread _ _ _ _ p l st c

theorem wakeClaim_unread (i : Slot) : ClaimUnread (wakeClaim i) := fun p l st c => by
  unfold wakeClaim
  dsimp only [rewired_own]
  split <;> exact judgeClaim_unread _ _ _ _ p l st c

theorem slotClaim_unread (i : Slot) (ws wsb : Nat) : ClaimUnread (slotClaim i ws wsb) := fun p l st c => by
  unfold slotClaim
  dsimp only [rewired_own]
  split
  · rfl
  · split <;> exact judgeClaim_unread _ _ _ _ p l st c

theorem answeredPtu_unread {f : At Pbu → At Pbu × ClaimAnswer} (h : ClaimUnread f) :
    Unread (fun c => answeredPtu (f c)) := fun p l st c => congrArg answeredPtu (h p l st c)

theorem answerSls_unread (i : Slot) (ws wsb : Nat) : Unread (answerSls i ws wsb) := fun p l st c => by
  rw [answerSls, slotClaim_unread]
  rfl

/-- A claim is judged by the budget and answered, whatever else waits. -/
theorem pbuClaim_unread (x : HeldClaim) : Unread (pbuClaim x) := fun p l st c => by
  unfold pbuClaim
  rw [rewired_own]
  split
  · rfl
  · cases x with
    | sls i ws wsb => exact answerSls_unread i ws wsb p l st c
    | ptu m =>
      cases m with
      | portClaim x t => exact answeredPtu_unread (portClaim_unread x t) p l st c
      | tierClaim x old t => exact answeredPtu_unread (tierClaim_unread x t) p l st c
      | wakeClaim i => exact answeredPtu_unread (wakeClaim_unread i) p l st c
      | portRelease x => rfl
      | tierReturn x t => rfl

/-- The claims l judged one after another. -/
def judgeAll (l : List HeldClaim) (c : At Pbu) : At Pbu := l.foldl (fun c x => pbuClaim x c) c

theorem judgeAll_cons (x : HeldClaim) (l : List HeldClaim) (c : At Pbu) :
    judgeAll (x :: l) c = judgeAll l (pbuClaim x c) := rfl

theorem judgeAll_unread (held : List HeldClaim) : Unread (judgeAll held) := fun p l st c => by
  induction held generalizing c with
  | nil => rfl
  | cons x held ih => rw [judgeAll_cons, judgeAll_cons, pbuClaim_unread, ih]

end unread

/-! ### The commands of the claims -/

/-- The state with the PBU and the bus of c. -/
def State.withPbu (s : State) (c : At Pbu) : State := { s with pbu := c.own, bus := c.bus }

/-- c with the claims of l waiting in their channels, and the stations st. -/
def waiting (st : Vector Station 7) (l : List HeldClaim) (c : At Pbu) : At Pbu :=
  rewired (ptuClaimsOf l) (slsClaimsOf l) st c

section commands

variable {st : Vector Station 7} {s : State}

/-- A claim's command takes it from the front of its channel and has it judged. -/
theorem exec_command {x : HeldClaim} {k : Instr} (hk : x.command = some k) (l : List HeldClaim) (c : At Pbu) :
    exec k (s.withPbu (waiting st (x :: l) c)) = .next (s.withPbu (pbuClaim x (waiting st l c))) := by
  cases x with
  | sls i ws wsb =>
    cases hk
    rfl
  | ptu m =>
    cases m with
    | portClaim p t | tierClaim p old t | wakeClaim i =>
      cases hk
      rfl
    | portRelease p | tierReturn p t => cases hk

/-- R56: claims judged at once are their commands, one after another. -/
theorem afterAll_commands {held : List HeldClaim} (claims : ∀ x ∈ held, x.command.isSome = true) (c : At Pbu) :
    afterAll (held.filterMap HeldClaim.command) (s.withPbu (waiting st held c)) =
      some (s.withPbu (waiting st [] (judgeAll held c))) := by
  induction held generalizing c with
  | nil => rfl
  | cons x held ih =>
    obtain ⟨k, hk⟩ := Option.isSome_iff_exists.1 (claims x List.mem_cons_self)
    have judged : pbuClaim x (waiting st held c) = waiting st held (pbuClaim x c) := pbuClaim_unread x _ _ _ c
    rw [List.filterMap_cons_some hk, afterAll, exec_command hk, judged]
    exact ih (fun y hy => claims y (List.mem_cons_of_mem _ hy)) _

end commands

/-! ### A claim for an unpowered slot (R54) -/

/-- D moves, and H stays at 0 or above: the figures alone change. -/
theorem recompute_of_enough {c : At Pbu} (supply : c.own.SupplyRight) (hold : c.own.hold = false)
    (within : c.own.budget = .within) (enough : 0 ≤ c.own.demanded.headroom) : recompute c = demandMarked c :=
  (recompute_of_supply supply).trans ((takeHeadroom_of_enough (c := demandMarked c) hold enough).trans (if_pos within))

section unpowered

variable {c : At Pbu} (h : c.own.Sound) (hold : c.own.hold = false) (within : c.own.budget = .within) {i : Slot}
  (unpowered : c.own.slots[i].standing = .unpowered) (unshed : c.own.slots[i].shedPending = false) (ws wsb : Nat)

include unpowered unshed in
theorem slotClaim_of_unpowered : slotClaim i ws wsb c = judgeClaim i ((ws : Int) + listWatts c.own.policy.port
    c.own.slots[i].ports) { c.own.slots[i] with ws := ws, wsb := min wsb ws, standing := .powered } .granted c := by
  simp only [slotClaim, unshed, Bool.false_eq_true, if_false, unpowered]

/-- The PBU with slot i powered, and its claim answered. -/
def slotPowered (i : Slot) (ws wsb : Nat) (c : At Pbu) : At Pbu :=
  let n := ws + listWatts c.own.policy.port c.own.slots[i].ports
  let d := setSlot i { c.own.slots[i] with ws := ws, wsb := min wsb ws, standing := .powered } c
  { own := { d.own with demand := c.own.demand + n }
    bus := (demandMarked d).bus.sendPbuSls (.claimAnswer i true n) }

include h hold within unpowered unshed

theorem pbuClaim_of_unpowered : pbuClaim (.sls i ws wsb) c =
    if ((ws + listWatts c.own.policy.port c.own.slots[i].ports : Nat) : Int) ≤ c.own.headroom ∨
        ws + listWatts c.own.policy.port c.own.slots[i].ports = 0 then slotPowered i ws wsb c
    else { c with bus := c.bus.sendPbuSls (.claimAnswer i false 0) } := by
  rw [pbuClaim_of_sls hold, answerSls, slotClaim_of_unpowered unpowered unshed]
  let e := { c.own.slots[i] with ws := ws, wsb := min wsb ws, standing := Standing.powered }
  let n := ws + listWatts c.own.policy.port c.own.slots[i].ports
  have moved : (setSlot i e c).own.demandNow = c.own.demand + n := by
    have demand : (setSlot i e c).own.demandNow + _ = _ := h.demandNow_withSlot i e
    simpa only [slotWatts, unpowered, Nat.add_zero] using demand
  by_cases granted : (n : Int) ≤ c.own.headroom ∨ n = 0
  · have enough := h.enough_of_within hold within
    have left : 0 ≤ (setSlot i e c).own.demanded.headroom := by
      change (0 : Int) ≤ (c.own.usable : Int) - (setSlot i e c).own.demandNow
      simp only [Pbu.headroom] at enough granted
      omega
    have amount : ((setSlot i e c).own.demandNow : Int) - c.own.demandNow = n := by
      have demand : c.own.demandNow = c.own.demand := h.figures.demand_right.symm
      omega
    have figures : demandMarked (setSlot i e c) = { demandMarked (setSlot i e c) with
        own := { (setSlot i e c).own with demand := c.own.demand + n } } := by
      rw [← moved]
      rfl
    have admitted : (ws : Int) + listWatts c.own.policy.port c.own.slots[i].ports ≤ 0 ∨
        (ws : Int) + listWatts c.own.policy.port c.own.slots[i].ports ≤ c.own.headroom := by omega
    rw [if_pos granted, judgeClaim_granted admitted, recompute_of_enough (c := setSlot i e c)
      ⟨h.usable_right, h.redundancy_right⟩ hold within left, amount, figures]
    rfl
  · rw [if_neg granted, judgeClaim_refused (by omega) (by omega)]
    rfl

end unpowered

/-! ### The end of the hold -/

section release

variable {s : State}

/-- The PBU with the start-up hold over and no claim held. -/
def freed (s : State) : At Pbu := { own := { s.pbu with hold := false, heldClaims := [] }, bus := s.bus }

/-- What the claims judged leave of the channels and the stations is what stood there. -/
theorem judgeAll_freed (l : List HeldClaim) :
    rewired s.bus.ptuPbu s.bus.slsPbu s.bus.stations (judgeAll l (freed s)) = judgeAll l (freed s) :=
  (judgeAll_unread l s.bus.ptuPbu s.bus.slsPbu s.bus.stations (freed s)).symm

variable (h : s.pbu.Sound) (hold : s.pbu.hold = true) (enough : 0 ≤ s.pbu.headroom)

include h hold enough

theorem endHold_of_enough : endHold { own := s.pbu, bus := s.bus } = judgeAll s.pbu.heldClaims (freed s) := by
  have within : (freed s).own.budget = .within := h.within_right.2 (.inl hold)
  have stays : takeHeadroom (freed s) = freed s := (takeHeadroom_of_enough rfl enough).trans (if_pos within)
  exact congrArg (judgeAll s.pbu.heldClaims) stays

/-- R56: with the scan taken and its bays finished, the hold ends and the claims held are judged. -/
theorem exec_startupHoldRelease (told : s.tb.scanTold = true)
    (finished : ∀ b : Fin 4, s.pbu.awaited[b] = true → s.pbu.finished[b] = true) (idle : s.oldestWord .pbu = none) :
    exec .startupHoldRelease s = .next (s.withPbu (judgeAll s.pbu.heldClaims (freed s))) := by
  have bays : baysFinished s.pbu = true := by
    simp only [baysFinished, List.all_eq_true]
    intro b _
    cases awaited : s.pbu.awaited[b] with
    | false => rfl
    | true => simpa using finished b awaited
  have ended : s.onPbu endHold = s.withPbu (judgeAll s.pbu.heldClaims (freed s)) :=
    congrArg s.withPbu (endHold_of_enough h hold enough)
  have free : (s.withPbu (judgeAll s.pbu.heldClaims (freed s))).oldestWord .pbu = none := by
    rw [← judgeAll_freed]
    exact idle
  change execStartupHoldRelease s = _
  rw [execStartupHoldRelease, if_pos ⟨hold, told, bays⟩, ended, takePolicyWord, free]

/-- The end of the hold leaves the budget sound. -/
theorem freed_sound : (freed s).own.Sound :=
  Pbu.sound_iff.2 ⟨h.tables.of_same rfl rfl rfl, ⟨⟨h.usable_right, h.redundancy_right⟩, h.figures.demand_right⟩,
    ⟨fun held => absurd held Bool.false_ne_true, h.grace_timer, h.interval_timer⟩,
    iff_of_true (h.within_right.2 (.inl hold)) (.inr enough)⟩

end release

/-- Settles O33: the claims held are their commands one after another, and one slot claim is judged as R54 says. -/
theorem startUpHoldReleasesHeldClaims : Obligations.StartUpHoldReleasesHeldClaims := by
  unfold Obligations.StartUpHoldReleasesHeldClaims
  constructor
  · intro s i ws wsb h hold told finished enough held unpowered unshed idle e n free
    have run := exec_startupHoldRelease h hold enough told finished idle
    rw [held] at run
    have judged : pbuClaim (.sls i ws wsb) (freed s) = if n ≤ s.pbu.headroom ∨ n = 0 then slotPowered i ws wsb (freed s)
        else { freed s with bus := s.bus.sendPbuSls (.claimAnswer i false 0) } :=
      pbuClaim_of_unpowered (freed_sound h hold enough) rfl (h.within_right.2 (.inl hold)) unpowered unshed ws wsb
    refine ⟨_, run, rfl, ?_, ?_⟩
    · refine (congrArg At.own judged).trans ?_
      rw [apply_ite At.own]
      rfl
    · change (pbuClaim (.sls i ws wsb) (freed s)).bus = { s.bus with
        pbuSls := s.bus.pbuSls ++ [if n ≤ s.pbu.headroom ∨ n = 0 then .claimAnswer i true n else .claimAnswer i false 0]
        toSpw := (pbuClaim (.sls i ws wsb) (freed s)).bus.toSpw }
      rw [judged]
      by_cases granted : n ≤ s.pbu.headroom ∨ n = 0
      · simp only [if_pos granted]
        rfl
      · simp only [if_neg granted]
        rfl
  · intro s h hold told finished enough claims idle released
    refine ⟨_, _, exec_startupHoldRelease h hold enough told finished idle,
      afterAll_commands (st := s.bus.stations) (s := s) claims (freed s), rfl, rfl, ?_⟩
    exact congrArg s.withPbu (judgeAll_freed _).symm

end Sys2Proof.Machine

/-! PROOFS. Slot records (R61, R62, R71): what a sound record holds by its state, and what a transition makes of the record
and sends. -/

namespace Sys2Proof.Machine

open Sys2Proof

theorem onSls_eq {s : State} {b : Bus} {f : At Sls → At Sls} {d : At Sls} (h : f { own := s.sls, bus := b } = d) :
    (s.withBus b).onSls f = { s with sls := d.own, bus := d.bus } := by
  subst h
  rfl

/-! ### What a sound record holds by its state -/

theorem poweredState_iff {st : SlotState} :
    poweredState st = true ↔ st = .powering ∨ st = .online ∨ st = .standby := by
  simp [poweredState, or_assoc]

theorem poweredState_eq_false {st : SlotState} :
    poweredState st = false ↔ ¬ (st = .powering ∨ st = .online ∨ st = .standby) := by
  rw [← poweredState_iff, Bool.not_eq_true]

/-- The states from which a slot claim is made (R66). -/
def Claimable (st : SlotState) : Prop :=
  st = .off ∨ st = .shed ∨ st = .thermalOff ∨ st = .fault ∨ st = .standby

/-- What holds of a sound record whatever its idle timer (R61, R62, R66). -/
structure SlotRec.StateRight (r : SlotRec) : Prop where
  cause_fault : r.cause ≠ .none ↔ r.state = .fault
  ramp_powering : r.ramp.isSome = true ↔ r.state = .powering
  ramp_timer : r.rampTimer ≠ .stopped → r.state = .powering
  ident_identifying : r.ident.isSome = true ↔ r.state = .identifying
  retry_timer : r.retryTimer ≠ .stopped → r.state = .identifying
  rails_right : r.railEn = railsDue r
  claim_from : ∀ k, r.claim = some k → Claimable k.fromState

/-- R71: the conditions of the idle timer, and that it is never found run out. -/
def SlotRec.IdleRight (minutes : Nat) (r : SlotRec) : Prop :=
  (r.idleTimer ≠ .stopped ↔ r.state = .online ∧ r.inUse = false ∧ minutes ≠ 0) ∧ r.idleTimer ≠ .runOut

theorem SlotRec.claim_from_iff {r : SlotRec} :
    r.claim.all (fun k => k.fromState == .off || k.fromState == .shed || k.fromState == .thermalOff
      || k.fromState == .fault || k.fromState == .standby) = true ↔ ∀ k, r.claim = some k → Claimable k.fromState := by
  cases r.claim <;> simp [Claimable, or_assoc]

theorem SlotRec.sound_iff {minutes : Nat} {r : SlotRec} : r.Sound minutes ↔ r.StateRight ∧ r.IdleRight minutes where
  mp h := ⟨⟨h.cause_fault, h.ramp_powering, h.ramp_timer, h.ident_identifying, h.retry_timer, h.rails_right,
    claim_from_iff.1 h.claim_from⟩, h.idle_right, h.idle_not_out⟩
  mpr := fun ⟨h, idle, out⟩ => ⟨h.cause_fault, h.ramp_powering, h.ramp_timer, h.ident_identifying, h.retry_timer,
    h.rails_right, idle, out, claim_from_iff.2 h.claim_from⟩

theorem railsDue_of_unpowered {r : SlotRec} (st : poweredState r.state = false) : railsDue r = railsLow := by
  unfold railsDue railsLow
  split <;> simp_all [poweredState]

namespace SlotRec.StateRight

variable {r : SlotRec} (h : r.StateRight)
include h

theorem cause_none (st : r.state ≠ .fault) : r.cause = .none := by
  by_contra ne
  exact st (h.cause_fault.1 ne)

theorem ramp_none (st : r.state ≠ .powering) : r.ramp = none := by
  rw [← Option.not_isSome_iff_eq_none]
  exact fun some => st (h.ramp_powering.1 some)

theorem rampTimer_stopped (st : r.state ≠ .powering) : r.rampTimer = .stopped := by
  by_contra ne
  exact st (h.ramp_timer ne)

theorem ident_none (st : r.state ≠ .identifying) : r.ident = none := by
  rw [← Option.not_isSome_iff_eq_none]
  exact fun some => st (h.ident_identifying.1 some)

theorem retryTimer_stopped (st : r.state ≠ .identifying) : r.retryTimer = .stopped := by
  by_contra ne
  exact st (h.retry_timer ne)

theorem rails_low (st : poweredState r.state = false) : r.railEn = railsLow :=
  h.rails_right.trans (railsDue_of_unpowered st)

theorem identifying {x : Identification} (ident : r.ident = some x) : r.state = .identifying :=
  h.ident_identifying.1 (by rw [ident, Option.isSome_some])

theorem powering {x : Ramp} (ramp : r.ramp = some x) : r.state = .powering :=
  h.ramp_powering.1 (by rw [ramp, Option.isSome_some])

end SlotRec.StateRight

namespace SlotRec.Sound

variable {minutes : Nat} {r : SlotRec} (h : r.Sound minutes)
include h

theorem stateRight : r.StateRight := (SlotRec.sound_iff.1 h).1

theorem idleTimer_stopped (st : ¬ (r.state = .online ∧ r.inUse = false ∧ minutes ≠ 0)) : r.idleTimer = .stopped := by
  by_contra ne
  exact st (h.idle_right.1 ne)

theorem idleTimer_stopped_of_state (st : r.state ≠ .online) : r.idleTimer = .stopped :=
  h.idleTimer_stopped fun idle => st idle.1

/-- A record with the same values in the fields of the invariant, but for its claim. -/
theorem of_same {r' : SlotRec} (state : r'.state = r.state) (cause : r'.cause = r.cause) (ramp : r'.ramp = r.ramp)
    (rampTimer : r'.rampTimer = r.rampTimer) (ident : r'.ident.isSome = r.ident.isSome)
    (retry : r'.retryTimer ≠ .stopped → r.state = .identifying) (rails : r'.railEn = r.railEn)
    (inUse : r'.inUse = r.inUse) (idle : r'.idleTimer = r.idleTimer)
    (claim : ∀ k, r'.claim = some k → Claimable k.fromState) : r'.Sound minutes where
  cause_fault := by rw [cause, state]; exact h.cause_fault
  ramp_powering := by rw [ramp, state]; exact h.ramp_powering
  ramp_timer := by rw [rampTimer, state]; exact h.ramp_timer
  ident_identifying := by rw [ident, state]; exact h.ident_identifying
  retry_timer := by rw [state]; exact retry
  rails_right := by rw [rails, h.rails_right]; simp only [railsDue, state, ramp]
  idle_right := by rw [idle, state, inUse]; exact h.idle_right
  idle_not_out := by rw [idle]; exact h.idle_not_out
  claim_from := SlotRec.claim_from_iff.2 claim

theorem withClaim {x : Option ClaimInFlight} (claim : ∀ k, x = some k → Claimable k.fromState) (d : Option Origin)
    (o : Bool) : { r with claim := x, deferred := d, orphanTask := o }.Sound minutes :=
  h.of_same rfl rfl rfl rfl rfl h.retry_timer rfl rfl rfl claim

end SlotRec.Sound

/-! ### The idle timer (R71) -/

theorem idleHolds_iff {minutes : Nat} {r : SlotRec} :
    idleHolds minutes r = true ↔ r.state = .online ∧ r.inUse = false ∧ minutes ≠ 0 := by
  simp [idleHolds, and_assoc]

theorem idleLook_of_not {minutes : Nat} {r : SlotRec} (st : ¬ (r.state = .online ∧ r.inUse = false ∧ minutes ≠ 0)) :
    idleLook minutes r = { r with idleTimer := .stopped } := if_neg (mt idleHolds_iff.1 st)

theorem idleLook_of_stopped {minutes : Nat} {r : SlotRec} (stopped : r.idleTimer = .stopped) :
    idleLook minutes r = { r with
      idleTimer := if r.state = .online ∧ r.inUse = false ∧ minutes ≠ 0 then .running (60000 * minutes)
        else .stopped } := by
  simp only [idleLook, stopped, idleHolds_iff]
  split_ifs <;> rfl

theorem idleLook_frame (minutes : Nat) (r : SlotRec) :
    idleLook minutes r = { r with idleTimer := (idleLook minutes r).idleTimer } := by
  unfold idleLook
  split
  · split <;> rfl
  · rfl

theorem idleLook_idleRight (minutes : Nat) (r : SlotRec) : (idleLook minutes r).IdleRight minutes := by
  by_cases holds : r.state = .online ∧ r.inUse = false ∧ minutes ≠ 0
  · unfold idleLook
    rw [if_pos (idleHolds_iff.2 holds)]
    split
    next running => simpa [SlotRec.IdleRight, running] using holds
    next => simpa [SlotRec.IdleRight] using holds
  · rw [idleLook_of_not holds]
    simpa [SlotRec.IdleRight] using holds

theorem idleLook_sound {r : SlotRec} (h : r.StateRight) (minutes : Nat) : (idleLook minutes r).Sound minutes := by
  refine SlotRec.sound_iff.2 ⟨?_, idleLook_idleRight minutes r⟩
  rw [idleLook_frame]
  exact ⟨h.cause_fault, h.ramp_powering, h.ramp_timer, h.ident_identifying, h.retry_timer, h.rails_right, h.claim_from⟩

/-- A timer that is right already is left as it is. -/
theorem idleLook_of_right {minutes : Nat} {r : SlotRec} (h : r.IdleRight minutes) : idleLook minutes r = r := by
  obtain ⟨runs, inTime⟩ := h
  by_cases holds : r.state = .online ∧ r.inUse = false ∧ minutes ≠ 0
  · unfold idleLook
    rw [if_pos (idleHolds_iff.2 holds)]
    have running := runs.2 holds
    split
    · rfl
    next other =>
      cases timer : r.idleTimer with
      | stopped => exact absurd timer running
      | runOut => exact absurd timer inTime
      | running ms => exact absurd timer (other ms)
  · rw [idleLook_of_not holds]
    have stopped : r.idleTimer = .stopped := not_not.1 fun ne => holds (runs.1 ne)
    rw [← stopped]

/-! ### Marks of the page entry (R62) -/

/-- A write of what the page entry does not show marks nothing. -/
theorem writeSlot_unmarked {i : Slot} {r : SlotRec} {c : At Sls} (same : slotBytes r = slotBytes c.own.slots[i]) :
    writeSlot i r c = { c with own := { c.own with slots := setAt c.own.slots i r } } := by
  simp only [writeSlot, same, bne_self_eq_false, markIf_eq, Bool.false_eq_true, if_false, List.append_nil]

theorem slotStateCode_byte_injective {a b : SlotState} (h : byte (slotStateCode a) = byte (slotStateCode b)) : a = b := by
  cases a <;> cases b <;> first | rfl | exact absurd h (by decide)

/-- A change of state changes the entry. -/
theorem writeSlot_marked {i : Slot} {r : SlotRec} {c : At Sls} (moves : c.own.slots[i].state ≠ r.state) :
    writeSlot i r c = { own := { c.own with slots := setAt c.own.slots i r }, bus := c.bus.mark (.slot i) } := by
  have differ : slotBytes r ≠ slotBytes c.own.slots[i] := fun same => by
    simp only [slotBytes, List.cons_append, List.cons.injEq] at same
    exact moves (slotStateCode_byte_injective same.1.symm)
  simp only [writeSlot, bne_iff_ne.2 differ, Bus.markIf, if_true]

/-- A write of a record sends a mark or nothing. -/
theorem writeSlot_bus (i : Slot) (r : SlotRec) (c : At Sls) :
    (writeSlot i r c).bus = { c.bus with toSpw := (writeSlot i r c).bus.toSpw } := by
  simp only [writeSlot, markIf_eq]

/-! ### Transitions (R62) -/

/-- The record as it enters a state, before the rule of that transition adds its own. -/
def SlotRec.entering (r : SlotRec) (new : SlotState) : SlotRec :=
  { r with
    state := new, ramp := none, rampTimer := .stopped, cause := .none
    railEn := if poweredState r.state && !poweredState new then railsLow else r.railEn }

@[simp] theorem goTo_own (i : Slot) (new : SlotState) (why : ReportCause) (f : SlotRec → SlotRec) (c : At Sls) :
    (goTo i new why f c).own = { c.own with
      slots := setAt c.own.slots i (idleLook c.own.idleMinutes (f (c.own.slots[i].entering new))) } := rfl

/-- R62: the alarm of the state left is cleared. -/
def leavingClears (i : Slot) : SlotState → List AlarmRequest
  | .shed => [{ raised := false, kind := .slotShed, object := i.val }]
  | .thermalOff => [{ raised := false, kind := .slotThermalOff, object := i.val }]
  | .fault => [{ raised := false, kind := .slotPowerFault, object := i.val }]
  | _ => []

/-- R62: SLOT_POWER_DENIED is cleared in POWERING and in EMPTY. -/
def enteringClears (i : Slot) (new : SlotState) : List AlarmRequest :=
  if new = .powering ∨ new = .empty then [{ raised := false, kind := .slotPowerDenied, object := i.val }] else []

theorem transitionClears_eq (i : Slot) (old new : SlotState) (b : Bus) : transitionClears i old new b =
    { b with toAtu := b.toAtu ++ leavingClears i old ++ enteringClears i new } := by
  unfold transitionClears enteringClears
  cases old <;> dsimp only [leavingClears, Bus.clearAlarm] <;> split_ifs <;> simp only [List.append_nil]

/-- R62: a powered slot that leaves power gives its watts back. -/
def powerDrops (i : Slot) (old new : SlotState) : List SlsToPbu :=
  if poweredState old && !poweredState new then [.slotRelease i] else []

/-- A transition to another state: the record, and what it sends. -/
theorem goTo_eq {i : Slot} {new : SlotState} {f : SlotRec → SlotRec} {c : At Sls} {r : SlotRec} (why : ReportCause)
    (moves : c.own.slots[i].state ≠ new)
    (enters : idleLook c.own.idleMinutes (f (c.own.slots[i].entering new)) = r) (state : r.state = new) :
    goTo i new why f c = {
      own := { c.own with slots := setAt c.own.slots i r }
      bus := { c.bus with
        slsPtu := c.bus.slsPtu ++ [.report i new why]
        slsPbu := c.bus.slsPbu ++ powerDrops i c.own.slots[i].state new
        toSpw := c.bus.toSpw ++ [.slot i]
        toAtu := c.bus.toAtu ++ leavingClears i c.own.slots[i].state ++ enteringClears i new } } := by
  have written : writeSlot i (idleLook c.own.idleMinutes (f (c.own.slots[i].entering new))) c = _ :=
    writeSlot_marked (by rw [enters, state]; exact moves)
  rw [enters] at written
  refine At.eq_of (congrArg (fun x => { c.own with slots := setAt c.own.slots i x }) enters) ?_
  have sent : (goTo i new why f c).bus = transitionClears i c.own.slots[i].state new
      (if poweredState c.own.slots[i].state && !poweredState new then
        Bus.sendSlsPbu (Bus.sendSlsPtu (writeSlot i r c).bus (.report i new why)) (.slotRelease i)
      else Bus.sendSlsPtu (writeSlot i r c).bus (.report i new why)) := by
    rw [← enters]
    rfl
  rw [sent, transitionClears_eq, written]
  unfold powerDrops
  split_ifs
  · rfl
  · simp only [List.append_nil]
    rfl

end Sys2Proof.Machine

/-! PROOFS. Ramps (R68): the rails enabled one after another bring the ramp to its place. -/

namespace Sys2Proof.Machine

open Sys2Proof

/-- The rails below k are enabled. -/
def railsBelow (k : Nat) : Vector Bool 3 := Vector.ofFn (fun j : Fin 3 => decide (j.val < k))

theorem railsBelow_succ (n : Fin 3) : railsBelow (n.val + 1) = Vector.ofFn (fun j => decide (j ≤ n)) := by
  revert n; decide

theorem railsBelow_three : railsBelow 3 = Vector.replicate 3 true := by decide

theorem railsBelow_zero : railsBelow 0 = railsLow := by decide

theorem railsBelow_one : railsBelow 1 = Vector.ofFn (fun j : Fin 3 => decide (j = 0)) := by decide

theorem setAt_railsBelow (n : Fin 3) : setAt (railsBelow n.val) n true = railsBelow (n.val + 1) := by
  revert n; decide

variable {i : Slot} {good : Vector Bool 3} {waking : Bool} {r : SlotRec}

/-- The ramp's place does not look at the ramp or at the rails that stood before. -/
theorem rampPlace_of_ramp (todo : List (Fin 3)) (ramp : Option Ramp) (timer : Timer) (rails : Vector Bool 3) :
    rampPlace good waking todo { r with ramp := ramp, rampTimer := timer, railEn := rails } =
      rampPlace good waking todo r := by
  unfold rampPlace
  split <;> rfl

/-- One rail enabled: the ramp waits for it, or goes on with the rails that follow. -/
theorem enableRails_cons {n : Fin 3} {rest : List (Fin 3)} (rails : r.railEn = railsBelow n.val)
    (goesOn : ∀ r' : SlotRec, r'.railEn = railsBelow (n.val + 1) →
      enableRails i good waking rest r' = rampPlace good waking rest r') :
    enableRails i good waking (n :: rest) r = rampPlace good waking (n :: rest) r := by
  have enabled : setAt r.railEn n true = railsBelow (n.val + 1) := by rw [rails, setAt_railsBelow]
  unfold enableRails
  dsimp only
  split_ifs with high
  · rw [goesOn _ enabled, rampPlace_of_ramp]
    simp only [rampPlace, List.find?_cons, high, Bool.not_true]
  · have low : good[n] = false := Bool.eq_false_of_not_eq_true high
    simp only [rampPlace, List.find?_cons, low, Bool.not_false, enabled, railsBelow_succ]

/-- The rails of a ramp from rail k on. -/
def railsFrom : Nat → List (Fin 3)
  | 0 => [0, 1, 2]
  | 1 => [1, 2]
  | 2 => [2]
  | _ => []

/-- R68: with the rails below k enabled, those from k on bring the ramp to its place. -/
theorem enableRails_eq {k : Nat} (hk : k ≤ 3) (rails : r.railEn = railsBelow k) :
    enableRails i good waking (railsFrom k) r = rampPlace good waking (railsFrom k) r := by
  have last (r : SlotRec) (rails : r.railEn = railsBelow 3) :
      enableRails i good waking [] r = rampPlace good waking [] r := by
    simp only [enableRails, rampPlace, List.find?_nil, ← railsBelow_three, ← rails]
  have third (r : SlotRec) (rails : r.railEn = railsBelow 2) :
      enableRails i good waking [2] r = rampPlace good waking [2] r := enableRails_cons (n := 2) rails last
  have second (r : SlotRec) (rails : r.railEn = railsBelow 1) :
      enableRails i good waking [1, 2] r = rampPlace good waking [1, 2] r := enableRails_cons (n := 1) rails third
  match k, hk with
  | 0, _ => exact enableRails_cons (n := 0) rails second
  | 1, _ => exact second r rails
  | 2, _ => exact third r rails
  | 3, _ => exact last r rails

theorem railsAfter_eq (n : Fin 3) : railsAfter n = railsFrom (n.val + 1) := by
  revert n; decide

@[simp] theorem rampPlace_state (todo : List (Fin 3)) : (rampPlace good waking todo r).state = r.state := by
  unfold rampPlace
  split <;> rfl

/-- The place of a ramp is right in a record of POWERING that is right but for its ramp and its rails. -/
theorem rampPlace_stateRight (todo : List (Fin 3)) (powering : r.state = .powering) (cause : r.cause = .none)
    (ident : r.ident = none) (retry : r.retryTimer = .stopped)
    (claim : ∀ k, r.claim = some k → Claimable k.fromState) : (rampPlace good waking todo r).StateRight := by
  unfold rampPlace
  split
  all_goals exact {
    cause_fault := by simp [cause, powering]
    ramp_powering := by simp [powering]
    ramp_timer := fun _ => powering
    ident_identifying := by simp [ident, powering]
    retry_timer := fun run => absurd retry run
    rails_right := by simp [railsDue, powering]
    claim_from := claim }

/-- A ramp runs no idle timer. -/
theorem rampPlace_idleRight (minutes : Nat) (todo : List (Fin 3)) (st : r.state ≠ .online)
    (stopped : r.idleTimer = .stopped) : (rampPlace good waking todo r).IdleRight minutes := by
  have frame : (rampPlace good waking todo r).idleTimer = .stopped := by
    rw [← stopped]
    unfold rampPlace
    split <;> rfl
  refine ⟨?_, by rw [frame]; exact Timer.noConfusion⟩
  rw [frame, rampPlace_state]
  exact iff_of_false (not_not.2 rfl) fun online => st online.1

end Sys2Proof.Machine

/-! PROOFS. Each operation of the SLS leaves sound slots sound (R61 to R80). -/

namespace Sys2Proof.Machine

open Sys2Proof

/-! ### One record written -/

theorem Sls.Sound.withSlot {u : Sls} (h : u.Sound) (i : Slot) {r : SlotRec} (hr : r.Sound u.idleMinutes) :
    { u with slots := setAt u.slots i r }.Sound := fun j => by
  change (setAt u.slots i r)[j].Sound u.idleMinutes
  rw [setAt_get]
  split_ifs
  · exact hr
  · exact h j

/-- Which slot the task in service waits on is no part of a record. -/
theorem Sls.Sound.withTask {u : Sls} (h : u.Sound) (x : Option Slot) : { u with taskSlot := x }.Sound := h

/-- An unpowered record is right with every rail low and no ramp. -/
theorem SlotRec.StateRight.of_unpowered {r : SlotRec} (st : poweredState r.state = false)
    (cause : r.cause ≠ .none ↔ r.state = .fault) (ramp : r.ramp = none) (timer : r.rampTimer = .stopped)
    (ident : r.ident.isSome = true ↔ r.state = .identifying) (retry : r.retryTimer = .stopped)
    (rails : r.railEn = railsLow) (claim : ∀ k, r.claim = some k → Claimable k.fromState) : r.StateRight where
  cause_fault := cause
  ramp_powering := by
    refine iff_of_false (by simp [ramp]) fun powering => poweredState_eq_false.1 st (.inl powering)
  ramp_timer := fun run => absurd timer run
  ident_identifying := ident
  retry_timer := fun run => absurd retry run
  rails_right := rails.trans (railsDue_of_unpowered st).symm
  claim_from := claim

/-- R62: a slot that enters an unpowered state drives no rail. -/
theorem SlotRec.StateRight.entering_rails {r : SlotRec} (h : r.StateRight) {new : SlotState}
    (st : poweredState new = false) : (r.entering new).railEn = railsLow := by
  unfold SlotRec.entering
  cases was : poweredState r.state with
  | true => simp [st]
  | false => simpa using h.rails_low was

/-- The states in which a slot rests: without power, without a fault and identified. -/
def restingState (st : SlotState) : Prop := st = .off ∨ st = .shed ∨ st = .thermalOff ∨ st = .empty

/-- R62: a transition to a resting state, with the identification over. -/
theorem SlotRec.StateRight.entering_resting {r : SlotRec} (h : r.StateRight) {new : SlotState} (rests : restingState new)
    (ident : r.ident = none) (retry : r.retryTimer = .stopped) : (r.entering new).StateRight := by
  have st : poweredState new = false := by rcases rests with rfl | rfl | rfl | rfl <;> rfl
  refine .of_unpowered st (iff_of_false (not_not.2 rfl) ?_) rfl rfl (iff_of_false ?_ ?_) retry (h.entering_rails st)
    h.claim_from
  · rcases rests with e | e | e | e <;> simp [SlotRec.entering, e]
  · change ¬ r.ident.isSome = true
    simp [ident]
  · rcases rests with e | e | e | e <;> simp [SlotRec.entering, e]

/-- R69, R70: a transition of an identified slot to FAULT. -/
theorem SlotRec.StateRight.entering_fault {r : SlotRec} (h : r.StateRight) {cause : FaultCause} (broken : cause ≠ .none)
    (ident : r.ident = none) (retry : r.retryTimer = .stopped) :
    { r.entering .fault with cause := cause }.StateRight :=
  .of_unpowered rfl (iff_of_true broken rfl) rfl rfl
    (iff_of_false (by change ¬ r.ident.isSome = true; simp [ident]) SlotState.noConfusion) retry
    (h.entering_rails rfl) h.claim_from

/-- R68: a ramp that has settled has every rail enabled. -/
theorem SlotRec.StateRight.entering_online {r : SlotRec} (h : r.StateRight) (st : r.state = .powering) {w : Bool}
    (ramp : r.ramp = some { phase := .settle, waking := w }) : (r.entering .online).StateRight where
  cause_fault := iff_of_false (not_not.2 rfl) SlotState.noConfusion
  ramp_powering := iff_of_false Bool.false_ne_true SlotState.noConfusion
  ramp_timer := fun run => absurd rfl run
  ident_identifying :=
    iff_of_false (by simp [SlotRec.entering, h.ident_none (st.trans_ne (by decide))]) SlotState.noConfusion
  retry_timer := fun run => absurd (h.retryTimer_stopped (st.trans_ne (by decide))) run
  rails_right := by
    have rails : r.railEn = Vector.replicate 3 true := by
      rw [h.rails_right]
      simp only [railsDue, st, ramp]
    simp [SlotRec.entering, railsDue, rails, poweredState]
  claim_from := h.claim_from

/-- R72: of an ONLINE slot's rails the standby rail alone stays. -/
def standbyRails (r : SlotRec) : SlotRec := { r with railEn := setAt (setAt r.railEn 2 false) 1 false }

theorem SlotRec.StateRight.online_rails {r : SlotRec} (h : r.StateRight) (st : r.state = .online) :
    r.railEn = Vector.replicate 3 true := by
  rw [h.rails_right]
  simp only [railsDue, st]

theorem SlotRec.StateRight.standby_railEn {r : SlotRec} (h : r.StateRight) (st : r.state = .online) :
    (standbyRails (r.entering .standby)).railEn = #v[true, false, false] := by
  have rails : (r.entering .standby).railEn = Vector.replicate 3 true := by
    simp [SlotRec.entering, poweredState, h.online_rails st]
  change setAt (setAt (r.entering .standby).railEn 2 false) 1 false = _
  rw [rails]
  decide

theorem SlotRec.StateRight.entering_standby {r : SlotRec} (h : r.StateRight) (st : r.state = .online) :
    (standbyRails (r.entering .standby)).StateRight where
  cause_fault := iff_of_false (not_not.2 rfl) SlotState.noConfusion
  ramp_powering := iff_of_false Bool.false_ne_true SlotState.noConfusion
  ramp_timer := fun run => absurd rfl run
  ident_identifying := iff_of_false (by simp [standbyRails, SlotRec.entering, h.ident_none (st.trans_ne (by decide))])
    SlotState.noConfusion
  retry_timer := fun run => absurd (h.retryTimer_stopped (st.trans_ne (by decide))) run
  rails_right := (h.standby_railEn st).trans
    (by decide : #v[true, false, false] = Vector.ofFn (fun j : Fin 3 => decide (j = 0)))
  claim_from := h.claim_from

theorem identified_of_railConfirmed {r : SlotRec} {n : Fin 3} (h : railConfirmed r n = true) :
    r.state ≠ .identifying := fun st => by
  simp [railConfirmed, st] at h

theorem SlotRec.StateRight.withUse {r : SlotRec} (h : r.StateRight) (used : Bool) (timer : Timer) :
    { r with inUse := used, idleTimer := timer }.StateRight :=
  ⟨h.cause_fault, h.ramp_powering, h.ramp_timer, h.ident_identifying, h.retry_timer, h.rails_right, h.claim_from⟩

/-- R63: the record of a first try. -/
def beginIdentification (byTask : Bool) (r : SlotRec) : SlotRec :=
  { r with ident := some { tryNo := 1, sweepPending := false, byTask := byTask }, retryTimer := .stopped }

/-- R64: the record of a blade that no try could read. -/
def failIdentification (r : SlotRec) : SlotRec := endIdentification { r with cause := .inventory, inventory := none }

/-- R80: what a removal adds to the transition of r to EMPTY. -/
def SlotRec.emptying (r x : SlotRec) : SlotRec :=
  endIdentification { x with
    railEn := railsLow, inventory := none
    claim := r.claim.map (fun k => { k with withdrawn := true })
    deferred := none, orphanTask := r.orphanTask || r.deferred == some .task }

/-- R80: the task that a removal has left behind the claim closes. -/
def closeOrphan (i : Slot) (c : At Sls) : At Sls :=
  if c.own.slots[i].orphanTask then
    refusePower i .slotChanged 0 (writeSlot i { c.own.slots[i] with orphanTask := false } c)
  else c

/-- R66: the admission that waits behind the claim is made, if the slot can be admitted. -/
def sendDeferred (i : Slot) (c : At Sls) : At Sls :=
  match c.own.slots[i].deferred with
  | none => c
  | some o =>
    let d := writeSlot i { c.own.slots[i] with deferred := none } c
    if admissible c.own.slots[i] then admission i o d
    else if o = .task then refusePower i .slotChanged 0 d
    else d

theorem afterAnswer_eq (i : Slot) (c : At Sls) : afterAnswer i c = sendDeferred i (closeOrphan i c) := rfl

theorem Claimable.ne {st : SlotState} (h : Claimable st) :
    st ≠ .identifying ∧ st ≠ .powering ∧ st ≠ .online := by
  rcases h with rfl | rfl | rfl | rfl | rfl <;> decide

/-- The rails of a slot that a ramp finds, and where the ramp starts: with the standby rail alone in STANDBY, and with none
in the other states from which it is admitted. -/
theorem rampStart_rails {r : SlotRec} (right : r.StateRight) (st : Claimable r.state) {waking : Bool}
    (standby : waking = true ↔ r.state = .standby) :
    (r.entering .powering).railEn = railsBelow (if waking then 1 else 0) := by
  have kept : (r.entering .powering).railEn = railsDue r := by
    rw [← right.rails_right]
    simp [SlotRec.entering, poweredState]
  rw [kept]
  cases waking with
  | true => simp [railsDue, standby.1 rfl, railsBelow_one]
  | false =>
    have unpowered : poweredState r.state = false := by
      rcases st with e | e | e | e | e
      case inr.inr.inr.inr => exact absurd (standby.2 e) Bool.false_ne_true
      all_goals rw [e]; rfl
    exact (railsDue_of_unpowered unpowered).trans railsBelow_zero.symm

theorem claimable_of_admissible {r : SlotRec} (h : admissible r = true) : Claimable r.state := by
  unfold admissible at h
  split at h <;> simp_all [Claimable]

theorem SlotRec.claim_withdrawn {r : SlotRec} (h : ∀ k, r.claim = some k → Claimable k.fromState) (k : ClaimInFlight)
    (claim : r.claim.map (fun k => { k with withdrawn := true }) = some k) : Claimable k.fromState := by
  obtain ⟨k', was, rfl⟩ := Option.map_eq_some_iff.1 claim
  exact h k' was

theorem powered_identified {st : SlotState} (h : poweredState st = true) : st ≠ .identifying := by
  rintro rfl
  cases h

section operations

variable {c : At Sls} (h : c.own.Sound) (i : Slot)
include h

/-! ### Transitions -/

theorem goTo_sound {new : SlotState} {f : SlotRec → SlotRec} (right : (f (c.own.slots[i].entering new)).StateRight)
    (why : ReportCause) : (goTo i new why f c).own.Sound := h.withSlot i (idleLook_sound right _)

theorem goTo_resting_sound {new : SlotState} (rests : restingState new) (st : c.own.slots[i].state ≠ .identifying)
    (why : ReportCause) : (goTo i new why id c).own.Sound :=
  have right := (h i).stateRight
  goTo_sound h i (right.entering_resting rests (right.ident_none st) (right.retryTimer_stopped st)) why

/-- R69, R70: a rail fault of a slot that ramps or is powered. -/
theorem goFault_rail_sound (n : Fin 3) (st : c.own.slots[i].state ≠ .identifying) :
    (goFault i .railFault (.rail n) id c).own.Sound :=
  have right := (h i).stateRight
  goTo_sound (f := fun r => { r with cause := .rail n }) h i
    (right.entering_fault FaultCause.noConfusion (right.ident_none st) (right.retryTimer_stopped st)) .railFault

theorem slsEnd_sound (cls : OutcomeClass) (d : Details) : (slsEnd cls d c).own.Sound := h.withTask none

/-! ### Identification (R63, R64) -/

theorem identify_sound (byTask : Bool) : (identify i byTask c).own.Sound := by
  have right := (h i).stateRight
  refine goTo_sound (f := beginIdentification byTask) h i ?_ .inserted
  exact .of_unpowered rfl (iff_of_false (not_not.2 rfl) SlotState.noConfusion) rfl rfl (iff_of_true rfl rfl) rfl
    (right.entering_rails rfl) right.claim_from

theorem slotTry_sound (tag : Nat) (o : LineOutcome) : (slotTry i tag o c).own.Sound := by
  have sound := h i
  have right := sound.stateRight
  unfold slotTry
  dsimp only
  split
  · exact h
  next x ident =>
    have same (y : Identification) : (some y).isSome = c.own.slots[i].ident.isSome := by rw [ident]; rfl
    split
    · exact h
    · split
      · exact h.withSlot i (sound.of_same rfl rfl rfl rfl (same _) sound.retry_timer rfl rfl rfl right.claim_from)
      · split
        · exact h.withSlot i (sound.of_same rfl rfl rfl rfl (same _) (fun _ => right.identifying ident) rfl rfl rfl
            right.claim_from)
        · have failed := goTo_sound (f := failIdentification) h i
            (.of_unpowered rfl (iff_of_true FaultCause.noConfusion rfl) rfl rfl
              (iff_of_false Bool.false_ne_true SlotState.noConfusion) rfl (right.entering_rails rfl) right.claim_from)
            .identifyFailed
          split
          · exact failed.withTask none
          · exact failed

theorem slotRetry_sound : (slotRetry i c).own.Sound := by
  unfold slotRetry
  dsimp only
  split
  · exact h.withSlot i ((h i).of_same rfl rfl rfl rfl rfl (fun run => absurd rfl run) rfl rfl rfl
      (h i).stateRight.claim_from)
  · exact h

/-! ### Admission (R65, R66) -/

theorem admission_sound (o : Origin) (st : Claimable c.own.slots[i].state) : (admission i o c).own.Sound := by
  have claims := (h i).stateRight.claim_from
  unfold admission
  dsimp only
  split
  · refine h.withSlot i ((h i).withClaim ?_ _ _)
    rintro k ⟨⟩
    exact st
  next k claim =>
    split_ifs
    · exact h.withSlot i ((h i).withClaim claims _ _)
    · refine h.withSlot i ((h i).withClaim ?_ _ _)
      rintro k' ⟨⟩
      exact claims k claim
    · exact h

theorem sweepAnswered_sound (tag : Nat) : (sweepAnswered i tag c).own.Sound := by
  have right := (h i).stateRight
  have swept : (goTo i .off .identified endIdentification c).own.Sound :=
    goTo_sound (f := endIdentification) h i (.of_unpowered rfl (iff_of_false (not_not.2 rfl) SlotState.noConfusion) rfl rfl
      (iff_of_false Bool.false_ne_true SlotState.noConfusion) rfl (right.entering_rails rfl) right.claim_from) _
  have off : (goTo i .off .identified endIdentification c).own.slots[i].state = .off := by
    rw [goTo_own, setAt_get_self, idleLook_frame]
    rfl
  unfold sweepAnswered
  dsimp only
  split
  · exact h
  · split_ifs
    · exact admission_sound swept i .task (.inl off)
    · exact admission_sound swept i .autoOn (.inl off)
    · exact swept
    · exact h

/-! ### Ramps (R67 to R70, R73) -/

/-- R68: the ramp that begins goes to its place. -/
theorem beginRamp_rec (st : Claimable c.own.slots[i].state) {waking : Bool}
    (standby : waking = true ↔ c.own.slots[i].state = .standby) (good : Vector Bool 3) :
    enableRails i good waking (if waking then [1, 2] else [0, 1, 2]) (c.own.slots[i].entering .powering) =
      rampPlace good waking (if waking then [1, 2] else [0, 1, 2]) (c.own.slots[i].entering .powering) := by
  have rails := rampStart_rails (h i).stateRight st standby
  cases waking with
  | true => exact enableRails_eq (k := 1) (by decide) rails
  | false => exact enableRails_eq (k := 0) (by decide) rails

theorem beginRamp_sound (st : Claimable c.own.slots[i].state) {waking : Bool}
    (standby : waking = true ↔ c.own.slots[i].state = .standby) (good : Vector Bool 3) :
    (beginRamp i waking good c).own.Sound := by
  have right := (h i).stateRight
  have identified := st.ne.1
  refine goTo_sound h i ?_ _
  rw [beginRamp_rec h i st standby]
  exact rampPlace_stateRight _ rfl rfl (right.ident_none identified) (right.retryTimer_stopped identified)
    right.claim_from

/-- R68: the rise of the rail waited for takes the ramp to its next place. -/
theorem railRose_eq {n : Fin 3} {w : Bool} (ramp : c.own.slots[i].ramp = some { phase := .railWait n, waking := w })
    (good : Vector Bool 3) :
    railRose i n good c = writeSlot i (rampPlace good w (railsAfter n) c.own.slots[i]) c := by
  have right := (h i).stateRight
  have st := right.powering ramp
  have rails : c.own.slots[i].railEn = railsBelow (n.val + 1) := by
    rw [right.rails_right, railsBelow_succ]
    simp only [railsDue, st, ramp]
  simp only [railRose, st, ramp, if_true]
  rw [railsAfter_eq, enableRails_eq n.isLt rails]

theorem railRose_sound (n : Fin 3) (good : Vector Bool 3) : (railRose i n good c).own.Sound := by
  have right := (h i).stateRight
  by_cases waits : ∃ w, c.own.slots[i].ramp = some { phase := .railWait n, waking := w }
  · obtain ⟨w, ramp⟩ := waits
    have st := right.powering ramp
    have place : (rampPlace good w (railsAfter n) c.own.slots[i]).StateRight :=
      rampPlace_stateRight _ st (right.cause_none (st.trans_ne (by decide)))
        (right.ident_none (st.trans_ne (by decide))) (right.retryTimer_stopped (st.trans_ne (by decide)))
        right.claim_from
    have notOnline := st.trans_ne (by decide : SlotState.powering ≠ .online)
    rw [railRose_eq h i ramp]
    exact h.withSlot i (SlotRec.sound_iff.2
      ⟨place, rampPlace_idleRight _ _ notOnline ((h i).idleTimer_stopped_of_state notOnline)⟩)
  · unfold railRose
    dsimp only
    split
    next k w _ ramp =>
      have other : k ≠ n := fun same => waits ⟨w, same ▸ ramp⟩
      rwa [if_neg other]
    · exact h

theorem railFell_sound (n : Fin 3) : (railFell i n c).own.Sound := by
  unfold railFell
  split_ifs with confirmed
  · exact goFault_rail_sound h i n (identified_of_railConfirmed confirmed)
  · exact h

theorem railExpired_sound : (railExpired i c).own.Sound := by
  unfold railExpired
  dsimp only
  split
  next st _ _ => exact goFault_rail_sound h i _ (st.trans_ne (by decide))
  · exact h

/-- R68: a ramp that has settled has every rail enabled. -/
theorem settleExpired_sound : (settleExpired i c).own.Sound := by
  have right := (h i).stateRight
  unfold settleExpired
  dsimp only
  split
  next w st ramp _ =>
    exact goTo_sound (f := id) h i (right.entering_online st ramp) .rampDone
  · exact h

/-! ### The answer to a slot claim (R67) -/

theorem answerInState_sound {k : ClaimInFlight} (st : Claimable k.fromState)
    (same : c.own.slots[i].state = k.fromState) (granted : Bool) (amount : Int) (good : Vector Bool 3) :
    (answerInState i k granted amount good c).own.Sound := by
  have ramps : (beginRamp i (k.fromState == .standby) good c).own.Sound :=
    beginRamp_sound h i (same ▸ st) (by rw [beq_iff_eq, same]) good
  unfold answerInState
  dsimp only
  split_ifs
  · exact ramps.withTask none
  · exact ramps
  · exact h.withTask none
  · exact h

theorem answerChanged_sound (k : ClaimInFlight) (granted : Bool) (amount : Int) :
    (answerChanged i k granted amount c).own.Sound := by
  unfold answerChanged
  dsimp only
  split_ifs <;> exact h

theorem closeOrphan_sound : (closeOrphan i c).own.Sound := by
  unfold closeOrphan
  split_ifs
  · exact (h.withSlot i ((h i).withClaim (h i).stateRight.claim_from _ _)).withTask none
  · exact h

theorem sendDeferred_sound : (sendDeferred i c).own.Sound := by
  have quiet : (writeSlot i { c.own.slots[i] with deferred := none } c).own.Sound :=
    h.withSlot i ((h i).withClaim (h i).stateRight.claim_from _ _)
  unfold sendDeferred
  dsimp only
  split
  · exact h
  next o _ =>
    split_ifs with admits
    · refine admission_sound quiet i o ?_
      rw [writeSlot_own, setAt_get_self]
      exact claimable_of_admissible admits
    · exact quiet.withTask none
    · exact quiet

theorem afterAnswer_sound : (afterAnswer i c).own.Sound := by
  rw [afterAnswer_eq]
  exact sendDeferred_sound (closeOrphan_sound h i) i

theorem claimAnswered_sound (granted : Bool) (amount : Int) (good : Vector Bool 3) :
    (claimAnswered i granted amount good c).own.Sound := by
  have claims := (h i).stateRight.claim_from
  unfold claimAnswered
  dsimp only
  split
  · exact h
  next k claim =>
    have taken : (writeSlot i { c.own.slots[i] with claim := none } c).own.Sound :=
      h.withSlot i ((h i).withClaim (x := none) (fun _ e => nomatch e) _ _)
    have state : (writeSlot i { c.own.slots[i] with claim := none } c).own.slots[i].state = c.own.slots[i].state := by
      rw [writeSlot_own, setAt_get_self]
    refine afterAnswer_sound ?_ i
    split_ifs with inState
    · exact answerInState_sound taken i (claims k claim) (state.trans inState.2) granted amount good
    · exact taken.withTask none
    · exact taken
    · exact answerChanged_sound taken i k granted amount

/-! ### Presence (R63, R80) -/

theorem slotGained_sound : (slotGained i c).own.Sound := by
  unfold slotGained
  split_ifs
  · exact identify_sound h i false
  · exact h

theorem slotLost_sound : (slotLost i c).own.Sound := by
  have claims := (h i).stateRight.claim_from
  unfold slotLost
  dsimp only
  split_ifs
  · exact h
  · have lost := goTo_sound (new := .empty) (f := c.own.slots[i].emptying) h i
      (.of_unpowered rfl (iff_of_false (not_not.2 rfl) SlotState.noConfusion) rfl rfl
        (iff_of_false Bool.false_ne_true SlotState.noConfusion) rfl rfl (SlotRec.claim_withdrawn claims)) .removed
    split
    · exact lost.withTask none
    · exact lost

/-! ### Idle slots and wake (R71 to R73) -/

theorem useNotice_sound (inUse : Bool) : (useNotice i inUse c).own.Sound :=
  h.withSlot i (idleLook_sound ((h i).stateRight.withUse inUse _) _)

theorem newIdleTime_sound (minutes : Nat) : (newIdleTime minutes c).own.Sound := fun j => by
  have entry : (newIdleTime minutes c).own.slots[j] = idleLook minutes { c.own.slots[j] with idleTimer := .stopped } :=
    Vector.getElem_map _ j.isLt
  rw [entry]
  exact idleLook_sound ((h j).stateRight.withUse _ .stopped) minutes

theorem idleExpired_sound : (idleExpired i c).own.Sound := by
  unfold idleExpired
  split
  next run =>
    have online := ((h i).idle_right.1 (by rw [run]; exact Timer.noConfusion)).1
    exact goTo_sound (f := standbyRails) h i ((h i).stateRight.entering_standby online) .idle
  · exact h

theorem wakeAsked_sound (good : Vector Bool 3) : (wakeAsked i good c).own.Sound := by
  unfold wakeAsked
  split_ifs with standby
  · exact beginRamp_sound h i (.inr (.inr (.inr (.inr standby)))) (iff_of_true rfl standby) good
  · exact h

/-! ### The tasks (R74 to R77) -/

theorem powerBadParameter_sound (w : TaskWord) : (powerBadParameter w c).own.Sound := by
  unfold powerBadParameter
  split <;> exact h.withTask none

theorem slotOn_sound : (slotOn i c).own.Sound := by
  have waits : (waitOn i c).own.Sound := h.withTask (some i)
  have admits (st : Claimable c.own.slots[i].state) : (admission i .task (waitOn i c)).own.Sound :=
    admission_sound waits i .task st
  have ends : (slsEnd (.refused .noSlot) Details.zero c).own.Sound := slsEnd_sound h _ _
  unfold slotOn
  dsimp only
  split
  next => exact ends
  next => exact ends
  next => exact ends
  next => exact ends
  next off => exact admits (.inl off)
  next shed => exact admits (.inr (.inl shed))
  next standby => exact admits (.inr (.inr (.inr (.inr standby))))
  next thermal =>
    split_ifs
    · exact ends
    · exact admits (.inr (.inr (.inl thermal)))
  next fault =>
    split
    · exact identify_sound waits i true
    · exact identify_sound waits i true
    · exact admits (.inr (.inr (.inr (.inl fault))))

theorem slotPowerOn_sound (w : TaskWord) : (slotPowerOn w c).own.Sound := by
  unfold slotPowerOn
  split
  · split_ifs
    · exact slotOn_sound h _
    · exact powerBadParameter_sound h w
  · exact powerBadParameter_sound h w

theorem slotOff_sound : (slotOff i c).own.Sound := by
  have claims := (h i).stateRight.claim_from
  have leaves (st : c.own.slots[i].state ≠ .identifying) :
      (closePower i .switchedOff 0 (goTo i .off .hostOff id c)).own.Sound :=
    (goTo_resting_sound h i (.inl rfl) st .hostOff).withTask none
  unfold slotOff
  dsimp only
  split
  next => exact h.withTask none
  next => exact h.withTask none
  next =>
    split
    next k claim =>
      split
      · refine (h.withSlot i ((h i).withClaim ?_ _ _)).withTask none
        rintro _ ⟨⟩
        exact claims k claim
      · exact (h.withSlot i ((h i).withClaim claims _ _)).withTask none
    next => exact h.withTask none
  all_goals
    next st => exact leaves (st.trans_ne (by decide))

theorem slotPowerOff_sound (w : TaskWord) : (slotPowerOff w c).own.Sound := by
  unfold slotPowerOff
  split
  · exact slotOff_sound h _
  · exact powerBadParameter_sound h w

theorem slotConfig_sound (w : TaskWord) : (slotConfig w c).own.Sound := by
  have set (i : Slot) (p : Nat) (auto : Bool) :
      { c.own.slots[i] with priority := p, autoOn := auto }.Sound c.own.idleMinutes :=
    (h i).of_same rfl rfl rfl rfl rfl (h i).retry_timer rfl rfl rfl (h i).stateRight.claim_from
  unfold slotConfig
  split
  · exact h.withTask none
  next i _ => exact (h.withSlot i (set i _ _)).withTask none

/-! ### Orders (R78, R79) -/

theorem shedOrdered_sound : (shedOrdered i c).own.Sound := by
  unfold shedOrdered
  split_ifs with powered
  · exact goTo_resting_sound h i (.inr (.inl rfl)) (powered_identified powered) .shed
  · exact h

theorem thermalOrdered_sound : (thermalOrdered i c).own.Sound := by
  unfold thermalOrdered
  split_ifs with powered
  · exact goTo_resting_sound h i (.inr (.inr (.inl rfl))) (powered_identified powered) .thermal
  · exact h

theorem hotReported_sound (z : Fin 2) (hot : Bool) : (hotReported z hot c).own.Sound := h

end operations

end Sys2Proof.Machine

/-! PROOFS. Every step keeps the slots sound (R61, R62, R66, R68, R71). -/

namespace Sys2Proof.Machine

open Sys2Proof

/-! ### What tasks, data and resets leave as it is -/

/-- From s to t the PBU, the SLS, the CLC, the ATU, the MLC, the Time Base and the lines stand. -/
def PlantStands (s t : State) : Prop :=
  t = { s with host := t.host, ptu := t.ptu, lcu := t.lcu, znu := t.znu, mxw := t.mxw, spw := t.spw, bus := t.bus }

namespace PlantStands

variable {s t u : State}

theorem trans (h : PlantStands s t) (h' : PlantStands t u) : PlantStands s u :=
  Eq.trans h' (congrArg (fun x : State =>
    { x with host := u.host, ptu := u.ptu, lcu := u.lcu, znu := u.znu, mxw := u.mxw, spw := u.spw, bus := u.bus }) h)

theorem sls (h : PlantStands s t) : t.sls = s.sls := by rw [h]

theorem takeWord (s : State) (v : Server) : PlantStands s (s.takeWord v) := by
  unfold State.takeWord
  split <;> rfl

theorem pageWriteFault (s : State) : PlantStands s (pageWriteFault s) := by
  unfold Machine.pageWriteFault
  split <;> rfl

theorem pageWritten (s : State) : PlantStands s (pageWritten s) := by
  unfold Machine.pageWritten nextPageWrite
  repeat' split
  all_goals rfl

theorem abandonApply (s : State) : PlantStands s (abandonApply s) := by
  unfold Machine.abandonApply
  split <;> rfl

theorem settle (v : Server) (s : State) : PlantStands s (settle v s) := by cases v <;> rfl

theorem blockStopped (v : Server) (n : Nat) (s : State) : PlantStands s (blockStopped v n s) := by cases v <;> rfl

theorem outputDone (v : Server) (n : Nat) (s : State) : PlantStands s (outputDone v n s) := by cases v <;> rfl

theorem stopDelivery (a : Fin 16) (v : Server) (f : MoveFailure) (s : State) :
    PlantStands s (stopDelivery a v f s) := by
  unfold Machine.stopDelivery
  dsimp only
  split_ifs
  · refine (settle v s).trans (trans ?_ (blockStopped v _ _))
    rfl
  · exact settle v s

theorem finishMove (a : Fin 16) (v : Server) (input : Bool) (r : MoveResult) (s : State) :
    PlantStands s (finishMove a v input r s) := by
  cases r with
  | going => rfl
  | done =>
    unfold Machine.finishMove
    dsimp only
    split_ifs
    · rfl
    · exact outputDone v _ s
  | failed f => exact stopDelivery a v f s

theorem withMove (a : Fin 16) (s : State)
    (f : Server → Service → Movement → At HostSide → At HostSide × MoveResult) : PlantStands s (withMove a s f) := by
  unfold Machine.withMove
  split
  · split
    · refine trans ?_ (finishMove a _ _ _ _)
      rfl
    · rfl
  · rfl

theorem accessFailed (a : Fin 16) (x : Access) (s : State) : PlantStands s (accessFailed a x s) := by
  have stopped : PlantStands s (match s.bus.servingOf a with
      | some v => Machine.stopDelivery a v { reason := none, address := x.addr } s
      | none => s) := by
    split
    · exact stopDelivery a _ _ s
    · rfl
  unfold Machine.accessFailed
  dsimp only
  split
  · rfl
  · rfl
  · exact stopped
  · exact stopped
  · exact stopped
  · rfl
  · rfl

theorem hostAccessFault (r : Requester) (s : State) : PlantStands s (hostAccessFault r s) := by
  cases r with
  | spw => exact pageWriteFault s
  | anchor a =>
    unfold Machine.hostAccessFault
    dsimp only
    split
    · rfl
    · refine trans ?_ (accessFailed a _ _)
      rfl

theorem haltBlock (a : Fin 16) (s : State) : PlantStands s (haltBlock a s) := by
  unfold Machine.haltBlock
  split_ifs
  · exact abandonApply s
  · rfl

theorem ptuUnqueued (before after : State) : PlantStands after (ptuUnqueued before after) := by
  unfold Machine.ptuUnqueued
  split_ifs <;> rfl

theorem stopMoving (v : Server) (s : State) : PlantStands s (stopMoving v s) := by
  have settled := settle v s
  unfold Machine.stopMoving
  dsimp only
  split
  · exact settled
  · split
    · exact settled
    · split_ifs
      · exact settled
      · exact settled.trans (blockStopped v 0 _)

theorem resetHostSide (s : State) : PlantStands s (resetHostSide s) := by
  have detached : PlantStands s (tasksDetached (Machine.abandonApply s)) := (abandonApply s).trans rfl
  have stopped := (stopMoving .lcu (tasksDetached (Machine.abandonApply s))).trans ((stopMoving .pbu _).trans
    ((stopMoving .clc _).trans (stopMoving .znu _)))
  exact (detached.trans stopped).trans rfl

theorem znuManagementReset (s : State) : PlantStands s (znuManagementReset s) := by
  unfold Machine.znuManagementReset
  dsimp only
  split_ifs <;> rfl

theorem ptuRunTask (s : State) : PlantStands s (ptuRunTask s) := by
  unfold Machine.ptuRunTask
  split
  · rfl
  · split_ifs <;> exact (takeWord s .ptu).trans rfl

theorem ptuTask (k : TaskKind) (s : State) : PlantStands s (ptuTask k s) := by
  unfold Machine.ptuTask
  split
  · rfl
  · split_ifs
    · rfl
    · rfl
    · exact ptuRunTask s
    · rfl

theorem ptuTakeHeld (x : PtuHeld) (s : State) : PlantStands s (ptuTakeHeld x s) := by
  cases x with
  | task => exact ptuRunTask s
  | sls m => rfl
  | lcu m => rfl

theorem ptuDrain (l : List PtuHeld) (s : State) : PlantStands s (ptuDrain l s) := by
  induction l generalizing s with
  | nil => rfl
  | cons x l ih =>
    unfold Machine.ptuDrain
    split_ifs
    · rfl
    · exact (ptuTakeHeld x s).trans (ih _)

end PlantStands

/-! ### From one state to the next -/

/-- A command that answers a next state keeps the slots sound. -/
def OutcomeKeepsSlots (s : State) (o : Host.Outcome State Fault Refusal) : Prop :=
  ∀ t, o = .next t → s.sls.Sound → t.sls.Sound

namespace OutcomeKeepsSlots

variable {s t : State}

theorem next (h : s.sls.Sound → t.sls.Sound) : OutcomeKeepsSlots s (.next t) := by rintro u ⟨⟩; exact h

/-- Where the SLS is not at work its slots stand. -/
theorem kept (h : t.sls = s.sls) : OutcomeKeepsSlots s (.next t) := next fun sound => h ▸ sound

/-- The SLS alone takes a message. -/
theorem onSls {f : At Sls → At Sls} (hf : ∀ c : At Sls, c.own.Sound → (f c).own.Sound) (s : State) (b : Bus) :
    OutcomeKeepsSlots s (.next ((s.withBus b).onSls f)) := next (hf { own := s.sls, bus := b })

/-- The SLS takes a task word. -/
theorem onSlsTaken {f : At Sls → At Sls} (hf : ∀ c : At Sls, c.own.Sound → (f c).own.Sound) (s : State) :
    OutcomeKeepsSlots s (.next ((s.takeWord .sls).onSls f)) :=
  next fun h => hf { own := (s.takeWord .sls).sls, bus := (s.takeWord .sls).bus } (takeWord_sls s .sls ▸ h)

end OutcomeKeepsSlots

/-- The commands by which the SLS does something. -/
def isOfSlots : Instr → Bool
  | .slotPresenceGained | .slotPresenceLost | .slotInventoryAnswer | .slotRetryTimer _ | .sweepDone | .slotClaimAnswer
  | .railGoodRise _ _ | .railTimerExpiry _ | .settleTimerExpiry _ | .railGoodFall _ _ | .useNoticeTaken
  | .idleTimeUpdate | .idleTimerExpiry _ | .wakeRequest | .slotPowerOn | .slotPowerOff | .slotConfig | .shedOrder
  | .thermalOffOrder | .hotFlagReport | .powerOnReset => true
  | _ => false

/-- By every other command the slots stand. -/
theorem exec_sls_elsewhere {c : Instr} (hc : isOfSlots c = false) (s : State) : OutcomeKeepsSlots s (exec c s) := by
  cases c with
  -- one block at work, always
  | areaBaseLowWrite _ | interruptMaskWrite _ | readOnlyRegisterWrite _ _ | start _ | resume _ | accept _ | pageSeen _
  | moduleRetryTimer _ | moduleLineChange _ _ _ | tachEdge _ | stallTimerExpiry _ | spinupTimerExpiry _
  | holdTimerExpiry _ | trayRetryTimer _ | zoneStageRecord | acknowledgement _ | ackTimerExpiry | probeTimerExpiry
  | batchTimerExpiry | transactionBegin | requestSent | answerFrame _ | answerTimerExpiry | lineActivity
  | recoveryIdle _ | storeWriteDone _ | powerLoss => exact .kept rfl
  | cycleTick =>
    exact .kept (t := ((s.onTb tbTick).onClc controlCycle).onPbu pollModules) (by rw [onPbu_sls, onClc_sls, onTb_sls])
  -- one block at work when its message, access, condition or timer is there
  | anchorReadDone _ _ | wordFetchDone _ _ | taskOutcome _ | recordWriteDone _ | bayPresenceGained | bayPresenceLost
  | moduleInventoryAnswer | telemetryAnswer | portClaim | tierClaim | wakeClaimJudged | slotClaim | portRelease
  | tierReturn | standbyStepDown | slotRelease | dutyReport | priorityUpdate | graceTimerExpiry | intervalTimerExpiry
  | shedAnswer | sensorAnswer | trayPresenceLost | trayPresenceGained | trayInventoryAnswer | switchSent | committed
  | failed | abandoned | stagedCopy | recomputeAddition | buildRequest | activeSetReplaced | raise _ _ | clear _ _
  | dirtyMark _ | batchBegin | mlcRequest _ | presenceLineChange _ _ | pendingTimerExpiry _ | startUpReport _
  | areaBaseHighWrite _ | slotOnlineReport | identificationSweep | grantReport | withdrawal | zoneCount =>
    simp only [exec, execAnchorReadDone, execWordFetchDone, execTaskOutcome, execRecordWriteDone,
      execBayPresenceGained, execBayPresenceLost, execModuleInventoryAnswer, execTelemetryAnswer, execPortClaim,
      execTierClaim, execWakeClaimJudged, execSlotClaim, execPortRelease, execTierReturn, execStandbyStepDown,
      execSlotRelease, execDutyReport, execPriorityUpdate, execGraceTimerExpiry, execIntervalTimerExpiry,
      execShedAnswer, execSensorAnswer, execTrayPresenceLost, execTrayPresenceGained, execTrayInventoryAnswer,
      execSwitchSent, execCommitted, execFailed, execAbandoned, execStagedCopy, execRecomputeAddition,
      execBuildRequest, execActiveSetReplaced, execRaise, execClear, execDirtyMark, execBatchBegin, execMlcRequest,
      execPresenceLineChange, execPendingTimerExpiry, execStartUpReport, execAreaBaseHighWrite, execSlotOnlineReport,
      execIdentificationSweep, execGrantReport, execWithdrawal, execZoneCount]
    split <;> exact .kept rfl
  | licenceCellReadDone | hourTick | withdrawalAnswer | slotLeftOnlineReport =>
    simp only [exec, execLicenceCellReadDone, execHourTick, execWithdrawalAnswer, execSlotLeftOnlineReport]
    repeat' split
    all_goals exact .kept (by simp)
  -- a task word taken
  | alarmAcknowledge | zoneDrop | zoneCommitVerify | zoneCommitApply | thermalProfile | zoneStage | zoneFindLoad
  | zoneRead | zoneFind | licenceInstall | licenceRemove | licenceFreeze | licenceReport =>
    simp only [exec, execAlarmAcknowledge, execZoneDrop, execZoneCommitVerify, execZoneCommitApply, execThermalProfile,
      execZoneStage, execZoneFindLoad, execZoneRead, execZoneFind, execLicenceInstall, execLicenceRemove,
      execLicenceFreeze, execLicenceReport]
    repeat' split
    all_goals exact .kept (by simp)
  | powerPolicy | startupHoldRelease =>
    have taken (t : State) : (takePolicyWord t).sls = t.sls := by
      unfold takePolicyWord
      split <;> simp
    simp only [exec, execPowerPolicy, execStartupHoldRelease]
    repeat' split
    all_goals exact .kept (by simp [taken])
  | portEnable => exact .kept (PlantStands.ptuTask _ s).sls
  | portDisable => exact .kept (PlantStands.ptuTask _ s).sls
  | claimAnswer =>
    simp only [exec, execClaimAnswer]
    split
    · exact .kept rfl
    · exact .kept (PlantStands.ptuDrain _ _).sls
  -- data that moves, and the pages
  | pieceFetchDone a _ | dataWriteDone a =>
    simp only [exec, execPieceFetchDone, execDataWriteDone]
    split
    · exact .kept rfl
    · exact .kept (PlantStands.withMove a _ _).sls
  | dataReadDone a _ =>
    simp only [exec, execDataReadDone]
    split
    · exact .kept rfl
    · split
      · exact .kept (PlantStands.withMove a _ _).sls
      · exact .kept rfl
  | hostAccessFailed r => exact .kept (PlantStands.hostAccessFault r s).sls
  | hostAccessTimeout r => exact .kept (PlantStands.hostAccessFault r s).sls
  | pageWriteDone | pageWriteFailed =>
    simp only [exec, execPageWriteDone, execPageWriteFailed]
    repeat' split
    all_goals exact .kept (by simp [(PlantStands.pageWritten _).sls, (PlantStands.pageWriteFault _).sls])
  -- HALT and the resets of the host side
  | halt w =>
    simp only [exec, execHalt]
    have halted := PlantStands.ptuUnqueued s (s.onHost (runAction .halt w (aeHalt s.tb.seconds)))
    split
    · split_ifs
      · exact .kept (halted.trans (.haltBlock _ _)).sls
      · exact .kept halted.sls
    · exact .kept halted.sls
  | managementReset =>
    have cleared : PlantStands s { resetHostSide s with lcu := lcuManagementReset (resetHostSide s).lcu } :=
      (PlantStands.resetHostSide s).trans rfl
    exact .kept (cleared.trans (.znuManagementReset _)).sls
  | linkReset => exact .kept (PlantStands.resetHostSide s).sls
  | _ => cases hc

/-! ### The commands of the SLS -/

/-- Every command keeps the slots sound. -/
theorem exec_keepsSlots (c : Instr) (s : State) : OutcomeKeepsSlots s (exec c s) := by
  by_cases hc : isOfSlots c = false
  · exact exec_sls_elsewhere hc s
  cases c with
  -- presence and identification
  | slotPresenceGained =>
    simp only [exec, execSlotPresenceGained]
    split
    · exact .onSls (fun _ h => slotGained_sound h _) s _
    · exact .kept rfl
  | slotPresenceLost =>
    simp only [exec, execSlotPresenceLost]
    split
    · exact .onSls (fun _ h => slotLost_sound h _) s _
    · exact .kept rfl
  | slotInventoryAnswer =>
    simp only [exec, execSlotInventoryAnswer]
    split
    · exact .onSls (fun _ h => slotTry_sound h _ _ _) s _
    · exact .kept rfl
  | slotRetryTimer i => exact .next fun h => slotRetry_sound (c := { own := s.sls, bus := s.bus }) h i
  | sweepDone =>
    simp only [exec, execSweepDone]
    split
    · exact .onSls (fun _ h => sweepAnswered_sound h _ _) s _
    · exact .kept rfl
  -- admission and ramps
  | slotClaimAnswer =>
    simp only [exec, execSlotClaimAnswer]
    split
    · exact .onSls (fun _ h => claimAnswered_sound h _ _ _ _) s _
    · exact .kept rfl
  | railGoodRise i n => exact .next fun h => railRose_sound (c := { own := s.sls, bus := s.bus }) h i n _
  | railTimerExpiry i => exact .next fun h => railExpired_sound (c := { own := s.sls, bus := s.bus }) h i
  | settleTimerExpiry i => exact .next fun h => settleExpired_sound (c := { own := s.sls, bus := s.bus }) h i
  | railGoodFall i n => exact .next fun h => railFell_sound (c := { own := s.sls, bus := s.bus }) h i n
  -- idle slots and wake
  | useNoticeTaken =>
    simp only [exec, execUseNoticeTaken]
    split
    · exact .onSls (fun _ h => useNotice_sound h _ _) s _
    · exact .kept rfl
  | idleTimeUpdate =>
    simp only [exec, execIdleTimeUpdate]
    split
    · exact .onSls (fun _ h => newIdleTime_sound h _) s _
    · exact .kept rfl
  | idleTimerExpiry i => exact .next fun h => idleExpired_sound (c := { own := s.sls, bus := s.bus }) h i
  | wakeRequest =>
    simp only [exec, execWakeRequest]
    split
    · exact .onSls (fun _ h => wakeAsked_sound h _ _) s _
    · exact .kept rfl
  -- the tasks
  | slotPowerOn =>
    simp only [exec, execSlotPowerOn]
    split
    · exact .kept rfl
    · split
      · exact .onSlsTaken (fun _ h => slotPowerOn_sound h _) s
      · exact .kept rfl
  | slotPowerOff =>
    simp only [exec, execSlotPowerOff]
    split
    · exact .kept rfl
    · split
      · exact .onSlsTaken (fun _ h => slotPowerOff_sound h _) s
      · exact .kept rfl
  | slotConfig =>
    simp only [exec, execSlotConfig]
    split
    · exact .kept rfl
    · split
      · exact .onSlsTaken (fun _ h => slotConfig_sound h _) s
      · exact .kept rfl
  -- orders
  | shedOrder =>
    simp only [exec, execShedOrder]
    split
    · exact .onSls (fun _ h => shedOrdered_sound h _) s _
    · exact .kept rfl
  | thermalOffOrder =>
    simp only [exec, execThermalOffOrder]
    split
    · exact .onSls (fun _ h => thermalOrdered_sound h _) s _
    · exact .kept rfl
  | hotFlagReport =>
    simp only [exec, execHotFlagReport]
    split
    · exact .onSls (fun _ h => hotReported_sound h _ _) s _
    · exact .kept rfl
  | powerOnReset => exact .next fun _ => slsPowerOn_sound
  | _ => exact absurd rfl hc

/-- Settles O6: each operation of the SLS keeps its slots sound, and every other command leaves the SLS as it is. -/
theorem everyStepKeepsTheSlotsSound : Obligations.EveryStepKeepsTheSlotsSound := by
  unfold Obligations.EveryStepKeepsTheSlotsSound
  intro s t sound run
  unfold step at run
  split at run
  · cases run; exact sound
  next c rest _ => exact exec_keepsSlots c { s with pending := rest } t run sound

end Sys2Proof.Machine

/-! PROOFS. Identification (R63, R64): its start, its tries, and what each outcome of a try leaves. -/

namespace Sys2Proof.Machine

open Sys2Proof

/-! ### The record after a transition -/

section entering

variable {r : SlotRec} {minutes : Nat} (h : r.Sound minutes) {new : SlotState}
include h

/-- A slot without power goes to another state with its rails, timers and ramp as they stand. -/
theorem SlotRec.Sound.entering_unpowered (st : poweredState r.state = false) :
    { r.entering new with idleTimer := .stopped } = { r with state := new, cause := .none } := by
  obtain ⟨notRamping, notOnline, _⟩ : r.state ≠ .powering ∧ r.state ≠ .online ∧ r.state ≠ .standby := by
    simpa only [not_or] using poweredState_eq_false.1 st
  simp only [SlotRec.entering, st, Bool.false_and, Bool.false_eq_true, if_false, h.stateRight.ramp_none notRamping,
    h.stateRight.rampTimer_stopped notRamping, h.idleTimer_stopped_of_state notOnline]

/-- R62: a slot that goes to a state without power has every rail low. -/
theorem SlotRec.Sound.entering_dropped (st : poweredState new = false) :
    { r.entering new with idleTimer := .stopped } = { r with
      state := new, cause := .none, ramp := none, rampTimer := .stopped, idleTimer := .stopped
      railEn := Vector.replicate 3 false } :=
  congrArg (fun x => { r with
    state := new, cause := .none, ramp := none, rampTimer := .stopped, idleTimer := .stopped, railEn := x })
    (h.stateRight.entering_rails st)

end entering

theorem powerDrops_unpowered (i : Slot) {old : SlotState} (new : SlotState) (st : poweredState old = false) :
    powerDrops i old new = [] := by
  rw [powerDrops, st, Bool.false_and, if_neg Bool.false_ne_true]

/-! ### Its start (R63, R74) -/

theorem requestSlotInventory_eq (i : Slot) (c : At Sls) : requestSlotInventory i c = { c with
    bus := { c.bus with toMlc := c.bus.toMlc ++
      [{ who := .sls, dev := .slotMemory i, cmd := .inventory, tag := c.own.slots[i].epoch }] } } := rfl

/-- R63, R74: identification starts from a state without power. -/
theorem identify_eq {c : At Sls} (h : c.own.Sound) {i : Slot} (st : poweredState c.own.slots[i].state = false)
    (other : c.own.slots[i].state ≠ .identifying) (byTask : Bool) :
    identify i byTask c = {
      own := { c.own with slots := setAt c.own.slots i { c.own.slots[i] with
        state := .identifying, cause := .none
        ident := some { tryNo := 1, sweepPending := false, byTask := byTask } } }
      bus := { c.bus with
        slsPtu := c.bus.slsPtu ++ [.report i .identifying .inserted]
        toSpw := c.bus.toSpw ++ [.slot i]
        toAtu := c.bus.toAtu ++ leavingClears i c.own.slots[i].state
        toMlc := c.bus.toMlc ++
          [{ who := .sls, dev := .slotMemory i, cmd := .inventory, tag := c.own.slots[i].epoch }] } } := by
  have record : idleLook c.own.idleMinutes (beginIdentification byTask (c.own.slots[i].entering .identifying)) = {
      c.own.slots[i] with
      state := .identifying, cause := .none
      ident := some { tryNo := 1, sweepPending := false, byTask := byTask } } := by
    rw [idleLook_of_not fun idle => SlotState.noConfusion idle.1]
    refine (congrArg (beginIdentification byTask) ((h i).entering_unpowered st)).trans ?_
    simp only [beginIdentification, (h i).stateRight.retryTimer_stopped other]
  have started := goTo_eq (f := beginIdentification byTask) (why := .inserted) other record rfl
  refine (congrArg (requestSlotInventory i) started).trans ?_
  rw [requestSlotInventory_eq]
  dsimp only
  rw [setAt_get_self, powerDrops_unpowered i _ st]
  simp only [enteringClears, reduceCtorEq, or_self, if_false, List.append_nil]

theorem exec_presenceGained {s : State} {i : Slot} {rest : List (Slot × Bool)} (hq : s.bus.tbSls = (i, true) :: rest)
    {d : At Sls} (gained : slotGained i { own := s.sls, bus := { s.bus with tbSls := rest } } = d) :
    exec .slotPresenceGained s = .next { s with sls := d.own, bus := d.bus } := by
  simp only [exec, execSlotPresenceGained, hq]
  exact congrArg Host.Outcome.next (onSls_eq gained)

/-! ### Its tries (R63, R64) -/

theorem slotRetry_eq {c : At Sls} {i : Slot} {ms : Nat} (running : c.own.slots[i].retryTimer = .running ms) :
    slotRetry i c = {
      own := { c.own with slots := setAt c.own.slots i { c.own.slots[i] with retryTimer := .stopped } }
      bus := { c.bus with toMlc := c.bus.toMlc ++
        [{ who := .sls, dev := .slotMemory i, cmd := .inventory, tag := c.own.slots[i].epoch }] } } := by
  have quiet : writeSlot i { c.own.slots[i] with retryTimer := .stopped } c = _ := writeSlot_unmarked rfl
  simp only [slotRetry, running]
  rw [quiet, requestSlotInventory_eq]
  dsimp only
  rw [setAt_get_self]

theorem tierOfNat_eq_some {n : Nat} {t : Tier} : tierOfNat n = some t ↔ tierNum t = n := by
  unfold tierOfNat
  split
  case h_4 none1 none2 none3 =>
    refine iff_of_false (fun e => nomatch e) fun e => ?_
    cases t
    · exact none1 e.symm
    · exact none2 e.symm
    · exact none3 e.symm
  all_goals cases t <;> simp [tierNum]

/-- R63: what a good inventory answer holds. -/
theorem goodInventory_eq_some {o : LineOutcome} {v : Inventory} : goodInventory o = some v ↔ ∃ data, o = .ok data ∧
    v.ws = field data 0 2 ∧ v.wsb = field data 2 1 ∧ tierNum v.maxTier = field data 3 1 ∧
    v.blade = BitVec.ofNat 8 (field data 4 1) ∧ 50 ≤ v.ws ∧ v.ws ≤ 800 ∧ v.wsb ≤ 100 := by
  obtain ⟨ws, wsb, tier, blade⟩ := v
  cases o with
  | ok data =>
    simp only [LineOutcome.ok.injEq, exists_eq_left', ← tierOfNat_eq_some, goodInventory]
    cases tierOfNat (field data 3 1) with
    | none => simp
    | some t =>
      by_cases range : 50 ≤ field data 0 2 ∧ field data 0 2 ≤ 800 ∧ field data 2 1 ≤ 100
      · simp only [if_pos range, Option.some.injEq, Inventory.mk.injEq]
        constructor
        · rintro ⟨rfl, rfl, rfl, rfl⟩
          exact ⟨rfl, rfl, rfl, rfl, range⟩
        · rintro ⟨rfl, rfl, rfl, rfl, -⟩
          exact ⟨rfl, rfl, rfl, rfl⟩
      · simp only [if_neg range]
        refine iff_of_false (fun e => nomatch e) ?_
        rintro ⟨rfl, rfl, -, -, within⟩
        exact range within
  | _ => simp [goodInventory]

theorem powerDetails_zero (outcome : Nat) (r : SlotRec) :
    powerDetails outcome 0 r = details outcome (slotStateCode r.state) 0 (faultCauseCode r.cause) := rfl

section tries

variable {c : At Sls} {i : Slot} {o : LineOutcome} {x : Identification} (ident : c.own.slots[i].ident = some x)
  (swept : x.sweepPending = false) (waiting : c.own.slots[i].retryTimer = .stopped)
include ident swept waiting

omit ident in
/-- An answer to the request of the try in hand is not late. -/
theorem try_inHand : ¬ (c.own.slots[i].epoch ≠ c.own.slots[i].epoch ∨ x.sweepPending = true ∨
    c.own.slots[i].retryTimer ≠ .stopped) := by
  rw [swept, waiting]
  simp

theorem slotTry_good {v : Inventory} (good : goodInventory o = some v) :
    let d := writeSlot i { c.own.slots[i] with
      inventory := some v, ident := some { x with sweepPending := true } } c
    slotTry i c.own.slots[i].epoch o c =
      { d with bus := d.bus.sendSlsPtu (.sweep i v.maxTier c.own.slots[i].epoch) } := by
  simp only [slotTry, ident, if_neg (try_inHand swept waiting), good]

theorem slotTry_again (bad : goodInventory o = none) (early : x.tryNo < 3) : slotTry i c.own.slots[i].epoch o c =
    writeSlot i { c.own.slots[i] with
      ident := some { x with tryNo := x.tryNo + 1 }, retryTimer := .running 100 } c := by
  simp only [slotTry, ident, if_neg (try_inHand swept waiting), bad, early, if_true]

/-- R64: the third failure. -/
theorem slotTry_failed (h : c.own.Sound) (bad : goodInventory o = none) (last : 3 ≤ x.tryNo) :
    let own := { c.own with slots := setAt c.own.slots i { c.own.slots[i] with
      state := .fault, cause := .inventory, inventory := none, ident := none, epoch := c.own.slots[i].epoch + 1 } }
    let bus := { c.bus with
      slsPtu := c.bus.slsPtu ++ [.report i .fault .identifyFailed]
      toSpw := c.bus.toSpw ++ [.slot i]
      toAtu := c.bus.toAtu ++ [{ raised := true, kind := .slotPowerFault, object := i.val }] }
    slotTry i c.own.slots[i].epoch o c = if x.byTask = true then {
        own := { own with taskSlot := none }
        bus := bus.refuse .sls .identifyFailed (details 0 (slotStateCode .fault) 0 (faultCauseCode .inventory)) }
      else { own := own, bus := bus } := by
  intro own bus
  have st := (h i).stateRight.identifying ident
  have unpowered : poweredState c.own.slots[i].state = false := by rw [st]; rfl
  have record : idleLook c.own.idleMinutes (failIdentification (c.own.slots[i].entering .fault)) = { c.own.slots[i] with
      state := .fault, cause := .inventory, inventory := none, ident := none
      epoch := c.own.slots[i].epoch + 1 } := by
    rw [idleLook_of_not fun idle => SlotState.noConfusion idle.1]
    refine (congrArg failIdentification ((h i).entering_unpowered unpowered)).trans ?_
    simp only [failIdentification, endIdentification, waiting]
  have faulted : goFault i .identifyFailed .inventory (fun r => endIdentification { r with inventory := none }) c =
      { own := own, bus := bus } := by
    have gone := goTo_eq (f := failIdentification) (why := .identifyFailed) (st.trans_ne (by decide)) record rfl
    refine (congrArg (fun d : At Sls => { d with bus := d.bus.raise .slotPowerFault i.val }) gone).trans ?_
    rw [st]
    have kept := powerDrops_unpowered i .fault (rfl : poweredState .identifying = false)
    simp only [own, bus, Bus.raise, leavingClears, enteringClears, kept, reduceCtorEq, or_self, if_false,
      List.append_nil]
  simp only [slotTry, ident, if_neg (try_inHand swept waiting), bad]
  rw [if_neg (Nat.not_lt.2 last), faulted]
  refine if_congr Iff.rfl ?_ rfl
  rw [refusePower, powerDetails_zero]
  dsimp only [own]
  rw [setAt_get_self]
  rfl

end tries

theorem exec_inventoryTry {s : State} {i : Slot} {t : Nat} {o : LineOutcome} {rest : List MlcAnswer}
    (hq : s.bus.mlcSls = { req := { who := .sls, dev := .slotMemory i, cmd := .inventory, tag := t }, outcome := o } :: rest)
    {d : At Sls} (tried : slotTry i t o { own := s.sls, bus := { s.bus with mlcSls := rest } } = d) :
    exec .slotInventoryAnswer s = .next { s with sls := d.own, bus := d.bus } := by
  simp only [exec, execSlotInventoryAnswer, hq]
  exact congrArg Host.Outcome.next (onSls_eq tried)

/-- Settles O34: presence and the retry timer ask for the inventory, and each outcome of a try is taken as R63 and R64 say. -/
theorem slotIdentificationMakesThreeTries : Obligations.SlotIdentificationMakesThreeTries := by
  unfold Obligations.SlotIdentificationMakesThreeTries
  refine ⟨fun s i rest h hq empty => ?_, fun s i ms running => ?_, fun s i o x rest h => ?_⟩
  · have unpowered : poweredState s.sls.slots[i].state = false := by rw [empty]; rfl
    have started := identify_eq (c := { own := s.sls, bus := { s.bus with tbSls := rest } }) h unpowered
      (empty.trans_ne (by decide)) false
    intro r
    have gained : slotGained i { own := s.sls, bus := { s.bus with tbSls := rest } } = _ := (if_pos empty).trans started
    rw [exec_presenceGained hq gained, empty]
    have cause := (h i).stateRight.cause_none (empty.trans_ne (by decide))
    simp only [leavingClears, List.append_nil, r, cause]
  · have again := slotRetry_eq (c := { own := s.sls, bus := s.bus }) running
    exact ⟨_, congrArg Host.Outcome.next (onSls_eq (b := s.bus) again), rfl⟩
  · intro r hq ident swept waiting good
    let c : At Sls := { own := s.sls, bus := { s.bus with mlcSls := rest } }
    have bad (notGood : ∀ v, ¬ good v) : goodInventory o = none := by
      cases found : goodInventory o with
      | none => rfl
      | some v => exact absurd (goodInventory_eq_some.1 found) (notGood v)
    refine ⟨fun v hv => ?_, fun notGood early => ?_, fun notGood last => ?_⟩
    · refine ⟨_, exec_inventoryTry hq (slotTry_good (c := c) ident swept waiting (goodInventory_eq_some.2 hv)), ?_⟩
      rw [writeSlot_bus]
      rfl
    · refine ⟨_, exec_inventoryTry hq (slotTry_again (c := c) ident swept waiting (bad notGood) early), ?_⟩
      rw [writeSlot_bus]
      rfl
    · intro slots bus
      rw [exec_inventoryTry hq (slotTry_failed (c := c) ident swept waiting h (bad notGood) last)]
      split_ifs <;> rfl

end Sys2Proof.Machine

/-! PROOFS. Ramps (R68 to R70): each passage of a ramp, its end, and the rail faults. -/

namespace Sys2Proof.Machine

open Sys2Proof

theorem powerDrops_kept (i : Slot) (old : SlotState) {new : SlotState} (st : poweredState new = true) :
    powerDrops i old new = [] := by
  rw [powerDrops, st, Bool.not_true, Bool.and_false, if_neg Bool.false_ne_true]

theorem powerDrops_released (i : Slot) {old new : SlotState} (was : poweredState old = true)
    (st : poweredState new = false) : powerDrops i old new = [.slotRelease i] := by
  rw [powerDrops, was, st]
  rfl

theorem enteringClears_none (i : Slot) {new : SlotState} (ramps : new ≠ .powering) (goes : new ≠ .empty) :
    enteringClears i new = [] := if_neg (not_or.2 ⟨ramps, goes⟩)

/-- A slot leaves power without an alarm to clear. -/
theorem leavingClears_powered (i : Slot) {old : SlotState} (was : poweredState old = true) :
    leavingClears i old = [] := by
  rcases poweredState_iff.1 was with rfl | rfl | rfl <;> rfl

theorem Timer.running_of_ne {t : Timer} (runs : t ≠ .stopped) (inTime : t ≠ .runOut) : ∃ ms, t = .running ms := by
  cases t with
  | stopped => exact absurd rfl runs
  | running ms => exact ⟨ms, rfl⟩
  | runOut => exact absurd rfl inTime

section ramps

variable {c : At Sls} (h : c.own.Sound) {i : Slot}
include h

/-- R67, R68, R73: the slot enters POWERING and its ramp goes to its first place. -/
theorem beginRamp_eq (st : Claimable c.own.slots[i].state) {waking : Bool}
    (standby : waking = true ↔ c.own.slots[i].state = .standby) (good : Vector Bool 3) :
    beginRamp i waking good c = {
      own := { c.own with slots := setAt c.own.slots i <|
        (rampPlace good waking (if waking then [1, 2] else [0, 1, 2])
          { c.own.slots[i] with state := .powering, cause := .none }) }
      bus := { c.bus with
        slsPtu := c.bus.slsPtu ++ [.report i .powering (if waking then .wake else .admitted)]
        toSpw := c.bus.toSpw ++ [.slot i]
        toAtu := c.bus.toAtu ++ leavingClears i c.own.slots[i].state ++
          [{ raised := false, kind := .slotPowerDenied, object := i.val }] } } := by
  obtain ⟨-, notRamping, notOnline⟩ := st.ne
  let todo : List (Fin 3) := if waking then [1, 2] else [0, 1, 2]
  have record : idleLook c.own.idleMinutes (enableRails i good waking todo (c.own.slots[i].entering .powering)) =
      rampPlace good waking todo { c.own.slots[i] with state := .powering, cause := .none } := by
    rw [beginRamp_rec h i st standby, ← rampPlace_of_ramp (r := { c.own.slots[i] with state := .powering, cause := .none })]
    exact idleLook_of_right (rampPlace_idleRight _ _ SlotState.noConfusion ((h i).idleTimer_stopped_of_state notOnline))
  have ramps := goTo_eq (f := enableRails i good waking todo) (if waking then .wake else .admitted) notRamping record
    (rampPlace_state _)
  refine ramps.trans ?_
  rw [powerDrops_kept i _ rfl, List.append_nil]
  rfl

/-- R69, R70: a rail fault of a slot with power. -/
theorem goFault_rail_eq (was : poweredState c.own.slots[i].state = true) (n : Fin 3) :
    goFault i .railFault (.rail n) id c = {
      own := { c.own with slots := setAt c.own.slots i { c.own.slots[i] with
        state := .fault, cause := .rail n, ramp := none, rampTimer := .stopped, idleTimer := .stopped
        railEn := Vector.replicate 3 false } }
      bus := { c.bus with
        slsPtu := c.bus.slsPtu ++ [.report i .fault .railFault]
        slsPbu := c.bus.slsPbu ++ [.slotRelease i]
        toSpw := c.bus.toSpw ++ [.slot i]
        toAtu := c.bus.toAtu ++ [{ raised := true, kind := .slotPowerFault, object := i.val }] } } := by
  have record : idleLook c.own.idleMinutes { c.own.slots[i].entering .fault with cause := .rail n } =
      { c.own.slots[i] with
        state := .fault, cause := .rail n, ramp := none, rampTimer := .stopped, idleTimer := .stopped
        railEn := Vector.replicate 3 false } := by
    rw [idleLook_of_not fun idle => SlotState.noConfusion idle.1]
    exact congrArg (fun r : SlotRec => { r with cause := .rail n }) ((h i).entering_dropped (new := .fault) rfl)
  have moves : c.own.slots[i].state ≠ .fault := fun e => by rw [e] at was; cases was
  have gone := goTo_eq (f := fun r => { r with cause := .rail n }) .railFault moves record rfl
  refine (congrArg (fun d : At Sls => { d with bus := d.bus.raise .slotPowerFault i.val }) gone).trans ?_
  dsimp only [Bus.raise]
  rw [powerDrops_released i was rfl, leavingClears_powered i was, enteringClears_none i (by decide) (by decide),
    List.append_nil, List.append_nil]

/-- R68: the ramp has settled. -/
theorem settleExpired_eq {w : Bool} (ramp : c.own.slots[i].ramp = some { phase := .settle, waking := w })
    {ms : Nat} (running : c.own.slots[i].rampTimer = .running ms) :
    settleExpired i c = {
      own := { c.own with slots := setAt c.own.slots i { c.own.slots[i] with
        state := .online, ramp := none, rampTimer := .stopped
        idleTimer := if c.own.slots[i].inUse = false ∧ c.own.idleMinutes ≠ 0 then .running (60000 * c.own.idleMinutes)
          else .stopped } }
      bus := { c.bus with
        slsPtu := c.bus.slsPtu ++ [.report i .online .rampDone], toSpw := c.bus.toSpw ++ [.slot i] } } := by
  have right := (h i).stateRight
  have st := right.powering ramp
  have stopped := (h i).idleTimer_stopped_of_state (st.trans_ne (by decide))
  have cause := right.cause_none (st.trans_ne (by decide))
  have record : idleLook c.own.idleMinutes (id (c.own.slots[i].entering .online)) = { c.own.slots[i] with
      state := .online, ramp := none, rampTimer := .stopped
      idleTimer := if c.own.slots[i].inUse = false ∧ c.own.idleMinutes ≠ 0 then .running (60000 * c.own.idleMinutes)
        else .stopped } := by
    refine (idleLook_of_stopped (r := c.own.slots[i].entering .online) stopped).trans ?_
    have on : poweredState .online = true := rfl
    simp only [SlotRec.entering, on, Bool.not_true, Bool.and_false, Bool.false_eq_true, if_false, true_and, cause]
  simp only [settleExpired, st, ramp, running]
  refine (goTo_eq (f := id) .rampDone (st.trans_ne (by decide)) record rfl).trans ?_
  rw [powerDrops_kept i _ rfl, st]
  simp only [leavingClears, enteringClears_none i (by decide : SlotState.online ≠ .powering) (by decide), List.append_nil]

/-- R69: the rail waited for is late. -/
theorem railExpired_eq {n : Fin 3} {w : Bool} (ramp : c.own.slots[i].ramp = some { phase := .railWait n, waking := w })
    {ms : Nat} (running : c.own.slots[i].rampTimer = .running ms) :
    railExpired i c = goFault i .railFault (.rail n) id c := by
  have st := (h i).stateRight.powering ramp
  simp only [railExpired, st, ramp, running]

/-- R70: the rails that count as confirmed (log entry 41). -/
theorem railConfirmed_of {n : Fin 3} (confirmed : c.own.slots[i].state = .online ∨
      (c.own.slots[i].state = .standby ∧ n = 0) ∨
      (∃ w, c.own.slots[i].ramp = some { phase := .settle, waking := w }) ∨
      ∃ k w, c.own.slots[i].ramp = some { phase := .railWait k, waking := w } ∧ n < k) :
    railConfirmed c.own.slots[i] n = true ∧ poweredState c.own.slots[i].state = true := by
  have right := (h i).stateRight
  generalize c.own.slots[i] = r at right confirmed
  have rails := right.rails_right
  rcases confirmed with st | ⟨st, rfl⟩ | ⟨w, ramp⟩ | ⟨k, w, ramp, before⟩
  · simp [railConfirmed, railsDue, rails, st, poweredState]
  · simp [railConfirmed, railsDue, rails, st, poweredState]
  · have st := right.powering ramp
    simp [railConfirmed, railsDue, rails, st, ramp, poweredState]
  · have st := right.powering ramp
    simp [railConfirmed, railsDue, rails, st, ramp, poweredState, before, before.le]

end ramps

/-- A rail fault, as the SLS at work leaves the whole part. -/
theorem onSls_rail_fault {s : State} (h : s.sls.Sound) {i : Slot} (was : poweredState s.sls.slots[i].state = true)
    (n : Fin 3) (pins : Pins) {f : At Sls → At Sls}
    (faults : f { own := s.sls, bus := s.bus } = goFault i .railFault (.rail n) id { own := s.sls, bus := s.bus }) :
    { s with pins := pins }.onSls f = { s with
      pins := pins
      sls := { s.sls with slots := setAt s.sls.slots i { s.sls.slots[i] with
        state := .fault, cause := .rail n, ramp := none, rampTimer := .stopped, idleTimer := .stopped
        railEn := Vector.replicate 3 false } }
      bus := { s.bus with
        slsPtu := s.bus.slsPtu ++ [.report i .fault .railFault]
        slsPbu := s.bus.slsPbu ++ [.slotRelease i]
        toSpw := s.bus.toSpw ++ [.slot i]
        toAtu := s.bus.toAtu ++ [{ raised := true, kind := .slotPowerFault, object := i.val }] } } := by
  have gone := faults.trans (goFault_rail_eq (c := { own := s.sls, bus := s.bus }) h was n)
  exact onSls_eq (s := { s with pins := pins }) (b := s.bus) gone

/-- Settles O36: a rise takes the ramp to its next place, the settle timer ends it, and a late or falling rail is a fault. -/
theorem rampsConfirmEachRail : Obligations.RampsConfirmEachRail := by
  unfold Obligations.RampsConfirmEachRail
  refine ⟨fun s i n w h => ?_, fun s i w h => ?_, fun s c i n h => ?_⟩
  · intro r ramp
    let pins := setRailGood i n true s.pins
    have rose := railRose_eq (c := { own := s.sls, bus := s.bus }) h i ramp pins.railGood[i]
    refine ⟨_, congrArg Host.Outcome.next (onSls_eq (s := { s with pins := pins }) (b := s.bus) rose), rfl, ?_⟩
    rw [writeSlot_bus]
    rfl
  · intro r ramp runs inTime
    obtain ⟨ms, running⟩ := Timer.running_of_ne runs inTime
    have settled := settleExpired_eq (c := { own := s.sls, bus := s.bus }) h ramp running
    exact congrArg Host.Outcome.next (onSls_eq (b := s.bus) settled)
  · rintro r (⟨rfl, runs, inTime, w, ramp⟩ | ⟨rfl, confirmed⟩)
    · obtain ⟨ms, running⟩ := Timer.running_of_ne runs inTime
      have was : poweredState r.state = true := by rw [(h i).stateRight.powering ramp]; rfl
      have late := railExpired_eq (c := { own := s.sls, bus := s.bus }) h ramp running
      exact ⟨_, congrArg Host.Outcome.next (onSls_rail_fault h was n s.pins late), (if_neg (by simp)).symm, rfl⟩
    · obtain ⟨fell, was⟩ := railConfirmed_of (c := { own := s.sls, bus := s.bus }) h confirmed
      have fault : railFell i n { own := s.sls, bus := s.bus } = _ := if_pos fell
      exact ⟨_, congrArg Host.Outcome.next (onSls_rail_fault h was n (setRailGood i n false s.pins) fault),
        (if_pos rfl).symm, rfl⟩

end Sys2Proof.Machine

/-! PROOFS. Idle slots and wake (R71 to R73). -/

namespace Sys2Proof.Machine

open Sys2Proof

/-- R71: a use notice starts the timer of a slot that goes out of use, and stops that of one that is used. -/
theorem idleLook_use {minutes : Nat} {r : SlotRec} (h : r.Sound minutes) (used : Bool) :
    idleLook minutes { r with inUse := used } = { r with
      inUse := used
      idleTimer := if used = true then .stopped
        else if r.inUse = true ∧ r.state = .online ∧ minutes ≠ 0 then .running (60000 * minutes)
        else r.idleTimer } := by
  cases used with
  | true => exact idleLook_of_not fun idle => Bool.noConfusion idle.2.1
  | false =>
    cases was : r.inUse with
    | true =>
      have stopped : r.idleTimer = .stopped := h.idleTimer_stopped fun idle => by
        rw [was] at idle
        exact Bool.noConfusion idle.2.1
      refine (idleLook_of_stopped (r := { r with inUse := false }) stopped).trans ?_
      simp only [true_and, Bool.false_eq_true, if_false, stopped]
    | false =>
      have same : { r with inUse := false } = r := by rw [← was]
      rw [same, idleLook_of_right (SlotRec.sound_iff.1 h).2]
      simp only [Bool.false_eq_true, false_and, if_false, same]

section idle

variable {c : At Sls} (h : c.own.Sound) {i : Slot}
include h

/-- R72: the slot sleeps on its standby rail, and its watts step down. -/
theorem idleExpired_eq {ms : Nat} (running : c.own.slots[i].idleTimer = .running ms) :
    idleExpired i c = {
      own := { c.own with slots := setAt c.own.slots i { c.own.slots[i] with
        state := .standby, idleTimer := .stopped, railEn := #v[true, false, false] } }
      bus := { c.bus with
        slsPtu := c.bus.slsPtu ++ [.report i .standby .idle]
        slsPbu := c.bus.slsPbu ++ [.stepDown i]
        toSpw := c.bus.toSpw ++ [.slot i] } } := by
  have right := (h i).stateRight
  have online := ((h i).idle_right.1 (by rw [running]; exact Timer.noConfusion)).1
  have notRamping := online.trans_ne (by decide : SlotState.online ≠ .powering)
  have record : idleLook c.own.idleMinutes (standbyRails (c.own.slots[i].entering .standby)) = { c.own.slots[i] with
      state := .standby, idleTimer := .stopped, railEn := #v[true, false, false] } := by
    rw [idleLook_of_not fun idle => SlotState.noConfusion idle.1, ← right.standby_railEn online]
    simp only [standbyRails, SlotRec.entering, right.ramp_none notRamping, right.rampTimer_stopped notRamping,
      right.cause_none (online.trans_ne (by decide))]
  have sleeps := goTo_eq (f := standbyRails) .idle (online.trans_ne (by decide)) record rfl
  simp only [idleExpired, running]
  refine (congrArg (fun d : At Sls => { d with bus := d.bus.sendSlsPbu (.stepDown i) }) sleeps).trans ?_
  rw [powerDrops_kept i _ rfl, online, enteringClears_none i (by decide) (by decide)]
  simp only [Bus.sendSlsPbu, leavingClears, List.append_nil]

/-- R73: the wake ramp. -/
theorem wakeAsked_eq (standby : c.own.slots[i].state = .standby) (good : Vector Bool 3) :
    wakeAsked i good c = {
      own := { c.own with slots := setAt c.own.slots i <|
        (rampPlace good true [1, 2] { c.own.slots[i] with state := .powering }) }
      bus := { c.bus with
        slsPtu := c.bus.slsPtu ++ [.report i .powering .wake]
        toSpw := c.bus.toSpw ++ [.slot i]
        toAtu := c.bus.toAtu ++ [{ raised := false, kind := .slotPowerDenied, object := i.val }] } } := by
  have cause := (h i).stateRight.cause_none (standby.trans_ne (by decide))
  have ramps := beginRamp_eq h (.inr (.inr (.inr (.inr standby)))) (iff_of_true rfl standby) good
  refine (if_pos standby).trans (ramps.trans ?_)
  simp only [standby, leavingClears, List.append_nil, if_true, ← cause]

end idle

theorem exec_useNotice {s : State} {i : Slot} {used : Bool} {rest : List PtuToSls}
    (hq : s.bus.ptuSls = .useNotice i used :: rest) {d : At Sls}
    (noticed : useNotice i used { own := s.sls, bus := { s.bus with ptuSls := rest } } = d) :
    exec .useNoticeTaken s = .next { s with sls := d.own, bus := d.bus } := by
  simp only [exec, execUseNoticeTaken, hq]
  exact congrArg Host.Outcome.next (onSls_eq noticed)

theorem exec_wake {s : State} {i : Slot} {rest : List PtuToSls} (hq : s.bus.ptuSls = .wake i :: rest) {d : At Sls}
    (asked : wakeAsked i s.pins.railGood[i] { own := s.sls, bus := { s.bus with ptuSls := rest } } = d) :
    exec .wakeRequest s = .next { s with sls := d.own, bus := d.bus } := by
  simp only [exec, execWakeRequest, hq]
  exact congrArg Host.Outcome.next (onSls_eq asked)

/-- Settles O37: what the idle timers, their expiry and a wake request make of a sound slot. -/
theorem idleSlotsSleepAndWake : Obligations.IdleSlotsSleepAndWake := by
  unfold Obligations.IdleSlotsSleepAndWake
  refine ⟨fun s i used rest h hq => ?_, fun s m rest hq => ?_, fun s i ms h running => ?_, fun s i rest h hq => ⟨?_, ?_⟩⟩
  · intro r
    let c : At Sls := { own := s.sls, bus := { s.bus with ptuSls := rest } }
    have noticed : useNotice i used c = _ := congrArg (fun x => writeSlot i x c) (idleLook_use (h i) used)
    refine ⟨_, exec_useNotice hq noticed, ?_⟩
    rw [writeSlot_bus]
    rfl
  · have timers : (fun r : SlotRec => idleLook m { r with idleTimer := .stopped }) = fun r => { r with
        idleTimer := if r.state = .online ∧ r.inUse = false ∧ m ≠ 0 then .running (60000 * m) else .stopped } :=
      funext fun r => idleLook_of_stopped (r := { r with idleTimer := .stopped }) rfl
    simp only [exec, execIdleTimeUpdate, hq]
    rw [onSls_eq rfl, newIdleTime, timers]
  · have slept := idleExpired_eq (c := { own := s.sls, bus := s.bus }) h running
    exact congrArg Host.Outcome.next (onSls_eq (b := s.bus) slept)
  · intro standby
    exact exec_wake hq (wakeAsked_eq (c := { own := s.sls, bus := { s.bus with ptuSls := rest } }) h standby _)
  · intro other
    exact exec_wake hq (if_neg other)

end Sys2Proof.Machine

/-! PROOFS. The orders of the PBU and of the CLC, and removal (R78 to R80). -/

namespace Sys2Proof.Machine

open Sys2Proof

section dropped

variable {c : At Sls} (h : c.own.Sound) {i : Slot}
include h

/-- R62: a transition to another state without power. -/
theorem goTo_dropped {new : SlotState} (moves : c.own.slots[i].state ≠ new) (st : poweredState new = false)
    (why : ReportCause) : goTo i new why id c = {
      own := { c.own with slots := setAt c.own.slots i { c.own.slots[i] with
        state := new, cause := .none, ramp := none, rampTimer := .stopped, idleTimer := .stopped
        railEn := Vector.replicate 3 false } }
      bus := { c.bus with
        slsPtu := c.bus.slsPtu ++ [.report i new why]
        slsPbu := c.bus.slsPbu ++ powerDrops i c.own.slots[i].state new
        toSpw := c.bus.toSpw ++ [.slot i]
        toAtu := c.bus.toAtu ++ leavingClears i c.own.slots[i].state ++ enteringClears i new } } := by
  have notOnline : new ≠ .online := fun e => by rw [e] at st; cases st
  refine goTo_eq (f := id) why moves ?_ rfl
  exact (idleLook_of_not fun idle => notOnline idle.1).trans ((h i).entering_dropped st)

theorem cause_none_of_powered (was : poweredState c.own.slots[i].state = true) : c.own.slots[i].cause = .none :=
  (h i).stateRight.cause_none fun e => by rw [e] at was; cases was

/-- R78: a shed order to a slot with power. -/
theorem shedOrdered_powered (was : poweredState c.own.slots[i].state = true) : shedOrdered i c = {
    own := { c.own with slots := setAt c.own.slots i { c.own.slots[i] with
      state := .shed, ramp := none, rampTimer := .stopped, idleTimer := .stopped
      railEn := Vector.replicate 3 false } }
    bus := { c.bus with
      slsPtu := c.bus.slsPtu ++ [.report i .shed .shed]
      slsPbu := c.bus.slsPbu ++ [.slotRelease i, .shedAnswer i true]
      toSpw := c.bus.toSpw ++ [.slot i]
      toAtu := c.bus.toAtu ++ [{ raised := true, kind := .slotShed, object := i.val }] } } := by
  have moves : c.own.slots[i].state ≠ .shed := fun e => by rw [e] at was; cases was
  rw [shedOrdered, if_pos was]
  dsimp only
  rw [goTo_dropped h moves rfl, powerDrops_released i was rfl, leavingClears_powered i was,
    enteringClears_none i (by decide) (by decide)]
  simp only [Bus.raise, Bus.sendSlsPbu, List.append_assoc, List.append_nil, List.cons_append, List.nil_append,
    cause_none_of_powered h was]

/-- R79: a thermal-off order to a slot with power. -/
theorem thermalOrdered_powered (was : poweredState c.own.slots[i].state = true) : thermalOrdered i c = {
    own := { c.own with slots := setAt c.own.slots i { c.own.slots[i] with
      state := .thermalOff, ramp := none, rampTimer := .stopped, idleTimer := .stopped
      railEn := Vector.replicate 3 false } }
    bus := { c.bus with
      slsPtu := c.bus.slsPtu ++ [.report i .thermalOff .thermal]
      slsPbu := c.bus.slsPbu ++ [.slotRelease i]
      toSpw := c.bus.toSpw ++ [.slot i]
      toAtu := c.bus.toAtu ++ [{ raised := true, kind := .slotThermalOff, object := i.val }] } } := by
  have moves : c.own.slots[i].state ≠ .thermalOff := fun e => by rw [e] at was; cases was
  rw [thermalOrdered, if_pos was]
  dsimp only
  rw [goTo_dropped h moves rfl, powerDrops_released i was rfl, leavingClears_powered i was,
    enteringClears_none i (by decide) (by decide)]
  simp only [Bus.raise, List.append_nil, cause_none_of_powered h was]

end dropped

theorem exec_shedOrder {s : State} {i : Slot} {rest : List PbuToSls} (hq : s.bus.pbuSls = .shedOrder i :: rest)
    {d : At Sls} (ordered : shedOrdered i { own := s.sls, bus := { s.bus with pbuSls := rest } } = d) :
    exec .shedOrder s = .next { s with sls := d.own, bus := d.bus } := by
  simp only [exec, execShedOrder, hq]
  exact congrArg Host.Outcome.next (onSls_eq ordered)

theorem exec_thermalOff {s : State} {i : Slot} {rest : List ClcToSls} (hq : s.bus.clcSls = .thermalOff i :: rest)
    {d : At Sls} (ordered : thermalOrdered i { own := s.sls, bus := { s.bus with clcSls := rest } } = d) :
    exec .thermalOffOrder s = .next { s with sls := d.own, bus := d.bus } := by
  simp only [exec, execThermalOffOrder, hq]
  exact congrArg Host.Outcome.next (onSls_eq ordered)

/-! ### Removal (R80) -/

/-- R80: the record of a slot whose blade is gone. -/
def SlotRec.emptied (r : SlotRec) : SlotRec :=
  { r with
    state := .empty, inventory := none, cause := .none, ramp := none, rampTimer := .stopped, ident := none
    retryTimer := .stopped, idleTimer := .stopped, railEn := Vector.replicate 3 false, epoch := r.epoch + 1
    claim := r.claim.map (fun k => { k with withdrawn := true })
    deferred := none, orphanTask := r.orphanTask || r.deferred == some .task }

/-- R62, R80: the alarms that a removal clears. -/
def removalClears (i : Slot) (old : SlotState) : List AlarmRequest :=
  leavingClears i old ++ ([.slotPowerDenied, .slotShed, .slotThermalOff, .slotPowerFault].map
    fun k => { raised := false, kind := k, object := i.val })

/-- The bus after a removal, but for the end of a task. -/
def removalBus (i : Slot) (old : SlotState) (b : Bus) : Bus :=
  { b with
    slsPtu := b.slsPtu ++ [.report i .empty .removed]
    slsPbu := b.slsPbu ++ powerDrops i old .empty
    toSpw := b.toSpw ++ [.slot i]
    toAtu := b.toAtu ++ removalClears i old }

/-- R80: a removal, and the SLOT POWER that waited on the identification. -/
theorem slotLost_eq {c : At Sls} {i : Slot} (present : c.own.slots[i].state ≠ .empty) :
    let own := { c.own with slots := setAt c.own.slots i c.own.slots[i].emptied }
    let bus := removalBus i c.own.slots[i].state c.bus
    slotLost i c = if c.own.slots[i].ident.any (fun x => x.byTask) = true then
        { own := { own with taskSlot := none }
          bus := bus.refuse .sls .slotChanged (details 0 (slotStateCode .empty) 0 0) }
      else { own := own, bus := bus } := by
  intro own bus
  let empty := c.own.slots[i].emptying
  have gone := goTo_eq (f := empty) (r := c.own.slots[i].emptied) .removed present
    (idleLook_of_not fun idle => SlotState.noConfusion idle.1) rfl
  have lost : { goTo i .empty .removed empty c with
      bus := (((goTo i .empty .removed empty c).bus.clearAlarm .slotShed i.val).clearAlarm .slotThermalOff
        i.val).clearAlarm .slotPowerFault i.val } = ({ own := own, bus := bus } : At Sls) := by
    rw [gone]
    simp only [own, bus, removalBus, removalClears, Bus.clearAlarm, enteringClears, or_true, if_true, List.append_assoc,
      List.map, List.cons_append, List.nil_append]
  have refused : refusePower i .slotChanged 0 { own := own, bus := bus } = {
      own := { own with taskSlot := none }
      bus := bus.refuse .sls .slotChanged (details 0 (slotStateCode .empty) 0 0) } := by
    rw [refusePower, powerDetails_zero]
    dsimp only [own]
    rw [setAt_get_self]
    rfl
  unfold slotLost
  rw [if_neg present]
  refine Eq.trans (b := match c.own.slots[i].ident with
    | some { byTask := true, .. } => refusePower i .slotChanged 0 { own := own, bus := bus }
    | _ => { own := own, bus := bus }) ?_ ?_
  · rw [← lost]
    rfl
  · rw [refused]
    cases c.own.slots[i].ident with
    | none => rfl
    | some x =>
      obtain ⟨n, swept, byTask⟩ := x
      cases byTask <;> rfl

theorem powerDrops_eq (i : Slot) (old : SlotState) {new : SlotState} (st : poweredState new = false) :
    powerDrops i old new = if old = .powering ∨ old = .online ∨ old = .standby then [.slotRelease i] else [] := by
  simp only [powerDrops, st, Bool.not_false, Bool.and_true, poweredState_iff]

theorem mem_removalClears {i : Slot} {old : SlotState} {k : AlarmKind}
    (hk : k = .slotShed ∨ k = .slotThermalOff ∨ k = .slotPowerFault ∨ k = .slotPowerDenied) :
    { raised := false, kind := k, object := i.val } ∈ removalClears i old := by
  refine List.mem_append_right _ ?_
  rcases hk with rfl | rfl | rfl | rfl <;> simp

theorem exec_presenceLost {s : State} {i : Slot} {rest : List (Slot × Bool)} (hq : s.bus.tbSls = (i, false) :: rest)
    {d : At Sls} (lost : slotLost i { own := s.sls, bus := { s.bus with tbSls := rest } } = d) :
    exec .slotPresenceLost s = .next { s with sls := d.own, bus := d.bus } := by
  simp only [exec, execSlotPresenceLost, hq]
  exact congrArg Host.Outcome.next (onSls_eq lost)

/-- Settles O39: orders and removal take a slot with power out of service, and leave any other without power. -/
theorem ordersAndRemovalDropThePower : Obligations.OrdersAndRemovalDropThePower := by
  unfold Obligations.OrdersAndRemovalDropThePower
  refine ⟨fun s i rest h hq => ⟨fun powered => ?_, fun unpowered => ?_⟩,
    fun s i rest h hq => ⟨fun powered => ?_, fun unpowered => ?_⟩, fun s z hot rest hq => ?_, fun s i rest h hq => ?_⟩
  · exact exec_shedOrder hq (shedOrdered_powered (c := { own := s.sls, bus := { s.bus with pbuSls := rest } }) h
      (poweredState_iff.2 powered))
  · exact exec_shedOrder hq (if_neg (mt poweredState_iff.1 unpowered))
  · exact exec_thermalOff hq (thermalOrdered_powered (c := { own := s.sls, bus := { s.bus with clcSls := rest } }) h
      (poweredState_iff.2 powered))
  · exact exec_thermalOff hq (if_neg (mt poweredState_iff.1 unpowered))
  · simp only [exec, execHotFlagReport, hq]
    rfl
  · intro r powered present asked
    have lost := slotLost_eq (c := { own := s.sls, bus := { s.bus with tbSls := rest } }) present
    let gone := removalBus i r.state { s.bus with tbSls := rest }
    have sent : gone = { s.bus with
        tbSls := rest
        slsPtu := s.bus.slsPtu ++ [.report i .empty .removed]
        slsPbu := s.bus.slsPbu ++ (if powered then [.slotRelease i] else [])
        toSpw := s.bus.toSpw ++ [.slot i]
        toAtu := gone.toAtu } := by
      simp only [gone, removalBus, powerDrops_eq i r.state (rfl : poweredState .empty = false), powered]
    have cleared (k : AlarmKind) (hk : k = .slotShed ∨ k = .slotThermalOff ∨ k = .slotPowerFault ∨ k = .slotPowerDenied) :
        { raised := false, kind := k, object := i.val } ∈ gone.toAtu := List.mem_append_right _ (mem_removalClears hk)
    by_cases waits : asked
    · refine ⟨_, exec_presenceLost hq (lost.trans (if_pos waits)), rfl, ?_, ?_, ?_⟩
      · rw [if_pos waits]
        rfl
      · intro bus
        rw [if_pos waits]
        refine congrArg (fun b : Bus => b.refuse .sls .slotChanged (details 0 (slotStateCode .empty) 0 0)) ?_
        exact sent.trans (congrArg (fun x => { bus with toAtu := x }) (endTask_toAtu gone _ _ _).symm)
      · intro k hk
        exact (endTask_toAtu gone _ _ _).symm ▸ cleared k hk
    · refine ⟨_, exec_presenceLost hq (lost.trans (if_neg waits)), rfl, ?_, ?_, cleared⟩
      · rw [if_neg waits]
        rfl
      · intro bus
        rw [if_neg waits]
        exact sent

end Sys2Proof.Machine

/-! PROOFS. Admission (R65 to R67): the sweep's answer, the answer to a slot claim, and what waited behind it. -/

namespace Sys2Proof.Machine

open Sys2Proof

/-! ### An admission (R66) -/

section admission

variable {c : At Sls} {i : Slot}

/-- The message of a new claim. -/
def claimSent (i : Slot) (r : SlotRec) : SlsToPbu := .slotClaim i (claimFigures r).1 (claimFigures r).2

/-- R66: without a claim in flight the claim is made. -/
theorem admission_new (o : Origin) (free : c.own.slots[i].claim = none) : admission i o c = {
    own := { c.own with slots := setAt c.own.slots i { c.own.slots[i] with
      claim := some { origin := o, fromState := c.own.slots[i].state, withdrawn := false } } }
    bus := { c.bus with slsPbu := c.bus.slsPbu ++ [claimSent i c.own.slots[i]] } } := by
  have quiet : writeSlot i { c.own.slots[i] with
      claim := some { origin := o, fromState := c.own.slots[i].state, withdrawn := false } } c = _ :=
    writeSlot_unmarked rfl
  simp only [admission, free]
  rw [quiet]
  rfl

/-- R66: behind a withdrawn claim the admission waits. -/
theorem admission_deferred (o : Origin) {k : ClaimInFlight} (claim : c.own.slots[i].claim = some k)
    (withdrawn : k.withdrawn = true) : admission i o c = { c with
      own := { c.own with slots := setAt c.own.slots i { c.own.slots[i] with deferred := some o } } } := by
  simp only [admission, claim, withdrawn, if_true]
  exact writeSlot_unmarked rfl

/-- R66: a task takes over the claim in flight. -/
theorem admission_takenOver {k : ClaimInFlight} (claim : c.own.slots[i].claim = some k)
    (stands : k.withdrawn = false) : admission i .task c = { c with
      own := { c.own with slots := setAt c.own.slots i { c.own.slots[i] with
        claim := some { k with origin := .task } } } } := by
  simp only [admission, claim, stands, Bool.false_eq_true, if_false, if_true]
  exact writeSlot_unmarked rfl

/-- R66: with no claim in flight, or a withdrawn one, the claim is made or the admission waits. -/
theorem admission_of_withdrawn (o : Origin) (withdrawn : ∀ k, c.own.slots[i].claim = some k → k.withdrawn = true) :
    admission i o c = {
      own := { c.own with slots := setAt c.own.slots i { c.own.slots[i] with
        claim := if c.own.slots[i].claim = none then
            some { origin := o, fromState := c.own.slots[i].state, withdrawn := false }
          else c.own.slots[i].claim
        deferred := if c.own.slots[i].claim ≠ none then some o else c.own.slots[i].deferred } }
      bus := { c.bus with
        slsPbu := c.bus.slsPbu ++ (if c.own.slots[i].claim = none then [claimSent i c.own.slots[i]] else []) } } := by
  cases claim : c.own.slots[i].claim with
  | none => rw [admission_new o claim]; rfl
  | some k =>
    rw [admission_deferred o claim (withdrawn k claim)]
    simp only [claim, reduceCtorEq, if_false, not_false_eq_true, ne_eq, if_true, List.append_nil]

end admission

/-! ### The sweep's answer (R65) -/

/-- R65: the record of a slot identified. -/
def SlotRec.swept (r : SlotRec) : SlotRec :=
  { r with state := .off, ident := none, retryTimer := .stopped, epoch := r.epoch + 1 }

/-- R65: the slot goes to OFF. -/
def sweptOff (i : Slot) (c : At Sls) : At Sls where
  own := { c.own with slots := setAt c.own.slots i c.own.slots[i].swept }
  bus := { c.bus with
    slsPtu := c.bus.slsPtu ++ [.report i .off .identified], toSpw := c.bus.toSpw ++ [.slot i] }

theorem sweepAnswered_eq {c : At Sls} (h : c.own.Sound) {i : Slot} {x : Identification}
    (ident : c.own.slots[i].ident = some x) (pending : x.sweepPending = true) :
    sweepAnswered i c.own.slots[i].epoch c =
      if x.byTask = true ∨ c.own.slots[i].autoOn = true then
        admission i (if x.byTask = true then .task else .autoOn) (sweptOff i c)
      else sweptOff i c := by
  have st := (h i).stateRight.identifying ident
  have cause := (h i).stateRight.cause_none (st.trans_ne (by decide))
  have unpowered : poweredState c.own.slots[i].state = false := by rw [st]; rfl
  have record : idleLook c.own.idleMinutes (endIdentification (c.own.slots[i].entering .off)) =
      c.own.slots[i].swept := by
    rw [idleLook_of_not fun idle => SlotState.noConfusion idle.1]
    refine (congrArg endIdentification ((h i).entering_unpowered unpowered)).trans ?_
    simp only [endIdentification, SlotRec.swept, cause]
  have gone : goTo i .off .identified endIdentification c = sweptOff i c := by
    refine (goTo_eq (f := endIdentification) .identified (st.trans_ne (by decide)) record rfl).trans ?_
    rw [powerDrops_unpowered i _ unpowered, enteringClears_none i (by decide) (by decide), st]
    simp only [leavingClears, List.append_nil, sweptOff]
  simp only [sweepAnswered, ident, pending, true_and, if_true, gone]
  cases x.byTask <;> simp

theorem exec_sweepDone {s : State} {i : Slot} {tag : Nat} {rest : List PtuToSls}
    (hq : s.bus.ptuSls = .sweepDone i tag :: rest) {d : At Sls}
    (answered : sweepAnswered i tag { own := s.sls, bus := { s.bus with ptuSls := rest } } = d) :
    exec .sweepDone s = .next { s with sls := d.own, bus := d.bus } := by
  simp only [exec, execSweepDone, hq]
  exact congrArg Host.Outcome.next (onSls_eq answered)

/-! ### The answer to a slot claim (R67) -/

/-- R67: the answer is taken, and the claim is in flight no more. -/
def answerTaken (i : Slot) (c : At Sls) : At Sls :=
  { c with own := { c.own with slots := setAt c.own.slots i { c.own.slots[i] with claim := none } } }

theorem answerTaken_sound {c : At Sls} (h : c.own.Sound) (i : Slot) : (answerTaken i c).own.Sound :=
  h.withSlot i ((h i).withClaim (x := none) (fun _ e => nomatch e) _ _)

@[simp] theorem answerTaken_rec (i : Slot) (c : At Sls) :
    (answerTaken i c).own.slots[i] = { c.own.slots[i] with claim := none } := setAt_get_self _ _ _

section answer

variable {c : At Sls} {i : Slot} {k : ClaimInFlight} (claim : c.own.slots[i].claim = some k) (granted : Bool)
  (amount : Int) (good : Vector Bool 3)
include claim

theorem claimAnswered_judged : claimAnswered i granted amount good c = afterAnswer i
    (if !k.withdrawn ∧ c.own.slots[i].state = k.fromState then
      answerInState i k granted amount good (answerTaken i c)
    else if c.own.slots[i].state = .powering ∨ c.own.slots[i].state = .online then
      if k.origin = .task then closePower i .noChange amount (answerTaken i c) else answerTaken i c
    else answerChanged i k granted amount (answerTaken i c)) := by
  have quiet : writeSlot i { c.own.slots[i] with claim := none } c = answerTaken i c := writeSlot_unmarked rfl
  simp only [claimAnswered, claim]
  rw [quiet]

/-- The slot is still in the state of its claim. -/
theorem claimAnswered_inState (stands : k.withdrawn = false) (same : k.fromState = c.own.slots[i].state) :
    claimAnswered i granted amount good c =
      afterAnswer i (answerInState i k granted amount good (answerTaken i c)) := by
  rw [claimAnswered_judged claim, if_pos ⟨by rw [stands]; rfl, same.symm⟩]

/-- A wake request has woken the slot. -/
theorem claimAnswered_awake (h : c.own.Sound)
    (awake : c.own.slots[i].state = .powering ∨ c.own.slots[i].state = .online) :
    claimAnswered i granted amount good c = afterAnswer i
      (if k.origin = .task then closePower i .noChange amount (answerTaken i c) else answerTaken i c) := by
  have other : c.own.slots[i].state ≠ k.fromState := fun same => by
    obtain ⟨-, notRamping, notOnline⟩ := (same ▸ (h i).stateRight.claim_from k claim : Claimable _).ne
    exact awake.elim notRamping notOnline
  rw [claimAnswered_judged claim, if_neg fun e => other e.2, if_pos awake]

/-- The claim was withdrawn, or the slot is elsewhere without power. -/
theorem claimAnswered_changed (changed : k.withdrawn = true ∨ k.fromState ≠ c.own.slots[i].state)
    (notRamping : c.own.slots[i].state ≠ .powering) (notOnline : c.own.slots[i].state ≠ .online) :
    claimAnswered i granted amount good c =
      afterAnswer i (answerChanged i k granted amount (answerTaken i c)) := by
  rw [claimAnswered_judged claim, if_neg, if_neg (not_or.2 ⟨notRamping, notOnline⟩)]
  rintro ⟨stands, same⟩
  rcases changed with withdrawn | other
  · rw [withdrawn] at stands
    cases stands
  · exact other same.symm

end answer

/-- Nothing waits behind the claim. -/
theorem afterAnswer_quiet {c : At Sls} {i : Slot} (deferred : c.own.slots[i].deferred = none)
    (orphan : c.own.slots[i].orphanTask = false) : afterAnswer i c = c := by
  have kept : closeOrphan i c = c := if_neg (by rw [orphan]; exact Bool.false_ne_true)
  rw [afterAnswer_eq, kept]
  simp only [sendDeferred, deferred]

/-- R67: the answer taken to a claim that the slot has left; a grant is given back. -/
def claimLeft (i : Slot) (k : ClaimInFlight) (granted : Bool) (c : At Sls) : At Sls :=
  { answerTaken i c with
    bus := { c.bus with
      slsPbu := c.bus.slsPbu ++ (if granted = true ∧ k.fromState ≠ .standby then [.slotRelease i] else []) } }

/-- R67: the watts of a claim that the slot has left are given back, but for those of a claim from STANDBY. -/
theorem answerChanged_eq {c : At Sls} {i : Slot} {k : ClaimInFlight} (claim : Claimable k.fromState) (granted : Bool)
    (amount : Int) : answerChanged i k granted amount (answerTaken i c) =
      if k.origin = .task then refusePower i .slotChanged amount (claimLeft i k granted c)
      else claimLeft i k granted c := by
  have back : (granted && (k.fromState == .off || k.fromState == .shed || k.fromState == .thermalOff
      || k.fromState == .fault)) = true ↔ granted = true ∧ k.fromState ≠ .standby := by
    rcases claim with e | e | e | e | e <;> simp [e]
  unfold answerChanged
  dsimp only
  by_cases released : granted = true ∧ k.fromState ≠ .standby
  · rw [if_pos (back.2 released)]
    simp only [claimLeft, if_pos released]
    rfl
  · rw [if_neg (mt back.1 released)]
    simp only [claimLeft, if_neg released, List.append_nil]
    rfl

theorem rampPlace_frame (good : Vector Bool 3) (waking : Bool) (todo : List (Fin 3)) (r : SlotRec) :
    rampPlace good waking todo r = { r with
      ramp := (rampPlace good waking todo r).ramp
      rampTimer := (rampPlace good waking todo r).rampTimer
      railEn := (rampPlace good waking todo r).railEn } := by
  unfold rampPlace
  split <;> rfl

/-- R67, R68: the record of a slot that is powered by an answer. -/
def SlotRec.admitted (good : Vector Bool 3) (r : SlotRec) : SlotRec :=
  rampPlace good (decide (r.state = .standby)) (if r.state = .standby then [1, 2] else [0, 1, 2])
    { r with state := .powering, cause := .none, claim := none }

/-- R67: the slot is powered by the answer to its claim. -/
def answerPowers (i : Slot) (good : Vector Bool 3) (c : At Sls) : At Sls where
  own := { c.own with slots := setAt c.own.slots i (c.own.slots[i].admitted good) }
  bus := { c.bus with
    slsPtu := c.bus.slsPtu ++ [.report i .powering (if c.own.slots[i].state = .standby then .wake else .admitted)]
    toSpw := c.bus.toSpw ++ [.slot i]
    toAtu := c.bus.toAtu ++ leavingClears i c.own.slots[i].state ++
      [{ raised := false, kind := .slotPowerDenied, object := i.val }] }

theorem answerPowers_waits {c : At Sls} {i : Slot} (good : Vector Bool 3) :
    (answerPowers i good c).own.slots[i].deferred = c.own.slots[i].deferred ∧
      (answerPowers i good c).own.slots[i].orphanTask = c.own.slots[i].orphanTask := by
  have entry : (answerPowers i good c).own.slots[i] = c.own.slots[i].admitted good := setAt_get_self _ _ _
  rw [entry, SlotRec.admitted, rampPlace_frame]
  exact ⟨rfl, rfl⟩

/-- R67: a grant powers the slot, and closes the task of its claim. -/
theorem answerInState_granted {c : At Sls} (h : c.own.Sound) {i : Slot} {k : ClaimInFlight}
    (claim : c.own.slots[i].claim = some k) (same : k.fromState = c.own.slots[i].state) (amount : Int)
    (good : Vector Bool 3) : answerInState i k true amount good (answerTaken i c) =
      if k.origin = .task then closePower i .admitted amount (answerPowers i good c) else answerPowers i good c := by
  have taken := answerTaken_rec i c
  have ramps : beginRamp i (k.fromState == .standby) good (answerTaken i c) = answerPowers i good c := by
    have st : Claimable (answerTaken i c).own.slots[i].state := by
      rw [taken]
      exact same ▸ (h i).stateRight.claim_from k claim
    have waking : (k.fromState == .standby) = true ↔ (answerTaken i c).own.slots[i].state = .standby := by
      rw [taken, beq_iff_eq, same]
    refine (beginRamp_eq (answerTaken_sound h i) st waking good).trans ?_
    rw [taken, same]
    have twice := setAt_setAt c.own.slots i
    simp only [answerPowers, SlotRec.admitted, answerTaken, beq_iff_eq, twice]
    rfl
  simp only [answerInState, if_true, ramps]

/-- The end of a SLOT POWER, with the details of the record that it leaves. -/
theorem slsEnd_power {c : At Sls} {i : Slot} {r : SlotRec} (entry : c.own.slots[i] = r) (cls : OutcomeClass)
    (outcome : Nat) (amount : Int) : slsEnd cls (powerDetails outcome amount c.own.slots[i]) c = {
      own := { c.own with taskSlot := none }
      bus := c.bus.endTask .sls cls (powerDetails outcome amount r) } := by
  rw [entry]
  rfl

/-- R77: the task that an answer has admitted. -/
theorem closePower_admitted (i : Slot) (amount : Int) (good : Vector Bool 3) (c : At Sls) :
    closePower i .admitted amount (answerPowers i good c) = {
      own := { (answerPowers i good c).own with taskSlot := none }
      bus := (answerPowers i good c).bus.closeNormal .sls { w0 := BitVec.ofNat 32 2
                                                            w1 := BitVec.ofNat 32 (slotStateCode .powering)
                                                            w2 := signedWord amount
                                                            w3 := BitVec.ofNat 32 (faultCauseCode .none) } } := by
  have entry : (answerPowers i good c).own.slots[i] = c.own.slots[i].admitted good := setAt_get_self _ _ _
  refine (slsEnd_power entry .normal 2 amount).trans ?_
  rw [SlotRec.admitted, rampPlace_frame]
  rfl

/-! ### What waited behind the claim (R66, R80) -/

theorem admissible_iff {r : SlotRec} (h : r.StateRight) (notRamping : r.state ≠ .powering)
    (notOnline : r.state ≠ .online) :
    admissible r = true ↔ r.state ≠ .empty ∧ r.state ≠ .identifying ∧ r.cause ≠ .inventory := by
  cases st : r.state with
  | powering => exact absurd st notRamping
  | online => exact absurd st notOnline
  | empty | identifying => simp [admissible, st]
  | off | standby | shed | thermalOff => simp [admissible, st, h.cause_none (st.trans_ne (by decide))]
  | fault => simp [admissible, st, h.cause_fault.2 st]

/-- R66: the admission that waited is made, or its task is refused. -/
theorem afterAnswer_deferred {c : At Sls} {i : Slot} {o : Origin} (deferred : c.own.slots[i].deferred = some o)
    (orphan : c.own.slots[i].orphanTask = false) :
    let d : At Sls := { c with own := { c.own with slots := setAt c.own.slots i { c.own.slots[i] with deferred := none } } }
    afterAnswer i c = if admissible c.own.slots[i] = true then admission i o d
      else if o = .task then refusePower i .slotChanged 0 d else d := by
  have kept : closeOrphan i c = c := if_neg (by rw [orphan]; exact Bool.false_ne_true)
  have quiet : writeSlot i { c.own.slots[i] with deferred := none } c = _ := writeSlot_unmarked rfl
  intro d
  rw [afterAnswer_eq, kept]
  simp only [sendDeferred, deferred]
  rw [quiet]

theorem exec_slotAnswer {s : State} {i : Slot} {granted : Bool} {amount : Int} {rest : List PbuToSls}
    (hq : s.bus.pbuSls = .claimAnswer i granted amount :: rest) {d : At Sls}
    (answered : claimAnswered i granted amount s.pins.railGood[i]
      { own := s.sls, bus := { s.bus with pbuSls := rest } } = d) :
    exec .slotClaimAnswer s = .next { s with sls := d.own, bus := d.bus } := by
  simp only [exec, execSlotClaimAnswer, hq]
  exact congrArg Host.Outcome.next (onSls_eq answered)

section answers

variable {c : At Sls} (h : c.own.Sound) {i : Slot} {k : ClaimInFlight} (claim : c.own.slots[i].claim = some k)
  (deferred : c.own.slots[i].deferred = none) (orphan : c.own.slots[i].orphanTask = false) (amount : Int)
  (good : Vector Bool 3)
include claim deferred orphan

include h in
/-- R67: granted in the state of the claim. -/
theorem claimAnswered_granted (stands : k.withdrawn = false) (same : k.fromState = c.own.slots[i].state) :
    claimAnswered i true amount good c =
      if k.origin = .task then closePower i .admitted amount (answerPowers i good c) else answerPowers i good c := by
  obtain ⟨waits, orphaned⟩ := answerPowers_waits (c := c) (i := i) good
  rw [claimAnswered_inState claim true amount good stands same, answerInState_granted h claim same]
  split_ifs
  all_goals exact afterAnswer_quiet (waits.trans deferred) (orphaned.trans orphan)

omit claim in
/-- The record once the answer is taken holds nothing that waits. -/
theorem afterAnswer_answerTaken {d : At Sls} (entry : d.own.slots[i] = { c.own.slots[i] with claim := none }) :
    afterAnswer i d = d :=
  afterAnswer_quiet (by rw [entry]; exact deferred) (by rw [entry]; exact orphan)

/-- R67: refused in the state of the claim. -/
theorem claimAnswered_refused (stands : k.withdrawn = false) (same : k.fromState = c.own.slots[i].state) :
    claimAnswered i false amount good c =
      if k.origin = .task then refusePower i .noPower amount (answerTaken i c)
      else { answerTaken i c with bus := c.bus.raise .slotPowerDenied i.val } := by
  rw [claimAnswered_inState claim false amount good stands same, answerInState, if_neg Bool.false_ne_true]
  split_ifs
  all_goals exact afterAnswer_answerTaken deferred orphan (answerTaken_rec i c)

include h in
/-- R67: a wake request has woken the slot in the meantime. -/
theorem claimAnswered_woken (granted : Bool)
    (awake : c.own.slots[i].state = .powering ∨ c.own.slots[i].state = .online) :
    claimAnswered i granted amount good c =
      if k.origin = .task then closePower i .noChange amount (answerTaken i c) else answerTaken i c := by
  rw [claimAnswered_awake claim granted amount good h awake]
  split_ifs
  all_goals exact afterAnswer_answerTaken deferred orphan (answerTaken_rec i c)

include h in
/-- R67: the claim was withdrawn, or the slot is elsewhere without power. -/
theorem claimAnswered_left (granted : Bool) (changed : k.withdrawn = true ∨ k.fromState ≠ c.own.slots[i].state)
    (notRamping : c.own.slots[i].state ≠ .powering) (notOnline : c.own.slots[i].state ≠ .online) :
    claimAnswered i granted amount good c =
      if k.origin = .task then refusePower i .slotChanged amount (claimLeft i k granted c)
      else claimLeft i k granted c := by
  rw [claimAnswered_changed claim granted amount good changed notRamping notOnline,
    answerChanged_eq ((h i).stateRight.claim_from k claim)]
  split_ifs
  all_goals exact afterAnswer_answerTaken deferred orphan (answerTaken_rec i c)

end answers

/-- The answer taken to a withdrawn claim, and the admission behind it taken up. -/
def claimQuiet (i : Slot) (k : ClaimInFlight) (granted : Bool) (c : At Sls) : At Sls where
  own := { c.own with slots := setAt c.own.slots i { c.own.slots[i] with claim := none, deferred := none } }
  bus := (claimLeft i k granted c).bus

@[simp] theorem claimQuiet_rec (i : Slot) (k : ClaimInFlight) (granted : Bool) (c : At Sls) :
    (claimQuiet i k granted c).own.slots[i] = { c.own.slots[i] with claim := none, deferred := none } :=
  setAt_get_self _ _ _

/-- R66, R67: what waited behind a withdrawn AUTO_ON claim. -/
theorem claimAnswered_deferred {c : At Sls} (h : c.own.Sound) {i : Slot} {k : ClaimInFlight} {o : Origin}
    (claim : c.own.slots[i].claim = some k) (auto : k.origin = .autoOn) (withdrawn : k.withdrawn = true)
    (deferred : c.own.slots[i].deferred = some o) (orphan : c.own.slots[i].orphanTask = false)
    (notRamping : c.own.slots[i].state ≠ .powering) (notOnline : c.own.slots[i].state ≠ .online) (granted : Bool)
    (amount : Int) (good : Vector Bool 3) : claimAnswered i granted amount good c =
      if c.own.slots[i].state ≠ .empty ∧ c.own.slots[i].state ≠ .identifying ∧ c.own.slots[i].cause ≠ .inventory then
        admission i o (claimQuiet i k granted c)
      else if o = .task then refusePower i .slotChanged 0 (claimQuiet i k granted c)
      else claimQuiet i k granted c := by
  have left : (claimLeft i k granted c).own.slots[i] = { c.own.slots[i] with claim := none } := answerTaken_rec i c
  have right := (answerTaken_sound h i i).stateRight
  rw [answerTaken_rec] at right
  have due := admissible_iff right notRamping notOnline
  have quiet : ({ claimLeft i k granted c with own := { (claimLeft i k granted c).own with
      slots := setAt (claimLeft i k granted c).own.slots i
        { c.own.slots[i] with claim := none, deferred := none } } } : At Sls) = claimQuiet i k granted c := by
    simp only [claimQuiet, claimLeft, answerTaken, setAt_setAt]
  rw [claimAnswered_changed claim granted amount good (.inl withdrawn) notRamping notOnline,
    answerChanged_eq ((h i).stateRight.claim_from k claim), if_neg (by rw [auto]; decide),
    afterAnswer_deferred (o := o) (by rw [left]; exact deferred) (by rw [left]; exact orphan), left, quiet]
  exact if_congr due rfl rfl

/-- Settles O35: the sweep's answer, each answer to a claim, and the admission behind a withdrawn one. -/
theorem admissionFollowsTheClaimAnswer : Obligations.AdmissionFollowsTheClaimAnswer := by
  unfold Obligations.AdmissionFollowsTheClaimAnswer
  refine ⟨fun s i x v rest h => ?_, fun s i k granted watts rest h => ?_, fun s i k granted watts rest h => ?_,
    fun s i k o v granted watts rest h => ?_⟩
  · intro r hq ident pending inventory withdrawn off origin due
    let c : At Sls := { own := s.sls, bus := { s.bus with ptuSls := rest } }
    have answered := sweepAnswered_eq (c := c) h ident pending
    have entry : (sweptOff i c).own.slots[i] = r.swept := setAt_get_self _ _ _
    have figures : claimFigures r.swept = (v.ws, v.wsb) := by
      simp only [claimFigures, SlotRec.swept, inventory]
    by_cases asked : due
    · have sent := admission_of_withdrawn (c := sweptOff i c) origin (by rw [entry]; exact withdrawn)
      rw [entry] at sent
      rw [exec_sweepDone hq (answered.trans ((if_pos asked).trans sent))]
      simp only [asked, true_and, claimSent, figures, sweptOff, setAt_setAt]
      rfl
    · rw [exec_sweepDone hq (answered.trans (if_neg asked))]
      simp only [asked, false_and, if_false, List.append_nil]
      rfl
  · intro r hq claim auto deferred orphan
    let c : At Sls := { own := s.sls, bus := { s.bus with pbuSls := rest } }
    have other : k.origin ≠ .task := by rw [auto]; decide
    refine ⟨fun stands same granted => ?_, fun stands same refused => ?_, fun changed notRamping notOnline => ?_⟩
    · intro waking todo
      subst granted
      have answered := claimAnswered_granted (c := c) h claim deferred orphan watts s.pins.railGood[i] stands same
      exact ⟨_, exec_slotAnswer hq (answered.trans (if_neg other)), rfl⟩
    · subst refused
      have answered := claimAnswered_refused (c := c) claim deferred orphan watts s.pins.railGood[i] stands same
      exact exec_slotAnswer hq (answered.trans (if_neg other))
    · have answered := claimAnswered_left (c := c) h claim deferred orphan watts s.pins.railGood[i] granted changed
        notRamping notOnline
      exact exec_slotAnswer hq (answered.trans (if_neg other))
  · intro r bus words ends hq claim task deferred orphan
    let c : At Sls := { own := s.sls, bus := { s.bus with pbuSls := rest } }
    have taken : (answerTaken i c).own.slots[i] = { r with claim := none } := answerTaken_rec i c
    refine ⟨fun stands same granted => ?_, fun stands same refused => ?_, fun awake => ?_,
      fun changed notRamping notOnline => ?_⟩
    · intro waking
      subst granted
      have answered := claimAnswered_granted (c := c) h claim deferred orphan watts s.pins.railGood[i] stands same
      exact exec_slotAnswer hq (answered.trans ((if_pos task).trans (closePower_admitted i watts _ c)))
    · subst refused
      have answered := claimAnswered_refused (c := c) claim deferred orphan watts s.pins.railGood[i] stands same
      exact exec_slotAnswer hq (answered.trans ((if_pos task).trans (slsEnd_power taken _ _ watts)))
    · have answered := claimAnswered_woken (c := c) h claim deferred orphan watts s.pins.railGood[i] granted awake
      have cause : r.cause = .none := (h i).stateRight.cause_none fun e => by
        rcases awake with e' | e' <;> cases e.symm.trans e'
      simp only [ends, words, ← cause]
      exact exec_slotAnswer hq (answered.trans ((if_pos task).trans (slsEnd_power taken _ _ watts)))
    · have answered := claimAnswered_left (c := c) h claim deferred orphan watts s.pins.railGood[i] granted changed
        notRamping notOnline
      have left : (claimLeft i k granted c).own.slots[i] = { r with claim := none } := taken
      exact exec_slotAnswer hq (answered.trans ((if_pos task).trans (slsEnd_power left _ _ watts)))
  · intro r hq claim auto withdrawn deferred orphan notRamping notOnline back bus quiet admits
    let c : At Sls := { own := s.sls, bus := { s.bus with pbuSls := rest } }
    have entry : (claimQuiet i k granted c).own.slots[i] = quiet := claimQuiet_rec i k granted c
    have answered := claimAnswered_deferred (c := c) h claim auto withdrawn deferred orphan notRamping notOnline granted
      watts s.pins.railGood[i]
    refine ⟨fun can inventory => ?_, fun cannot => ?_⟩
    · have sent := admission_new (c := claimQuiet i k granted c) (i := i) o (by rw [entry])
      have figures : claimFigures quiet = (v.ws, v.wsb) := by simp only [claimFigures, quiet, inventory]
      rw [entry] at sent
      rw [exec_slotAnswer hq (answered.trans ((if_pos can).trans sent))]
      simp only [claimSent, figures, claimQuiet, setAt_setAt]
      rfl
    · have closed : refusePower i .slotChanged 0 (claimQuiet i k granted c) = _ :=
        slsEnd_power entry (.refused .slotChanged) 0 0
      rw [exec_slotAnswer hq (answered.trans (if_neg cannot))]
      split_ifs
      · rw [closed]
        rfl
      · rfl

end Sys2Proof.Machine

/-! PROOFS. SLOT POWER and SLOT CONFIG (R74 to R77): the word taken, judged by the state of its slot, and ended. -/

namespace Sys2Proof.Machine

open Sys2Proof

/-! ### The end of a task of the SLS -/

@[simp] theorem endTask_slsPtu (b : Bus) (v : Server) (cls : OutcomeClass) (d : Details) :
    (b.endTask v cls d).slsPtu = b.slsPtu := by rw [endTask_frame]
@[simp] theorem endTask_slsPbu (b : Bus) (v : Server) (cls : OutcomeClass) (d : Details) :
    (b.endTask v cls d).slsPbu = b.slsPbu := by rw [endTask_frame]

/-! ### The parameter (R74) -/

theorem slotOfParam_of_slot {w : TaskWord} {i : Slot} (slot : w.bits 0 8 = i.val) : slotOfParam w = some i := by
  unfold slotOfParam
  rw [dif_pos (slot ▸ i.isLt)]
  exact congrArg some (Fin.ext slot)

theorem slotOfParam_of_none {w : TaskWord} (none : 8 ≤ w.bits 0 8) : slotOfParam w = .none :=
  dif_neg (Nat.not_lt.2 none)

/-! ### SLOT POWER ON (R74) -/

section power

variable {c : At Sls} {i : Slot}

/-- R66: what the admission of a task makes of the record. -/
def SlotRec.claimedByTask (r : SlotRec) : SlotRec :=
  match r.claim with
  | none => { r with claim := some { origin := .task, fromState := r.state, withdrawn := false } }
  | some k => if k.withdrawn = true then { r with deferred := some .task }
    else { r with claim := some { k with origin := .task } }

theorem admission_task : admission i .task c = {
    own := { c.own with slots := setAt c.own.slots i c.own.slots[i].claimedByTask }
    bus := { c.bus with
      slsPbu := c.bus.slsPbu ++ (if c.own.slots[i].claim = none then [claimSent i c.own.slots[i]] else []) } } := by
  cases claim : c.own.slots[i].claim with
  | none =>
    rw [admission_new .task claim]
    simp only [SlotRec.claimedByTask, claim, if_true]
  | some k =>
    simp only [reduceCtorEq, if_false, List.append_nil]
    cases withdrawn : k.withdrawn with
    | true =>
      rw [admission_deferred .task claim withdrawn]
      simp only [SlotRec.claimedByTask, claim, withdrawn, if_true]
    | false =>
      rw [admission_takenOver claim withdrawn]
      simp only [SlotRec.claimedByTask, claim, withdrawn, Bool.false_eq_true, if_false]

/-- The states from which a SLOT POWER ON is admitted. -/
theorem slotOn_admitted (h : c.own.Sound) (st : c.own.slots[i].state = .off ∨ c.own.slots[i].state = .shed ∨
      c.own.slots[i].state = .standby ∨ (c.own.slots[i].state = .thermalOff ∧ c.own.hot[zoneOfSlot i] = false) ∨
      (c.own.slots[i].state = .fault ∧ c.own.slots[i].cause ≠ .inventory)) :
    slotOn i c = admission i .task (waitOn i c) := by
  rcases st with st | st | st | ⟨st, cool⟩ | ⟨st, cause⟩
  · simp only [slotOn, st]
  · simp only [slotOn, st]
  · simp only [slotOn, st]
  · simp only [slotOn, st, cool, Bool.false_eq_true, if_false]
  · have broken := (h i).cause_fault.2 st
    simp only [slotOn, st]
    split
    next e => exact absurd e cause
    next e => exact absurd e broken
    next => rfl

theorem slotOn_unread (st : c.own.slots[i].state = .fault) (cause : c.own.slots[i].cause = .inventory) :
    slotOn i c = identify i true (waitOn i c) := by
  simp only [slotOn, st, cause]

theorem slotOn_noSlot (st : c.own.slots[i].state = .empty ∨ c.own.slots[i].state = .identifying) :
    slotOn i c = refusePower i .noSlot 0 c := by
  rcases st with st | st <;> simp only [slotOn, st]

theorem slotOn_noChange (st : c.own.slots[i].state = .powering ∨ c.own.slots[i].state = .online) :
    slotOn i c = closePower i .noChange 0 c := by
  rcases st with st | st <;> simp only [slotOn, st]

theorem slotOn_tooHot (st : c.own.slots[i].state = .thermalOff) (hot : c.own.hot[zoneOfSlot i] = true) :
    slotOn i c = refusePower i .tooHot 0 c := by
  simp only [slotOn, st, hot, if_true]

/-! ### SLOT POWER OFF (R75) -/

theorem slotOff_noSlot (st : c.own.slots[i].state = .empty ∨ c.own.slots[i].state = .identifying) :
    slotOff i c = refusePower i .noSlot 0 c := by
  rcases st with st | st <;> simp only [slotOff, st]

/-- The claim in flight of an admission by auto-on. -/
def SlotRec.autoClaim (r : SlotRec) : Bool := r.claim.any (fun k => k.origin == .autoOn)

/-- R75: the record of a slot in OFF that is switched off. -/
def SlotRec.switchedOff (r : SlotRec) : SlotRec :=
  { r with
    claim := if r.autoClaim then r.claim.map (fun k => { k with withdrawn := true }) else r.claim
    deferred := if r.claim ≠ none ∧ r.deferred = some .autoOn then none else r.deferred }

theorem SlotRec.autoClaim_some {r : SlotRec} {k : ClaimInFlight} (claim : r.claim = some k) :
    r.autoClaim = (k.origin == .autoOn) := by
  rw [SlotRec.autoClaim, claim, Option.any_some]

theorem SlotRec.switchedOff_none {r : SlotRec} (claim : r.claim = none) : r.switchedOff = r := by
  have auto : r.autoClaim = false := by rw [SlotRec.autoClaim, claim, Option.any_none]
  simp only [SlotRec.switchedOff, auto, Bool.false_eq_true, if_false]
  rw [if_neg fun e => e.1 claim]

theorem SlotRec.switchedOff_some {r : SlotRec} {k : ClaimInFlight} (claim : r.claim = some k) : r.switchedOff =
    { r with
      claim := if k.origin = .autoOn then some { k with withdrawn := true } else r.claim
      deferred := if r.deferred = some .autoOn then none else r.deferred } := by
  simp only [SlotRec.switchedOff, SlotRec.autoClaim_some claim, claim, beq_iff_eq, Option.map_some, ne_eq, reduceCtorEq,
    not_false_eq_true, true_and]

/-- R75: SLOT POWER OFF in OFF closes over the record written. -/
theorem slotOff_closes (st : c.own.slots[i].state = .off) :
    slotOff i c = closePower i (if c.own.slots[i].autoClaim then .switchedOff else .noChange) 0
      { c with own := { c.own with slots := setAt c.own.slots i c.own.slots[i].switchedOff } } := by
  cases claim : c.own.slots[i].claim with
  | none =>
    have auto : c.own.slots[i].autoClaim = false := by rw [SlotRec.autoClaim, claim, Option.any_none]
    simp only [slotOff, st, claim]
    rw [SlotRec.switchedOff_none claim, setAt_self, auto]
    rfl
  | some k =>
    have written : writeSlot i c.own.slots[i].switchedOff c = _ := writeSlot_unmarked rfl
    rw [← written, SlotRec.switchedOff_some claim, SlotRec.autoClaim_some claim]
    by_cases auto : k.origin = .autoOn
    · simp only [slotOff, st, claim, auto, beq_self_eq_true, if_true]
    · simp only [slotOff, st, claim, auto, beq_iff_eq, if_false]

theorem slotOff_off (st : c.own.slots[i].state = .off) : slotOff i c = {
    own := { c.own with taskSlot := none, slots := setAt c.own.slots i c.own.slots[i].switchedOff }
    bus := c.bus.closeNormal .sls (details (if c.own.slots[i].autoClaim then 3 else 1)
      (slotStateCode c.own.slots[i].state) 0 (faultCauseCode c.own.slots[i].cause)) } := by
  have code : powerOutcomeCode (if c.own.slots[i].autoClaim then .switchedOff else .noChange) =
      if c.own.slots[i].autoClaim then 3 else 1 := by
    split_ifs <;> rfl
  rw [slotOff_closes st, ← code]
  exact slsEnd_power (r := c.own.slots[i].switchedOff) (setAt_get_self _ _ _) .normal _ 0

/-- R75: every other slot that is identified goes to OFF. -/
theorem slotOff_leaves (identified : c.own.slots[i].state ≠ .empty ∧ c.own.slots[i].state ≠ .identifying)
    (moves : c.own.slots[i].state ≠ .off) :
    slotOff i c = closePower i .switchedOff 0 (goTo i .off .hostOff id c) := by
  cases st : c.own.slots[i].state with
  | empty => exact absurd st identified.1
  | identifying => exact absurd st identified.2
  | off => exact absurd st moves
  | powering | online | standby | shed | thermalOff | fault => simp only [slotOff, st]

end power

/-! ### SLOT CONFIG and BAD_PARAMETER (R74, R76) -/

section parameter

variable {w : TaskWord} {c : At Sls} {i : Slot}

theorem slotPowerOn_on (slot : w.bits 0 8 = i.val) (on : w.bits 8 8 = 1) : slotPowerOn w c = slotOn i c := by
  simp only [slotPowerOn, slotOfParam_of_slot slot, on, if_true]

theorem slotPowerOff_off (slot : w.bits 0 8 = i.val) : slotPowerOff w c = slotOff i c := by
  simp only [slotPowerOff, slotOfParam_of_slot slot]

/-- A direction that is neither ON nor OFF. -/
theorem slotPowerOn_undefined (slot : w.bits 0 8 = i.val) (dir : w.bits 8 8 ≠ 1) : slotPowerOn w c = {
    own := { c.own with taskSlot := none }
    bus := c.bus.refuse .sls .badParameter (details 0 0 0 (faultCauseCode c.own.slots[i].cause)) } := by
  simp only [slotPowerOn, powerBadParameter, slotOfParam_of_slot slot, dir, if_false]
  rfl

/-- A slot above 7: the fault cause among the details is a free word (log entry 7). -/
theorem powerBadParameter_of_none (none : 8 ≤ w.bits 0 8) : powerBadParameter w c = {
    own := { c.own with taskSlot := .none }
    bus := Bus.refuse { c.bus with freeUsed := c.bus.freeUsed + 1 } .sls .badParameter
      { Details.zero with w3 := Config.freeWord c.bus.freeUsed } } := by
  simp only [powerBadParameter, slotOfParam_of_none none]
  rfl

theorem slotConfig_of_none (none : 8 ≤ w.bits 0 8) : slotConfig w c = {
    own := { c.own with taskSlot := .none }
    bus := Bus.refuse { c.bus with freeUsed := c.bus.freeUsed + 4 } .sls .badParameter
      { w0 := Config.freeWord c.bus.freeUsed, w1 := Config.freeWord (c.bus.freeUsed + 1)
        w2 := Config.freeWord (c.bus.freeUsed + 2), w3 := Config.freeWord (c.bus.freeUsed + 3) } } := by
  simp only [slotConfig, slotOfParam_of_none none]
  rfl

theorem bits_of_one (w : TaskWord) (lo : Nat) : (if w.bits lo 1 == 1 then 1 else 0) = w.bits lo 1 := by
  have bit : w.bits lo 1 < 2 := Nat.mod_lt _ (by decide)
  split_ifs with set
  · exact (beq_iff_eq.1 set).symm
  · have := mt beq_iff_eq.2 set
    omega

/-- R76: the record of a slot configured. -/
def SlotRec.configured (w : TaskWord) (r : SlotRec) : SlotRec :=
  { r with priority := min (w.bits 8 8) 7, autoOn := w.bits 16 1 == 1 }

/-- The bus of a slot configured, before the end of the task. -/
def configBus (i : Slot) (w : TaskWord) (c : At Sls) : Bus :=
  { c.bus with
    slsPbu := c.bus.slsPbu ++ (if min (w.bits 8 8) 7 = c.own.slots[i].priority then []
      else [.priority i (min (w.bits 8 8) 7)])
    toSpw := (writeSlot i (c.own.slots[i].configured w) c).bus.toSpw ++ [.slot i] }

theorem slotConfig_of_slot (slot : w.bits 0 8 = i.val) : slotConfig w c = {
    own := { c.own with taskSlot := none, slots := setAt c.own.slots i (c.own.slots[i].configured w) }
    bus := (configBus i w c).closeNormal .sls (details (min (w.bits 8 8) 7) (w.bits 16 1)
      (if 7 < w.bits 8 8 then 1 else 0) (slotStateCode c.own.slots[i].state)) } := by
  have written := writeSlot_bus i (c.own.slots[i].configured w) c
  have sent : Bus.mark (if min (w.bits 8 8) 7 ≠ c.own.slots[i].priority then
      (writeSlot i (c.own.slots[i].configured w) c).bus.sendSlsPbu (.priority i (min (w.bits 8 8) 7))
      else (writeSlot i (c.own.slots[i].configured w) c).bus) (.slot i) = configBus i w c := by
    rw [configBus]
    by_cases same : min (w.bits 8 8) 7 = c.own.slots[i].priority
    · rw [if_neg (not_not.2 same), if_pos same, List.append_nil, written]
      rfl
    · rw [if_pos same, if_neg same, written]
      rfl
  simp only [slotConfig, slotOfParam_of_slot slot, bits_of_one]
  rw [← sent]
  rfl

end parameter

/-! ### The word taken -/

section taken

variable (s : State) (v : Server)

@[simp] theorem takeWord_slsPtu : (s.takeWord v).bus.slsPtu = s.bus.slsPtu := by rw [takeWord_bus]
@[simp] theorem takeWord_slsPbu : (s.takeWord v).bus.slsPbu = s.bus.slsPbu := by rw [takeWord_bus]
@[simp] theorem takeWord_toSpw : (s.takeWord v).bus.toSpw = s.bus.toSpw := by rw [takeWord_bus]
@[simp] theorem takeWord_toAtu : (s.takeWord v).bus.toAtu = s.bus.toAtu := by rw [takeWord_bus]
@[simp] theorem takeWord_toMlc : (s.takeWord v).bus.toMlc = s.bus.toMlc := by rw [takeWord_bus]
@[simp] theorem takeWord_outcomes : (s.takeWord v).bus.outcomes = s.bus.outcomes := by rw [takeWord_bus]
@[simp] theorem takeWord_freeUsed : (s.takeWord v).bus.freeUsed = s.bus.freeUsed := by rw [takeWord_bus]

end taken

/-! ### The commands -/

section commands

variable {s : State} {a : Fin 16} {w : TaskWord} {rest : List (Fin 16 × TaskWord)}
  (hq : s.bus.station .sls = { queue := (a, w) :: rest, service := none })
include hq

theorem exec_powerOn (task : w.is .slotPower = true) (dir : w.bits 8 8 ≠ 2) {d : At Sls}
    (runs : slotPowerOn w { own := s.sls, bus := (s.takeWord .sls).bus } = d) :
    exec .slotPowerOn s = .next { s.takeWord .sls with sls := d.own, bus := d.bus } := by
  have on : directionOff w = false := by simpa [directionOff] using dir
  simp only [exec, execSlotPowerOn, oldestWord_of_front hq, task, on, Bool.not_false, and_self, if_true]
  rw [State.onSls, takeWord_sls, runs]

theorem exec_powerOff (task : w.is .slotPower = true) (dir : w.bits 8 8 = 2) {d : At Sls}
    (runs : slotPowerOff w { own := s.sls, bus := (s.takeWord .sls).bus } = d) :
    exec .slotPowerOff s = .next { s.takeWord .sls with sls := d.own, bus := d.bus } := by
  have off : directionOff w = true := by simpa [directionOff] using dir
  simp only [exec, execSlotPowerOff, oldestWord_of_front hq, task, off, and_self, if_true]
  rw [State.onSls, takeWord_sls, runs]

theorem exec_config (task : w.is .slotConfig = true) {d : At Sls}
    (runs : slotConfig w { own := s.sls, bus := (s.takeWord .sls).bus } = d) :
    exec .slotConfig s = .next { s.takeWord .sls with sls := d.own, bus := d.bus } := by
  simp only [exec, execSlotConfig, oldestWord_of_front hq, task, if_true]
  rw [State.onSls, takeWord_sls, runs]

/-- The outcome of the word just taken, where its task ends on a bus with the same stations. -/
theorem endTask_outcome {b : Bus} (stations : b.stations = (s.takeWord .sls).bus.stations)
    (outcomes : b.outcomes = s.bus.outcomes) (cls : OutcomeClass) (d : Details) :
    (b.endTask .sls cls d).service .sls = none ∧ (b.endTask .sls cls d).outcomes =
      s.bus.outcomes ++ [{ server := .sls, anchor := some a, cls := cls, details := d }] := by
  refine ⟨endTask_service b .sls cls d, ?_⟩
  rw [(endTask_taken cls d (congrArg Station.queue hq) stations).2, outcomes]

/-- R75: SLOT POWER OFF of a slot in POWERING to FAULT. -/
theorem exec_powerOff_leaves (h : s.sls.Sound) {i : Slot} (slot : w.bits 0 8 = i.val) (task : w.is .slotPower = true)
    (off : w.bits 8 8 = 2) (identified : s.sls.slots[i].state ≠ .empty ∧ s.sls.slots[i].state ≠ .identifying)
    (moves : s.sls.slots[i].state ≠ .off) :
    ∃ t, exec .slotPowerOff s = .next t ∧
      t = { s.takeWord .sls with
        sls := { s.sls with
          taskSlot := none
          slots := setAt s.sls.slots i { s.sls.slots[i] with
            state := .off, cause := .none, ramp := none, rampTimer := .stopped, idleTimer := .stopped
            railEn := Vector.replicate 3 false } }
        bus := t.bus } ∧
      t.bus.slsPtu = s.bus.slsPtu ++ [.report i .off .hostOff] ∧
      t.bus.slsPbu = s.bus.slsPbu ++ (if s.sls.slots[i].state = .powering ∨ s.sls.slots[i].state = .online ∨
        s.sls.slots[i].state = .standby then [.slotRelease i] else []) ∧
      t.bus.toAtu = s.bus.toAtu ++ leavingClears i s.sls.slots[i].state ∧
      t.bus.service .sls = none ∧ t.bus.outcomes = s.bus.outcomes ++ [{
        server := .sls, anchor := some a, cls := .normal
        details := details 3 (slotStateCode .off) 0 (faultCauseCode .none) }] := by
  let c : At Sls := { own := s.sls, bus := (s.takeWord .sls).bus }
  have gone := goTo_dropped (c := c) h moves (rfl : poweredState .off = false) .hostOff
  rw [powerDrops_eq i _ rfl, enteringClears_none i (by decide) (by decide), List.append_nil] at gone
  have runs : slotPowerOff w c = _ := (slotPowerOff_off slot).trans ((slotOff_leaves identified moves).trans
    ((congrArg (closePower i .switchedOff 0) gone).trans (slsEnd_power (setAt_get_self _ _ _) .normal 3 0)))
  obtain ⟨free, told⟩ := endTask_outcome hq (b := (goTo i .off .hostOff id c).bus) (by rw [gone])
    (by rw [gone]; exact takeWord_outcomes s .sls) .normal
    (details 3 (slotStateCode .off) 0 (faultCauseCode .none))
  rw [gone] at free told
  refine ⟨_, exec_powerOff hq task off runs, rfl, ?_, ?_, ?_, free, told⟩
  · rw [endTask_slsPtu, ← takeWord_slsPtu s .sls]
  · rw [endTask_slsPbu, ← takeWord_slsPbu s .sls]
  · rw [endTask_toAtu, ← takeWord_toAtu s .sls]

theorem exec_config_taken {i : Slot} (slot : w.bits 0 8 = i.val) (task : w.is .slotConfig = true) :
    let p := min (w.bits 8 8) 7
    let r := s.sls.slots[i]
    ∃ t, exec .slotConfig s = .next t ∧
      t = { s.takeWord .sls with
        sls := { s.sls with
          taskSlot := none, slots := setAt s.sls.slots i { r with priority := p, autoOn := w.bits 16 1 == 1 } }
        bus := t.bus } ∧
      t.bus.slsPbu = s.bus.slsPbu ++ (if p = r.priority then [] else [.priority i p]) ∧
      PageRecord.slot i ∈ t.bus.toSpw ∧
      t.bus.service .sls = none ∧ t.bus.outcomes = s.bus.outcomes ++ [{
        server := .sls, anchor := some a, cls := .normal
        details := details p (w.bits 16 1) (if 7 < w.bits 8 8 then 1 else 0) (slotStateCode r.state) }] := by
  intro p r
  let c : At Sls := { own := s.sls, bus := (s.takeWord .sls).bus }
  have marked : PageRecord.slot i ∈ (configBus i w c).toSpw := List.mem_append_right _ List.mem_cons_self
  have stations : (configBus i w c).stations = (s.takeWord .sls).bus.stations := rfl
  obtain ⟨free, told⟩ := endTask_outcome hq stations (takeWord_outcomes s .sls) .normal
    (details p (w.bits 16 1) (if 7 < w.bits 8 8 then 1 else 0) (slotStateCode r.state))
  refine ⟨_, exec_config hq task (slotConfig_of_slot (c := c) slot), rfl, ?_, ?_, free, told⟩
  · rw [Bus.closeNormal, endTask_slsPbu, ← takeWord_slsPbu s .sls]
    rfl
  · rw [Bus.closeNormal, endTask_toSpw]
    exact marked

end commands

/-- Settles O38: each row of R74 and R75 for the state of the slot, SLOT CONFIG, and the parameters that are refused. -/
theorem slotTasksActByTheState : Obligations.SlotTasksActByTheState := by
  unfold Obligations.SlotTasksActByTheState
  refine ⟨fun s a w rest i h hq slot => ?_, fun s a w rest h hq above => ?_⟩
  · intro r taken ends words
    let c : At Sls := { own := s.sls, bus := taken.bus }
    have right := (h i).stateRight
    refine ⟨fun task on st => ?_, fun task on st cause => ?_, fun x task dir st => ?_, fun task on st => ?_,
      fun task off st => ?_, fun task notOn notOff => ?_, fun task on st hot => ?_,
      fun task off present identified moves => ?_, fun task => ?_⟩
    · intro figures claiming
      have runs : slotPowerOn w c = _ := (slotPowerOn_on slot on).trans ((slotOn_admitted h st).trans admission_task)
      have claimed : r.claimedByTask = claiming := rfl
      have sent : claimSent i r = .slotClaim i figures.1 figures.2 := by
        simp only [claimSent, claimFigures, figures]
        cases r.inventory <;> rfl
      rw [exec_powerOn hq task (by omega) runs]
      simp only [← claimed, ← sent, waitOn, c, taken, takeWord_slsPbu]
      rfl
    · have unpowered : poweredState r.state = false := by rw [st]; rfl
      have runs : slotPowerOn w c = _ := (slotPowerOn_on slot on).trans ((slotOn_unread st cause).trans
        (identify_eq (c := waitOn i c) h unpowered (st.trans_ne (by decide)) true))
      have left : leavingClears i (waitOn i c).own.slots[i].state = leavingClears i .fault := congrArg _ st
      rw [exec_powerOn hq task (by omega) runs, left]
      simp only [waitOn, c, taken, takeWord_slsPtu, takeWord_toSpw, takeWord_toAtu, takeWord_toMlc]
      rfl
    · rcases dir with ⟨rfl, on⟩ | ⟨rfl, off⟩
      · exact exec_powerOn hq task (by omega) ((slotPowerOn_on slot on).trans (slotOn_noSlot st))
      · exact exec_powerOff hq task off ((slotPowerOff_off slot).trans (slotOff_noSlot st))
    · exact exec_powerOn hq task (by omega) ((slotPowerOn_on slot on).trans (slotOn_noChange st))
    · intro auto
      exact exec_powerOff hq task off ((slotPowerOff_off slot).trans (slotOff_off st))
    · exact exec_powerOn hq task notOff (slotPowerOn_undefined slot notOn)
    · have cause := right.cause_none (st.trans_ne (by decide))
      rw [← st, ← cause]
      exact exec_powerOn hq task (by omega) ((slotPowerOn_on slot on).trans (slotOn_tooHot st hot))
    · intro powered
      exact exec_powerOff_leaves hq h slot task off ⟨present, identified⟩ moves
    · intro p
      exact exec_config_taken hq slot task
  · intro taken n refused
    have used : (s.takeWord .sls).bus.freeUsed = n := takeWord_freeUsed s .sls
    refine ⟨fun task => ?_, fun task => ?_⟩
    · have bad := powerBadParameter_of_none (c := { own := s.sls, bus := taken.bus }) above
      rw [used] at bad
      split_ifs with off
      · exact exec_powerOff hq task off (by simpa only [slotPowerOff, slotOfParam_of_none above] using bad)
      · exact exec_powerOn hq task off (by simpa only [slotPowerOn, slotOfParam_of_none above] using bad)
    · have bad := slotConfig_of_none (c := { own := s.sls, bus := taken.bus }) above
      rw [used] at bad
      exact exec_config hq task bad

end Sys2Proof.Machine

/-! PROOFS. The cooling tables: tables written entry by entry, what the operations of the CLC send, and the boost of a zone
(R86, R89, R98). -/

namespace Sys2Proof.Machine

open Sys2Proof

/-! ### Tables written entry by entry -/

section entries

variable {C α β : Type} {n : Nat} {f : C → Fin n → C} {I : C → Prop} {v : C → Vector α n} {g : Fin n → α → α}
  (keeps : ∀ c i, I c → I (f c i)) (entry : ∀ c i, I c → v (f c i) = setAt (v c) i (g i (v c)[i]))

include keeps

theorem foldl_keeps (l : List (Fin n)) {c : C} (hc : I c) : I (l.foldl f c) := by
  induction l generalizing c with
  | nil => exact hc
  | cons i l ih => exact ih (keeps c i hc)

include entry

/-- Where each step rewrites its own entry by the old content of that entry, each entry of the list is rewritten so, and no
other. -/
theorem foldl_entry {l : List (Fin n)} (once : l.Nodup) {c : C} (hc : I c) (k : Fin n) :
    (v (l.foldl f c))[k] = if k ∈ l then g k (v c)[k] else (v c)[k] := by
  induction l generalizing c with
  | nil => rfl
  | cons i l ih =>
    obtain ⟨new, once⟩ := List.nodup_cons.1 once
    rw [List.foldl_cons, ih once (keeps c i hc), entry c i hc, setAt_get]
    by_cases hk : i = k
    · subst hk
      simp [new]
    · simp [hk, Ne.symm hk]

/-- Where each step besides sends what the old content of its entry makes it send, the messages go out in the order of the
list. -/
theorem foldl_sends {q : C → List β} {m : Fin n → α → List β}
    (sends : ∀ c i, I c → q (f c i) = q c ++ m i (v c)[i]) {l : List (Fin n)} (once : l.Nodup) {c : C} (hc : I c) :
    q (l.foldl f c) = q c ++ l.flatMap (fun i => m i (v c)[i]) := by
  induction l generalizing c with
  | nil => simp
  | cons i l ih =>
    obtain ⟨new, once⟩ := List.nodup_cons.1 once
    have later : l.flatMap (fun j => m j (v (f c i))[j]) = l.flatMap (fun j => m j (v c)[j]) :=
      List.flatMap_congr fun j hj => by
        rw [entry c i hc, setAt_get_ne _ _ _ _ fun e => new (by rwa [e])]
    rw [List.foldl_cons, ih once (keeps c i hc), sends c i hc, later, List.flatMap_cons, List.append_assoc]

end entries

/-- A table is changed by its entries alone. -/
theorem table_ext {α : Type} {n : Nat} {v w : Vector α n} (h : ∀ i : Fin n, v[i] = w[i]) : v = w :=
  Vector.ext fun i hi => h ⟨i, hi⟩

/-- A run of steps over distinct items, seen from one of them: the steps before it, its own, the steps after it. -/
theorem foldl_split {C ι : Type} {f : C → ι → C} {R : C → C → Prop} {k : ι} {l : List ι} (refl : ∀ c, R c c)
    (trans : ∀ {a b c}, R a b → R b c → R a c) (others : ∀ c i, i ≠ k → R c (f c i)) (once : l.Nodup) (hk : k ∈ l)
    (c : C) : ∃ d, R c d ∧ R (f d k) (l.foldl f c) := by
  have away (l : List ι) (c : C) (hl : k ∉ l) : R c (l.foldl f c) := by
    induction l generalizing c with
    | nil => exact refl c
    | cons i l ih =>
      obtain ⟨hi, hl⟩ := not_or.1 (mt List.mem_cons.2 hl)
      exact trans (others c i (Ne.symm hi)) (ih _ hl)
  obtain ⟨before, after, rfl⟩ := List.append_of_mem hk
  have apart := (List.nodup_middle.1 once).notMem
  simp only [List.mem_append, not_or] at apart
  refine ⟨before.foldl f c, away before c apart.1, ?_⟩
  rw [List.foldl_append, List.foldl_cons]
  exact away after _ apart.2

/-! ### The geometry of zones, trays and rotors -/

theorem mem_traysOf {z : Fin 3} {j : Fin 6} : j ∈ traysOf z ↔ zoneOfTray j = z := by simp [traysOf]

theorem mem_rotorsOf {j : Fin 6} {k : Fin 12} : k ∈ rotorsOf j ↔ trayOfRotor k = j := by simp [rotorsOf]

theorem traysOf_nodup (z : Fin 3) : (traysOf z).Nodup := (indices_nodup 6).filter _

theorem rotorsOf_nodup (j : Fin 6) : (rotorsOf j).Nodup := (indices_nodup 12).filter _

/-! ### What the operations send -/

/-- The bus goes on with marks, with these alarm requests and with these duty reports: no other channel is touched. -/
def Bus.Sends (alarms : List AlarmRequest) (reports : List DutyReport) (b b' : Bus) : Prop :=
  b' = { b with toSpw := b'.toSpw, toAtu := b.toAtu ++ alarms, clcPbu := b.clcPbu ++ reports }

namespace Bus.Sends

variable {b b' b'' : Bus} {a a' : List AlarmRequest} {r r' : List DutyReport}

theorem refl (b : Bus) : Sends [] [] b b := by simp [Sends]

theorem trans (h : Sends a r b b') (h' : Sends a' r' b' b'') : Sends (a ++ a') (r ++ r') b b'' := by
  unfold Sends at *
  rw [h] at h'
  simpa only [List.append_assoc] using h'

/-- Marks alone before or after. -/
theorem quiet (h : Sends [] [] b b') (h' : Sends a r b' b'') : Sends a r b b'' := h.trans h'

theorem quiet_after (h : Sends a r b b') (h' : Sends [] [] b' b'') : Sends a r b b'' := by
  simpa only [List.append_nil] using h.trans h'

theorem toAtu (h : Sends a r b b') : b'.toAtu = b.toAtu ++ a := by rw [h]

theorem clcPbu (h : Sends a r b b') : b'.clcPbu = b.clcPbu ++ r := by rw [h]

theorem toMlc (h : Sends a r b b') : b'.toMlc = b.toMlc := by rw [h]

theorem clcSls (h : Sends a r b b') : b'.clcSls = b.clcSls := by rw [h]

theorem service (h : Sends a r b b') (v : Server) : b'.service v = b.service v := by rw [h]; rfl

theorem outcomes (h : Sends a r b b') : b'.outcomes = b.outcomes := by rw [h]

theorem markIf (b : Bus) (x : Bool) (p : PageRecord) : Sends [] [] b (b.markIf x p) := by
  rw [markIf_eq]
  simp [Sends]

theorem raise (b : Bus) (k : AlarmKind) (o : Nat) :
    Sends [{ raised := true, kind := k, object := o }] [] b (b.raise k o) := by
  simp [Sends, Bus.raise]

theorem clearAlarm (b : Bus) (k : AlarmKind) (o : Nat) :
    Sends [{ raised := false, kind := k, object := o }] [] b (b.clearAlarm k o) := by
  simp [Sends, Bus.clearAlarm]

theorem report (b : Bus) (x : DutyReport) : Sends [] [x] b (b.sendClcPbu x) := by
  simp [Sends, Bus.sendClcPbu]

end Bus.Sends

section writes

variable (c : At Clc)

theorem writeSensor_sends (n : Fin 8) (r : SensorRec) : Bus.Sends [] [] c.bus (writeSensor n r c).bus := .markIf _ _ _

theorem writeZone_sends (z : Fin 3) (r : ZoneRec) : Bus.Sends [] [] c.bus (writeZone z r c).bus := .markIf _ _ _

theorem writeTray_sends (j : Fin 6) (r : TrayRec) : Bus.Sends [] [] c.bus (writeTray j r c).bus := .markIf _ _ _

theorem writeRotor_sends (k : Fin 12) (r : RotorRec) : Bus.Sends [] [] c.bus (writeRotor k r c).bus := .markIf _ _ _

end writes

/-! ### Duty reports (R98) -/

/-- The duty report of a tray as it stands. -/
def Clc.dutyReport (b : Clc) (j : Fin 6) : DutyReport :=
  { tray := j, present := b.trays[j].state != .absent, fmax := b.trays[j].fmax, duty := b.trays[j].duty }

@[simp] theorem sendDuty_own (c : At Clc) (j : Fin 6) : (sendDuty c j).own = c.own := rfl

theorem sendDuty_sends (c : At Clc) (j : Fin 6) : Bus.Sends [] [c.own.dutyReport j] c.bus (sendDuty c j).bus :=
  .report _ _

@[simp] theorem foldl_sendDuty_own (l : List (Fin 6)) (c : At Clc) : (l.foldl sendDuty c).own = c.own := by
  induction l generalizing c with
  | nil => rfl
  | cons j l ih => exact ih _

/-- The reports of a run of trays go out in its order. -/
theorem foldl_sendDuty_sends (l : List (Fin 6)) (c : At Clc) :
    Bus.Sends [] (l.map c.own.dutyReport) c.bus (l.foldl sendDuty c).bus := by
  induction l generalizing c with
  | nil => exact .refl _
  | cons j l ih => exact (sendDuty_sends c j).trans (ih (sendDuty c j))

/-! ### The boost of a zone (R89) -/

theorem boostCondition_iff {b : Clc} {z : Fin 3} : boostCondition b z = true ↔ b.mustBoost z := by
  simp [boostCondition, Clc.mustBoost, mem_traysOf, mem_rotorsOf, or_assoc]

/-- The condition reads the states of the zone's trays and rotors, and nothing else. -/
theorem boostCondition_congr {b b' : Clc} {z : Fin 3}
    (trays : ∀ j, zoneOfTray j = z → b'.trays[j].state = b.trays[j].state)
    (rotors : ∀ k, zoneOfTray (trayOfRotor k) = z → b'.rotors[k].state = b.rotors[k].state) :
    boostCondition b' z = boostCondition b z := by
  rw [Bool.eq_iff_iff, boostCondition_iff, boostCondition_iff]
  refine exists_congr fun j => and_congr_right fun hj => ?_
  rw [trays j hj]
  refine or_congr_right (or_congr_right (exists_congr fun k => and_congr_right fun hk => ?_))
  rw [rotors k (hk ▸ hj)]

/-- The boost of the zone is to begin: its condition holds and it is not boosted. -/
def boostBegins (b : Clc) (z : Fin 3) : Bool := boostCondition b z && !b.zones[z].boosted

/-- A present tray at full duty, an ABSENT one as it is. -/
def TrayRec.driven (r : TrayRec) : TrayRec := if r.state = .absent then r else { r with duty := 100, pwmLatch := 1000 }

@[simp] theorem TrayRec.driven_state (r : TrayRec) : r.driven.state = r.state := by
  unfold driven
  split_ifs <;> rfl

@[simp] theorem TrayRec.driven_rmax (r : TrayRec) : r.driven.rmax = r.rmax := by
  unfold driven
  split_ifs <;> rfl

@[simp] theorem TrayRec.driven_fmax (r : TrayRec) : r.driven.fmax = r.fmax := by
  unfold driven
  split_ifs <;> rfl

/-- A tray that is at full duty already stays as it is. -/
theorem TrayRec.driven_of_full {r : TrayRec} (duty : r.duty = 100) (latch : r.pwmLatch = 1000) : r.driven = r := by
  unfold driven
  split_ifs
  · rfl
  · rw [← duty, ← latch]

theorem fullDuty_own (c : At Clc) (j : Fin 6) :
    (fullDuty c j).own = { c.own with trays := setAt c.own.trays j c.own.trays[j].driven } := by
  unfold fullDuty TrayRec.driven
  split_ifs
  · rw [setAt_self]
  · rfl

theorem fullDuty_sends (c : At Clc) (j : Fin 6) : Bus.Sends [] [] c.bus (fullDuty c j).bus := by
  unfold fullDuty
  split_ifs
  · exact .refl _
  · exact writeTray_sends _ _ _

theorem foldl_fullDuty_own (l : List (Fin 6)) (c : At Clc) :
    (l.foldl fullDuty c).own = { c.own with trays := (l.foldl fullDuty c).own.trays } := by
  induction l generalizing c with
  | nil => rfl
  | cons j l ih =>
    rw [List.foldl_cons, ih, fullDuty_own]

theorem foldl_fullDuty_sends (l : List (Fin 6)) (c : At Clc) : Bus.Sends [] [] c.bus (l.foldl fullDuty c).bus := by
  induction l generalizing c with
  | nil => exact .refl _
  | cons j l ih => exact (fullDuty_sends c j).quiet (ih _)

theorem foldl_fullDuty_tray (z : Fin 3) (c : At Clc) (j : Fin 6) :
    ((traysOf z).foldl fullDuty c).own.trays[j] = if zoneOfTray j = z then c.own.trays[j].driven else c.own.trays[j] := by
  have driven := foldl_entry (I := fun _ => True) (v := fun c : At Clc => c.own.trays) (g := fun _ r => r.driven)
    (fun _ _ _ => trivial) (fun c j _ => by rw [fullDuty_own]) (traysOf_nodup z) (c := c) trivial j
  rw [driven]
  exact if_congr mem_traysOf rfl rfl

/-- What the look at the condition leaves in the zone's record. -/
def ZoneRec.looked (r : ZoneRec) (must : Bool) : ZoneRec :=
  { r with boosted := must, duty := if must && !r.boosted then 100 else r.duty }

/-- After the look the mark of the zone is its condition, its duty is 100 when the boost has begun, and nothing else changes
but duties of trays. -/
theorem boostLook_own (z : Fin 3) (c : At Clc) : (boostLook z c).own = { c.own with
    zones := setAt c.own.zones z (c.own.zones[z].looked (boostCondition c.own z))
    trays := (boostLook z c).own.trays } := by
  have same {x : Bool} (h : c.own.zones[z].boosted = x) : c.own.zones[z].looked x = c.own.zones[z] := by
    rw [← h]
    simp [ZoneRec.looked]
  unfold boostLook
  cases must : boostCondition c.own z <;> cases boosted : c.own.zones[z].boosted <;>
    simp only [if_true, if_false, Bool.false_eq_true]
  · rw [same boosted, setAt_self]
  · simp [ZoneRec.looked]
  · simp only [beginBoost, foldl_sendDuty_own]
    rw [foldl_fullDuty_own]
    simp only [writeZone_own, ZoneRec.looked, boosted, Bool.not_false, Bool.and_true, if_true]
  · rw [same boosted, setAt_self]

/-- The trays of a zone whose boost begins are driven at full duty. -/
theorem boostLook_tray (z : Fin 3) (c : At Clc) (j : Fin 6) : (boostLook z c).own.trays[j] =
    if boostBegins c.own z = true ∧ zoneOfTray j = z then c.own.trays[j].driven else c.own.trays[j] := by
  unfold boostLook boostBegins
  cases must : boostCondition c.own z <;> cases boosted : c.own.zones[z].boosted <;>
    simp only [if_true, if_false, Bool.false_eq_true, Bool.not_true, Bool.not_false, Bool.and_true, Bool.and_false,
      false_and, true_and]
  · rfl
  · simp only [beginBoost, foldl_sendDuty_own]
    exact foldl_fullDuty_tray z _ j

/-- The trays of a zone whose boost begins are reported, with the duty they have then. -/
theorem boostLook_sends (z : Fin 3) (c : At Clc) : Bus.Sends []
    (if boostBegins c.own z = true then (traysOf z).map (boostLook z c).own.dutyReport else []) c.bus
    (boostLook z c).bus := by
  unfold boostLook boostBegins
  cases must : boostCondition c.own z <;> cases boosted : c.own.zones[z].boosted <;>
    simp only [if_true, if_false, Bool.false_eq_true, Bool.not_true, Bool.not_false, Bool.and_true, Bool.and_false]
  · exact .refl _
  · exact writeZone_sends _ _ _
  · simp only [beginBoost, foldl_sendDuty_own]
    exact ((writeZone_sends _ _ _).quiet (foldl_fullDuty_sends _ _)).quiet (foldl_sendDuty_sends _ _)
  · exact .refl _

/-- A tray at full duty stays as it is. -/
theorem boostLook_tray_of_full (z : Fin 3) {c : At Clc} {j : Fin 6} (duty : c.own.trays[j].duty = 100)
    (latch : c.own.trays[j].pwmLatch = 1000) : (boostLook z c).own.trays[j] = c.own.trays[j] := by
  rw [boostLook_tray, TrayRec.driven_of_full duty latch, ite_self]

section look

variable (z : Fin 3) (c : At Clc)

@[simp] theorem boostLook_profile : (boostLook z c).own.profile = c.own.profile := by rw [boostLook_own]
@[simp] theorem boostLook_mask : (boostLook z c).own.mask = c.own.mask := by rw [boostLook_own]
@[simp] theorem boostLook_sensors : (boostLook z c).own.sensors = c.own.sensors := by rw [boostLook_own]
@[simp] theorem boostLook_rotors : (boostLook z c).own.rotors = c.own.rotors := by rw [boostLook_own]

theorem boostLook_zones :
    (boostLook z c).own.zones = setAt c.own.zones z (c.own.zones[z].looked (boostCondition c.own z)) := by
  rw [boostLook_own]

theorem boostLook_trayState (j : Fin 6) : (boostLook z c).own.trays[j].state = c.own.trays[j].state := by
  rw [boostLook_tray]
  split_ifs
  · exact TrayRec.driven_state _
  · rfl

theorem boostLook_trayRmax (j : Fin 6) : (boostLook z c).own.trays[j].rmax = c.own.trays[j].rmax := by
  rw [boostLook_tray]
  split_ifs
  · exact TrayRec.driven_rmax _
  · rfl

theorem boostLook_trayFmax (j : Fin 6) : (boostLook z c).own.trays[j].fmax = c.own.trays[j].fmax := by
  rw [boostLook_tray]
  split_ifs
  · exact TrayRec.driven_fmax _
  · rfl

/-- A tray's report after the look differs from that before in the duty alone. -/
theorem boostLook_dutyReport (j : Fin 6) : (boostLook z c).own.dutyReport j =
    { tray := j, present := c.own.trays[j].state != .absent, fmax := c.own.trays[j].fmax
      duty := (boostLook z c).own.trays[j].duty } := by
  rw [Clc.dutyReport, boostLook_trayState, boostLook_trayFmax]

variable {z c}

/-- Where no boost begins the trays stand. -/
theorem boostLook_trays_of_not_begins (h : boostBegins c.own z = false) : (boostLook z c).own.trays = c.own.trays :=
  table_ext fun j => by rw [boostLook_tray, h]; simp

theorem boostLook_sends_of_not_begins (h : boostBegins c.own z = false) :
    Bus.Sends [] [] c.bus (boostLook z c).bus := by
  simpa [h] using boostLook_sends z c

end look

end Sys2Proof.Machine

/-! PROOFS. Sound cooling in parts (R81 to R83, R85, R88 to R92, R94, R97, R100), and the writes and the looks at the boost that
keep them. -/

namespace Sys2Proof.Machine

open Sys2Proof

/-! ### A sound CLC in parts -/

/-- What a sound CLC holds apart from the boost marks and the rotors. -/
structure Clc.Regulated (c : Clc) : Prop where
  profile_order : ∀ z : Fin 3, c.profile[z].tlow < c.profile[z].thigh ∧ c.profile[z].twarn < c.profile[z].tcrit
  profile_duty : ∀ z : Fin 3, 20 ≤ c.profile[z].dmin ∧ c.profile[z].dmin ≤ c.profile[z].dmax ∧ c.profile[z].dmax ≤ 100
  sensor_mask : ∀ n : Fin 8, c.sensors[n].state = .absent ↔ c.mask.getLsbD n.val = false
  boosted_duty : ∀ z : Fin 3, c.zones[z].boosted = true → c.zones[z].duty = 100
  zone_duty : ∀ z : Fin 3, c.profile[z].dmin ≤ c.zones[z].duty ∧ c.zones[z].duty ≤ 100
  tray_duty : ∀ j : Fin 6, c.zones[zoneOfTray j].duty ≤ c.trays[j].duty ∧ c.trays[j].duty ≤ 100
  tray_full : ∀ j : Fin 6, c.trays[j].state ≠ .running → c.trays[j].duty = 100
  latch_right : ∀ j : Fin 6, c.trays[j].pwmLatch = 10 * c.trays[j].duty
  hold_timer : ∀ z : Fin 3, c.zones[z].holdTimer ≠ .stopped ↔ c.zones[z].thermal = .holding

/-- A tray of a boosted zone is at full duty (R90). -/
theorem Clc.Regulated.duty_of_boosted {c : Clc} (h : c.Regulated) {j : Fin 6}
    (boosted : c.zones[zoneOfTray j].boosted = true) : c.trays[j].duty = 100 := by
  have duty := h.tray_duty j
  have zone := h.boosted_duty _ boosted
  omega

/-- The boost mark of a zone is the condition of R89. -/
def Clc.BoostRight (c : Clc) (z : Fin 3) : Prop := c.zones[z].boosted = boostCondition c z

/-- The states of a rotor that is supervised (R97). -/
def RotorState.Supervised (st : RotorState) : Prop := st = .ok ∨ st = .slow ∨ st = .stalled

/-- A rotor goes with the state of its tray (R92, R94, R97). -/
def RotorRec.Follows (r : RotorRec) (st : TrayState) : Prop :=
  (match st with
    | .absent | .identifying => r.state = .absent
    | .spinup => r.state = .spinup
    | .running => r.state.Supervised) ∧
  (r.armed = true ↔ st = .running)

theorem Clc.sound_iff {c : Clc} :
    c.Sound ↔ c.Regulated ∧ (∀ z, c.BoostRight z) ∧ ∀ k : Fin 12, c.rotors[k].Follows c.trays[trayOfRotor k].state := by
  have marks : (∀ z, c.BoostRight z) ↔ ∀ z : Fin 3, c.zones[z].boosted = true ↔ c.mustBoost z :=
    forall_congr' fun z => by rw [← boostCondition_iff, ← Bool.eq_iff_iff]; rfl
  rw [marks]
  constructor
  · intro h
    exact ⟨⟨h.profile_order, h.profile_duty, h.sensor_mask, h.boosted_duty, h.zone_duty, h.tray_duty, h.tray_full,
      h.latch_right, h.hold_timer⟩, h.boosted_right, fun k => ⟨h.rotor_tray k, h.rotor_armed k⟩⟩
  · rintro ⟨h, boosts, follows⟩
    exact ⟨h.profile_order, h.profile_duty, h.sensor_mask, boosts, h.boosted_duty, h.zone_duty, h.tray_duty, h.tray_full,
      h.latch_right, fun k => (follows k).1, fun k => (follows k).2, h.hold_timer⟩

namespace Clc.Sound

variable {c : Clc} (h : c.Sound)

include h

theorem regulated : c.Regulated := (sound_iff.1 h).1
theorem boosts (z : Fin 3) : c.BoostRight z := (sound_iff.1 h).2.1 z
theorem follows (k : Fin 12) : c.rotors[k].Follows c.trays[trayOfRotor k].state := (sound_iff.1 h).2.2 k

/-- A supervised rotor is one of a RUNNING tray. -/
theorem running_of_supervised {k : Fin 12} (st : c.rotors[k].state.Supervised) :
    c.trays[trayOfRotor k].state = .running := by
  have rotor := (h.follows k).1
  by_contra still
  cases tray : c.trays[trayOfRotor k].state <;> rw [tray] at rotor still
  case running => exact still rfl
  all_goals
    rw [rotor] at st
    exact absurd st (by simp [RotorState.Supervised])

end Clc.Sound

/-- The regulated part holds and each zone but x has its boost mark right: x is the zone at which a look is due. -/
structure Clc.SettledBut (x : Option (Fin 3)) (c : Clc) : Prop where
  regulated : c.Regulated
  boosts : ∀ z, some z ≠ x → c.BoostRight z

theorem Clc.Sound.settled {c : Clc} (h : c.Sound) : c.SettledBut none := ⟨h.regulated, fun z _ => h.boosts z⟩

theorem Clc.SettledBut.weaken {c : Clc} (h : c.SettledBut none) (x : Option (Fin 3)) : c.SettledBut x :=
  ⟨h.regulated, fun z _ => h.boosts z (by simp)⟩

theorem Clc.SettledBut.sound {c : Clc} (h : c.SettledBut none)
    (follows : ∀ k : Fin 12, c.rotors[k].Follows c.trays[trayOfRotor k].state) : c.Sound :=
  sound_iff.2 ⟨h.regulated, fun z => h.boosts z (by simp), follows⟩

/-! ### What the condition reads (R89) -/

section condition

variable {z : Fin 3} {c : At Clc}

theorem boostCondition_writeRotor_ne {k : Fin 12} (r : RotorRec) (h : zoneOfTray (trayOfRotor k) ≠ z) :
    boostCondition (writeRotor k r c).own z = boostCondition c.own z := by
  refine boostCondition_congr (fun _ _ => rfl) fun i hi => ?_
  rw [writeRotor_own, setAt_get_ne]
  rintro rfl
  exact h hi

theorem boostCondition_writeTray_ne {j : Fin 6} (r : TrayRec) (h : zoneOfTray j ≠ z) :
    boostCondition (writeTray j r c).own z = boostCondition c.own z := by
  refine boostCondition_congr (fun i hi => ?_) fun _ _ => rfl
  rw [writeTray_own, setAt_get_ne]
  rintro rfl
  exact h hi

/-- The look changes no condition. -/
theorem boostCondition_boostLook (z x : Fin 3) (c : At Clc) :
    boostCondition (boostLook z c).own x = boostCondition c.own x :=
  boostCondition_congr (fun j _ => boostLook_trayState z c j) fun _ _ => by rw [boostLook_rotors]

end condition

/-! ### The look at the boost (R89) -/

theorem looked_duty_of_not_begins {b : Clc} {z : Fin 3} (h : boostBegins b z = false) :
    (b.zones[z].looked (boostCondition b z)).duty = b.zones[z].duty := by
  simp only [boostBegins] at h
  simp only [ZoneRec.looked, h, Bool.false_eq_true, if_false]

theorem looked_duty_of_begins {b : Clc} {z : Fin 3} (h : boostBegins b z = true) :
    (b.zones[z].looked (boostCondition b z)).duty = 100 := by
  simp only [boostBegins] at h
  simp only [ZoneRec.looked, h, if_true]

/-- An ABSENT tray of a regulated CLC is at full duty already, so that every tray driven is at full duty. -/
theorem Clc.Regulated.driven_duty {c : Clc} (h : c.Regulated) (j : Fin 6) : c.trays[j].driven.duty = 100 := by
  unfold TrayRec.driven
  split_ifs with absent
  · exact h.tray_full j (by rw [absent]; decide)
  · rfl

theorem Clc.Regulated.driven_latch {c : Clc} (h : c.Regulated) (j : Fin 6) : c.trays[j].driven.pwmLatch = 1000 := by
  have duty := h.driven_duty j
  unfold TrayRec.driven at duty ⊢
  split_ifs with absent
  · rw [if_pos absent] at duty
    rw [h.latch_right, duty]
  · rfl

theorem Clc.Regulated.boostLook {c : At Clc} (h : c.own.Regulated) (z : Fin 3) : (boostLook z c).own.Regulated := by
  have zones (x : Fin 3) : (Machine.boostLook z c).own.zones[x] =
      if z = x then c.own.zones[z].looked (boostCondition c.own z) else c.own.zones[x] := by
    rw [boostLook_zones, setAt_get]
  have zoneDuty (x : Fin 3) : (Machine.boostLook z c).own.zones[x].duty =
      if boostBegins c.own z = true ∧ x = z then 100 else c.own.zones[x].duty := by
    rw [zones]
    by_cases at_z : z = x
    · subst at_z
      cases begins : boostBegins c.own z
      · simpa using looked_duty_of_not_begins begins
      · simpa using looked_duty_of_begins begins
    · simp [at_z, Ne.symm at_z]
  have trayDuty (j : Fin 6) : (Machine.boostLook z c).own.trays[j].duty =
      if boostBegins c.own z = true ∧ zoneOfTray j = z then 100 else c.own.trays[j].duty := by
    rw [boostLook_tray]
    split_ifs
    · exact h.driven_duty j
    · rfl
  refine ⟨?_, ?_, ?_, fun x boosted => ?_, fun x => ?_, fun j => ?_, fun j moving => ?_, fun j => ?_, fun x => ?_⟩
  · simpa only [boostLook_profile] using h.profile_order
  · simpa only [boostLook_profile] using h.profile_duty
  · simpa only [boostLook_sensors, boostLook_mask] using h.sensor_mask
  · rw [zoneDuty]
    split_ifs with at_begin
    · rfl
    · refine h.boosted_duty x ?_
      rw [zones] at boosted
      split_ifs at boosted with at_z
      · subst at_z
        have must : boostCondition c.own z = true := boosted
        simpa [boostBegins, must] using at_begin
      · exact boosted
  · rw [zoneDuty, boostLook_profile]
    have range := h.profile_duty x
    split_ifs
    · omega
    · exact h.zone_duty x
  · rw [zoneDuty, trayDuty]
    split_ifs
    · simp
    · exact h.tray_duty j
  · rw [boostLook_trayState] at moving
    rw [trayDuty]
    split_ifs
    · rfl
    · exact h.tray_full j moving
  · rw [trayDuty, boostLook_tray]
    split_ifs
    · exact h.driven_latch j
    · exact h.latch_right j
  · rw [zones]
    split_ifs with at_z
    · subst at_z
      exact h.hold_timer z
    · exact h.hold_timer x

theorem Clc.Regulated.writeRotor {c : At Clc} (h : c.own.Regulated) (k : Fin 12) (r : RotorRec) :
    (writeRotor k r c).own.Regulated :=
  ⟨h.profile_order, h.profile_duty, h.sensor_mask, h.boosted_duty, h.zone_duty, h.tray_duty, h.tray_full, h.latch_right,
    h.hold_timer⟩

/-! ### The look at a zone that must be boosted -/

section must

variable {z : Fin 3} {c : At Clc} (regulated : c.own.Regulated) (must : boostCondition c.own z = true)

include regulated must

theorem boostLook_zones_of_must : (boostLook z c).own.zones =
    setAt c.own.zones z { c.own.zones[z] with boosted := true, duty := 100 } := by
  have looked : c.own.zones[z].looked true = { c.own.zones[z] with boosted := true, duty := 100 } := by
    unfold ZoneRec.looked
    split_ifs with begins
    · rfl
    · have boosted : c.own.zones[z].boosted = true := by simpa using begins
      rw [regulated.boosted_duty z boosted]
  rw [boostLook_zones, must, looked]

/-- Every tray of the zone ends at full duty, whether the boost begins now or stood already. -/
theorem boostLook_tray_of_must (j : Fin 6) : (boostLook z c).own.trays[j] =
    if zoneOfTray j = z then c.own.trays[j].driven else c.own.trays[j] := by
  by_cases here : zoneOfTray j = z
  · subst here
    rw [if_pos rfl]
    cases boosted : c.own.zones[zoneOfTray j].boosted with
    | false => rw [boostLook_tray, if_pos ⟨by rw [boostBegins, must, boosted]; rfl, rfl⟩]
    | true =>
      have full : c.own.trays[j].duty = 100 := regulated.duty_of_boosted boosted
      have latch : c.own.trays[j].pwmLatch = 1000 := by rw [regulated.latch_right, full]
      rw [boostLook_tray_of_full _ full latch, TrayRec.driven_of_full full latch]
  · rw [if_neg here, boostLook_tray, if_neg fun begins => here begins.2]

omit regulated in
theorem boostLook_sends_of_must : Bus.Sends [] (if c.own.zones[z].boosted = true then [] else
    (traysOf z).map (boostLook z c).own.dutyReport) c.bus (boostLook z c).bus := by
  have begins : boostBegins c.own z = !c.own.zones[z].boosted := by rw [boostBegins, must, Bool.true_and]
  have told := boostLook_sends z c
  simp only [begins, Bool.not_eq_true', ← Bool.not_eq_true, ite_not] at told
  exact told

end must

/-! ### Marks kept right -/

theorem boostLook_boostRight_self (z : Fin 3) (c : At Clc) : (boostLook z c).own.BoostRight z := by
  rw [Clc.BoostRight, boostCondition_boostLook, boostLook_zones, setAt_get_self]
  rfl

theorem Clc.BoostRight.boostLook {z x : Fin 3} {c : At Clc} (h : c.own.BoostRight x) : (boostLook z c).own.BoostRight x := by
  by_cases at_z : z = x
  · exact at_z ▸ boostLook_boostRight_self z c
  · rw [BoostRight, boostCondition_boostLook, boostLook_zones, setAt_get_ne _ _ _ _ at_z]
    exact h

namespace Clc.SettledBut

variable {c : At Clc} {x : Option (Fin 3)}

theorem boostLook (h : c.own.SettledBut x) (z : Fin 3) : (boostLook z c).own.SettledBut x :=
  ⟨h.regulated.boostLook z, fun y hy => (h.boosts y hy).boostLook⟩

/-- The look that was due settles the CLC. -/
theorem look {z : Fin 3} (h : c.own.SettledBut (some z)) : (Machine.boostLook z c).own.SettledBut none := by
  refine ⟨h.regulated.boostLook z, fun y _ => ?_⟩
  by_cases at_z : y = z
  · exact at_z ▸ boostLook_boostRight_self y c
  · exact (h.boosts y (by simpa using at_z)).boostLook

theorem writeRotor (h : c.own.SettledBut x) (k : Fin 12) (r : RotorRec)
    (due : some (zoneOfTray (trayOfRotor k)) = x) : (writeRotor k r c).own.SettledBut x := by
  refine ⟨h.regulated.writeRotor k r, fun z hz => (h.boosts z hz).trans ?_⟩
  exact (boostCondition_writeRotor_ne r fun e => hz (due ▸ congrArg some e.symm)).symm

/-- A rotor moved, with the look at its zone, leaves nothing due that was not due before. -/
theorem moveRotor (h : c.own.SettledBut x) (k : Fin 12) (r : RotorRec) : (moveRotor k r c).own.SettledBut x := by
  refine ⟨(h.regulated.writeRotor k r).boostLook _, fun z hz => ?_⟩
  by_cases here : zoneOfTray (trayOfRotor k) = z
  · exact here ▸ boostLook_boostRight_self _ _
  · exact BoostRight.boostLook ((h.boosts z hz).trans (boostCondition_writeRotor_ne r here).symm)

/-- A tray written with a duty of its range, full unless RUNNING, makes a look at its zone due. -/
theorem writeTray (h : c.own.SettledBut x) {j : Fin 6} {r : TrayRec} (due : some (zoneOfTray j) = x)
    (low : c.own.zones[zoneOfTray j].duty ≤ r.duty) (high : r.duty ≤ 100) (full : r.state ≠ .running → r.duty = 100) :
    (writeTray j r c).own.SettledBut x := by
  obtain ⟨reg, boosts⟩ := h
  have written (i : Fin 6) (P : TrayRec → Prop) (new : i = j → P { r with pwmLatch := 10 * r.duty })
      (old : P c.own.trays[i]) : P (Machine.writeTray j r c).own.trays[i] := by
    rw [writeTray_own, setAt_get]
    split_ifs with here
    · exact new here.symm
    · exact old
  refine ⟨⟨reg.profile_order, reg.profile_duty, reg.sensor_mask, reg.boosted_duty, reg.zone_duty,
    fun i => written i (fun t => c.own.zones[zoneOfTray i].duty ≤ t.duty ∧ t.duty ≤ 100)
      (by rintro rfl; exact ⟨low, high⟩) (reg.tray_duty i),
    fun i => written i (fun t => t.state ≠ .running → t.duty = 100) (fun _ => full) (reg.tray_full i),
    fun i => written i (fun t => t.pwmLatch = 10 * t.duty) (fun _ => rfl) (reg.latch_right i),
    reg.hold_timer⟩, fun z hz => (boosts z hz).trans ?_⟩
  exact (boostCondition_writeTray_ne r fun e => hz (due ▸ congrArg some e.symm)).symm

end Clc.SettledBut

namespace Clc.Sound

variable {c : At Clc} (h : c.own.Sound)

include h

theorem writeRotor {k : Fin 12} {r : RotorRec} (state : r.state = c.own.rotors[k].state)
    (armed : r.armed = c.own.rotors[k].armed) : (writeRotor k r c).own.Sound := by
  have same (i : Fin 12) : (Machine.writeRotor k r c).own.rotors[i].state = c.own.rotors[i].state ∧
      (Machine.writeRotor k r c).own.rotors[i].armed = c.own.rotors[i].armed := by
    rw [writeRotor_own, setAt_get]
    split_ifs with here
    · exact here ▸ ⟨state, armed⟩
    · exact ⟨rfl, rfl⟩
  obtain ⟨reg, boosts, follows⟩ := sound_iff.1 h
  have condition (z : Fin 3) : boostCondition (Machine.writeRotor k r c).own z = boostCondition c.own z :=
    boostCondition_congr (fun _ _ => rfl) fun i _ => (same i).1
  refine sound_iff.2 ⟨reg.writeRotor k r, fun z => (boosts z).trans (condition z).symm, fun i => ?_⟩
  have rotor := follows i
  simp only [RotorRec.Follows] at rotor ⊢
  rw [(same i).1, (same i).2]
  exact rotor

/-- A supervised rotor moved to another supervised state. -/
theorem moveRotor {k : Fin 12} {r : RotorRec} (old : c.own.rotors[k].state.Supervised) (new : r.state.Supervised)
    (armed : r.armed = c.own.rotors[k].armed) : (moveRotor k r c).own.Sound := by
  refine (h.settled.moveRotor k r).sound fun i => ?_
  have rotors : (Machine.moveRotor k r c).own.rotors = setAt c.own.rotors k r := boostLook_rotors _ _
  have tray : (Machine.moveRotor k r c).own.trays[trayOfRotor i].state = c.own.trays[trayOfRotor i].state :=
    boostLook_trayState _ _ _
  rw [tray, rotors, setAt_get]
  split_ifs with here
  · subst here
    rw [h.running_of_supervised old]
    exact ⟨new, armed ▸ (h.running_of_supervised old ▸ (h.follows k).2)⟩
  · exact h.follows i

/-- A zone written with its boost mark and duty as they were. -/
theorem writeZone {z : Fin 3} {r : ZoneRec} (boosted : r.boosted = c.own.zones[z].boosted)
    (duty : r.duty = c.own.zones[z].duty) (hold : r.holdTimer ≠ .stopped ↔ r.thermal = .holding) :
    (writeZone z r c).own.Sound := by
  have written (x : Fin 3) (P : ZoneRec → Prop) (new : x = z → P r) (old : P c.own.zones[x]) :
      P (Machine.writeZone z r c).own.zones[x] := by
    rw [writeZone_own, setAt_get]
    split_ifs with here
    · exact new here.symm
    · exact old
  exact { h with
    boosted_right := fun x => written x (fun t => t.boosted = true ↔ c.own.mustBoost x)
      (by rintro rfl; rw [boosted]; exact h.boosted_right x) (h.boosted_right x)
    boosted_duty := fun x => written x (fun t => t.boosted = true → t.duty = 100)
      (by rintro rfl; rw [boosted, duty]; exact h.boosted_duty x) (h.boosted_duty x)
    zone_duty := fun x => written x (fun t => c.own.profile[x].dmin ≤ t.duty ∧ t.duty ≤ 100)
      (by rintro rfl; rw [duty]; exact h.zone_duty x) (h.zone_duty x)
    tray_duty := fun j => written (zoneOfTray j) (fun t => t.duty ≤ c.own.trays[j].duty ∧ c.own.trays[j].duty ≤ 100)
      (fun e => by rw [duty, ← e]; exact h.tray_duty j) (h.tray_duty j)
    hold_timer := fun x => written x (fun t => t.holdTimer ≠ .stopped ↔ t.thermal = .holding) (fun _ => hold)
      (h.hold_timer x) }

/-- A sensor written that is ABSENT exactly if it was. -/
theorem writeSensor {n : Fin 8} {r : SensorRec} (state : r.state = .absent ↔ c.own.sensors[n].state = .absent) :
    (writeSensor n r c).own.Sound :=
  { h with
    sensor_mask := fun i => by
      rw [writeSensor_own, setAt_get]
      split_ifs with here
      · exact here ▸ state.trans (h.sensor_mask n)
      · exact h.sensor_mask i }

/-- A tray written with its state and its duty as they were. -/
theorem writeTray {j : Fin 6} {r : TrayRec} (state : r.state = c.own.trays[j].state)
    (duty : r.duty = c.own.trays[j].duty) : (writeTray j r c).own.Sound := by
  have same (i : Fin 6) : (Machine.writeTray j r c).own.trays[i].state = c.own.trays[i].state := by
    rw [writeTray_own, setAt_get]
    split_ifs with here
    · exact here ▸ state
    · rfl
  have settled : (Machine.writeTray j r c).own.SettledBut (some (zoneOfTray j)) :=
    (h.settled.weaken _).writeTray rfl (duty ▸ (h.tray_duty j).1) (duty ▸ (h.tray_duty j).2)
      (state ▸ duty ▸ h.tray_full j)
  have condition (z : Fin 3) : boostCondition (Machine.writeTray j r c).own z = boostCondition c.own z :=
    boostCondition_congr (fun i _ => same i) fun _ _ => rfl
  refine sound_iff.2 ⟨settled.regulated, fun z => (h.boosts z).trans (condition z).symm, fun k => ?_⟩
  rw [same]
  exact h.follows k

end Clc.Sound

end Sys2Proof.Machine

/-! PROOFS. Each operation of the CLC between ticks leaves sound cooling sound (R84, R89, R92 to R97, R101). -/

namespace Sys2Proof.Machine

open Sys2Proof

/-! ### Rotors moved, one after another -/

@[simp] theorem moveRotor_rotors (k : Fin 12) (r : RotorRec) (c : At Clc) :
    (moveRotor k r c).own.rotors = setAt c.own.rotors k r := boostLook_rotors _ _

theorem moveRotor_trayState (k : Fin 12) (r : RotorRec) (c : At Clc) (j : Fin 6) :
    (moveRotor k r c).own.trays[j].state = c.own.trays[j].state := boostLook_trayState _ _ j

/-- The step at a rotor moves it to what g makes of its record, and it may ask something of the ATU before. -/
def MovesRotors (f : At Clc → Fin 12 → At Clc) (g : RotorRec → RotorRec) : Prop :=
  ∀ c k, ∃ b, f c k = moveRotor k (g c.own.rotors[k]) { c with bus := b }

namespace MovesRotors

variable {f : At Clc → Fin 12 → At Clc} {g : RotorRec → RotorRec} (hf : MovesRotors f g)

include hf

theorem step_keeps {I : Clc → Prop} (moved : ∀ c k r, I c.own → I (moveRotor k r c).own) (c : At Clc) (k : Fin 12)
    (hc : I c.own) : I (f c k).own := by
  obtain ⟨b, e⟩ := hf c k
  rw [e]
  exact moved { c with bus := b } k _ hc

theorem keeps {I : Clc → Prop} (moved : ∀ c k r, I c.own → I (moveRotor k r c).own) (l : List (Fin 12)) {c : At Clc}
    (hc : I c.own) : I (l.foldl f c).own :=
  foldl_keeps (I := fun d : At Clc => I d.own) (hf.step_keeps moved) l hc

/-- The rotors of the tray are moved, and no other. -/
theorem rotor (j : Fin 6) (c : At Clc) (k : Fin 12) : ((rotorsOf j).foldl f c).own.rotors[k] =
    if trayOfRotor k = j then g c.own.rotors[k] else c.own.rotors[k] := by
  have moved := foldl_entry (I := fun _ => True) (v := fun c : At Clc => c.own.rotors) (f := f) (g := fun _ => g)
    (fun _ _ _ => trivial) (fun c k _ => by obtain ⟨b, e⟩ := hf c k; rw [e, moveRotor_rotors]) (rotorsOf_nodup j)
    (c := c) trivial k
  rw [moved]
  exact if_congr mem_rotorsOf rfl rfl

theorem trayState (l : List (Fin 12)) (c : At Clc) (j : Fin 6) :
    (l.foldl f c).own.trays[j].state = c.own.trays[j].state :=
  hf.keeps (I := fun b => b.trays[j].state = c.own.trays[j].state)
    (fun d k r h => (moveRotor_trayState k r d j).trans h) l rfl

theorem settled {x : Option (Fin 3)} (l : List (Fin 12)) {c : At Clc} (h : c.own.SettledBut x) :
    (l.foldl f c).own.SettledBut x :=
  hf.keeps (I := Clc.SettledBut x) (fun _ k r h => h.moveRotor k r) l h

/-- The profile and the sensors stand. -/
theorem controls (l : List (Fin 12)) (c : At Clc) : (l.foldl f c).own.profile = c.own.profile ∧
    (l.foldl f c).own.sensors = c.own.sensors ∧ (l.foldl f c).own.mask = c.own.mask :=
  hf.keeps (I := fun b => b.profile = c.own.profile ∧ b.sensors = c.own.sensors ∧ b.mask = c.own.mask)
    (fun _ _ _ h => ⟨(boostLook_profile _ _).trans h.1, (boostLook_sensors _ _).trans h.2.1,
      (boostLook_mask _ _).trans h.2.2⟩) l ⟨rfl, rfl, rfl⟩

end MovesRotors

/-- R94: a rotor of a tray that enters SPINUP. -/
def RotorRec.spun (r : RotorRec) : RotorRec :=
  { r with state := .spinup, slowRun := 0, goodRun := 0, windowDuty := none, stallTimer := .running 500, armed := false }

theorem spinRotor_moves : MovesRotors spinRotor RotorRec.spun := fun c _ => ⟨c.bus, rfl⟩

/-- R94: a rotor judged by its stall timer when the spin-up ends. -/
def RotorRec.spinEnded (r : RotorRec) : RotorRec :=
  { r with state := if r.stallTimer ≠ .stopped ∧ r.stallTimer ≠ .runOut then .ok else .stalled, armed := true }

theorem endSpin_eq (c : At Clc) (k : Fin 12) : endSpin c k = moveRotor k c.own.rotors[k].spinEnded
    { c with bus := if c.own.rotors[k].spinEnded.state = .stalled then c.bus.raise .fanStalled k.val else c.bus } := by
  unfold endSpin
  dsimp only
  generalize c.own.rotors[k] = r
  cases timer : r.stallTimer <;> simp [RotorRec.spinEnded, timer]

theorem endSpin_moves : MovesRotors endSpin RotorRec.spinEnded := fun c k => ⟨_, endSpin_eq c k⟩

/-- R92: a rotor of a lost tray. -/
def RotorRec.lost (r : RotorRec) : RotorRec :=
  { r with state := .absent, stallTimer := .stopped, armed := false, slowRun := 0, goodRun := 0, windowDuty := none }

@[simp] theorem loseRotor_own (c : At Clc) (k : Fin 12) :
    (loseRotor c k).own = { c.own with rotors := setAt c.own.rotors k c.own.rotors[k].lost } := rfl

theorem foldl_loseRotor_rotor (j : Fin 6) (c : At Clc) (k : Fin 12) : ((rotorsOf j).foldl loseRotor c).own.rotors[k] =
    if trayOfRotor k = j then c.own.rotors[k].lost else c.own.rotors[k] := by
  have lost := foldl_entry (I := fun _ => True) (v := fun c : At Clc => c.own.rotors) (f := loseRotor)
    (g := fun _ => RotorRec.lost) (fun _ _ _ => trivial) (fun _ _ _ => rfl) (rotorsOf_nodup j) (c := c) trivial k
  rw [lost]
  exact if_congr mem_rotorsOf rfl rfl

theorem foldl_loseRotor_own (l : List (Fin 12)) (c : At Clc) :
    (l.foldl loseRotor c).own = { c.own with rotors := (l.foldl loseRotor c).own.rotors } := by
  induction l generalizing c with
  | nil => rfl
  | cons k l ih => rw [List.foldl_cons, ih, loseRotor_own]

/-! ### Rotors that follow their trays -/

theorem writeTray_state (j : Fin 6) (r : TrayRec) (c : At Clc) (i : Fin 6) :
    (writeTray j r c).own.trays[i].state = if i = j then r.state else c.own.trays[i].state := by
  rw [writeTray_own, setAt_get]
  by_cases here : j = i
  · simp [here]
  · simp [here, Ne.symm here]

/-- One tray takes a new state and its rotors follow it; the others stand. -/
theorem Clc.Sound.follows_tray {b b' : Clc} (h : b.Sound) {j : Fin 6} {st : TrayState} {g : RotorRec → RotorRec}
    (trays : ∀ i : Fin 6, b'.trays[i].state = if i = j then st else b.trays[i].state)
    (rotors : ∀ k : Fin 12, b'.rotors[k] = if trayOfRotor k = j then g b.rotors[k] else b.rotors[k])
    (new : ∀ k : Fin 12, trayOfRotor k = j → (g b.rotors[k]).Follows st) (k : Fin 12) :
    b'.rotors[k].Follows b'.trays[trayOfRotor k].state := by
  rw [trays, rotors]
  split_ifs with here
  · exact new k here
  · exact h.follows k

theorem RotorRec.spun_follows (r : RotorRec) : r.spun.Follows .spinup := ⟨rfl, by simp [spun]⟩

theorem RotorRec.lost_follows (r : RotorRec) : r.lost.Follows .absent := ⟨rfl, by simp [lost]⟩

theorem RotorRec.spinEnded_follows (r : RotorRec) : r.spinEnded.Follows .running := by
  refine ⟨?_, iff_of_true rfl rfl⟩
  simp only [spinEnded, RotorState.Supervised]
  split_ifs <;> simp

/-! ### Rotors (R95 to R97) -/

section sound

variable {c : At Clc} (h : c.own.Sound)

include h

theorem judgeRotor_sound (k : Fin 12) (good : Bool) {r : RotorRec} (state : r.state = c.own.rotors[k].state)
    (armed : r.armed = c.own.rotors[k].armed) : (judgeRotor k good r c).own.Sound := by
  have written {r' : RotorRec} (st : r'.state = r.state) (ar : r'.armed = r.armed) : (writeRotor k r' c).own.Sound :=
    h.writeRotor (st.trans state) (ar.trans armed)
  have moved {r' : RotorRec} {b : Bus} (old : r.state.Supervised) (new : r'.state.Supervised) (ar : r'.armed = r.armed) :
      (moveRotor k r' { c with bus := b }).own.Sound :=
    Clc.Sound.moveRotor (c := { c with bus := b }) h (state ▸ old) new (ar.trans armed)
  unfold judgeRotor
  split
  next st =>
    split_ifs
    · exact moved (.inl st) (.inr (.inl rfl)) rfl
    · exact written rfl rfl
  next => exact written rfl rfl
  next => exact written rfl rfl
  next => exact written rfl rfl
  next st =>
    split_ifs
    · exact moved (.inr (.inl st)) (.inl rfl) rfl
    · exact written rfl rfl
  next st =>
    split_ifs
    · exact moved (.inr (.inr st)) (.inl rfl) rfl
    · exact written rfl rfl
  next => exact written rfl rfl
  next => exact written rfl rfl

theorem closeWindow_sound (k : Fin 12) : (closeWindow c k).own.Sound := by
  unfold closeWindow
  dsimp only
  split
  · exact h.writeRotor rfl rfl
  · exact judgeRotor_sound h k _ rfl rfl

theorem openWindow_sound (k : Fin 12) : (openWindow c k).own.Sound := h.writeRotor rfl rfl

theorem tachEdge_sound (k : Fin 12) : (tachEdge k c).own.Sound := h.writeRotor rfl rfl

theorem stallExpired_sound (k : Fin 12) : (stallExpired k c).own.Sound := by
  have stalled {r' : RotorRec} {b : Bus} (old : c.own.rotors[k].state.Supervised) (new : r'.state = .stalled)
      (ar : r'.armed = c.own.rotors[k].armed) : (moveRotor k r' { c with bus := b }).own.Sound :=
    Clc.Sound.moveRotor (c := { c with bus := b }) h old (.inr (.inr new)) ar
  unfold stallExpired
  dsimp only
  split
  · split_ifs
    · exact h.writeRotor rfl rfl
    · split
      next st => exact stalled (.inl st) rfl rfl
      next st => exact stalled (.inr (.inl st)) rfl rfl
      all_goals exact h.writeRotor rfl rfl
  · exact h

/-! ### Trays (R92 to R94) -/

theorem enterSpinup_sound (j : Fin 6) (r : TrayRec) : (enterSpinup j r c).own.Sound := by
  let c₁ := writeTray j
    { r with state := .spinup, tryNo := none, retryTimer := .stopped, duty := 100, spinTimer := .running 5000 } c
  have written : c₁.own.SettledBut (some (zoneOfTray j)) :=
    (h.settled.weaken _).writeTray rfl (h.zone_duty _).2 le_rfl fun _ => rfl
  refine (spinRotor_moves.settled (rotorsOf j) written).look.sound
    (h.follows_tray (j := j) (g := RotorRec.spun) (fun i => ?_) (fun k => ?_) fun _ _ => RotorRec.spun_follows _)
  · rw [boostLook_trayState, spinRotor_moves.trayState, writeTray_state]
  · rw [boostLook_rotors]
    exact spinRotor_moves.rotor j c₁ k

theorem spinupExpired_sound (j : Fin 6) : (spinupExpired j c).own.Sound := by
  unfold spinupExpired
  dsimp only
  split
  next spins _ =>
    have written : (writeTray j { c.own.trays[j] with state := .running, spinTimer := .stopped } c).own.SettledBut
        (some (zoneOfTray j)) :=
      (h.settled.weaken _).writeTray rfl (h.tray_duty j).1 (h.tray_duty j).2 fun moving => absurd rfl moving
    refine (endSpin_moves.settled (rotorsOf j) written.look).sound
      (h.follows_tray (j := j) (g := RotorRec.spinEnded) (fun i => ?_) (fun k => ?_) fun _ _ => RotorRec.spinEnded_follows _)
    · rw [endSpin_moves.trayState, boostLook_trayState, writeTray_state]
    · rw [endSpin_moves.rotor, boostLook_rotors]
      rfl
  next => exact h

/-- A lost tray with its rotors, before the boost of its zone (R92). -/
def trayRemoved (j : Fin 6) (c : At Clc) : At Clc :=
  (rotorsOf j).foldl loseRotor (writeTray j
    { c.own.trays[j] with
      state := .absent, source := .none, duty := 100, spinTimer := .stopped, tryNo := none
      retryTimer := .stopped, epoch := c.own.trays[j].epoch + 1 } c)

omit h in
/-- A lost tray boosts its zone, and the zone's trays are reported. -/
theorem trayLost_eq (j : Fin 6) (c : At Clc) : trayLost j c = (traysOf (zoneOfTray j)).foldl sendDuty
    (boostLook (zoneOfTray j)
      { own := (trayRemoved j c).own, bus := (trayRemoved j c).bus.raise .fanTrayAbsent j.val }) := rfl

theorem trayRemoved_settled (j : Fin 6) : (trayRemoved j c).own.SettledBut (some (zoneOfTray j)) := by
  have step {d : At Clc} {k : Fin 12} (hk : k ∈ rotorsOf j) (hd : d.own.SettledBut (some (zoneOfTray j))) :
      (loseRotor d k).own.SettledBut (some (zoneOfTray j)) :=
    hd.writeRotor k d.own.rotors[k].lost (by rw [mem_rotorsOf.1 hk])
  refine List.foldlRecOn (rotorsOf j) loseRotor (motive := fun d => d.own.SettledBut (some (zoneOfTray j))) ?_
    fun d hd k hk => step hk hd
  exact (h.settled.weaken _).writeTray rfl (h.zone_duty _).2 le_rfl fun _ => rfl

theorem trayLost_sound (j : Fin 6) : (trayLost j c).own.Sound := by
  rw [trayLost_eq, foldl_sendDuty_own]
  refine (Clc.SettledBut.look (c :=
    { own := _, bus := (trayRemoved j c).bus.raise .fanTrayAbsent j.val }) (trayRemoved_settled h j)).sound
    (h.follows_tray (j := j) (g := RotorRec.lost) (fun i => ?_) (fun k => ?_) fun _ _ => RotorRec.lost_follows _)
  · rw [boostLook_trayState, trayRemoved, foldl_loseRotor_own]
    exact writeTray_state j _ c i
  · rw [boostLook_rotors]
    exact foldl_loseRotor_rotor j _ k

theorem trayGained_sound (j : Fin 6) : (trayGained j c).own.Sound := by
  unfold trayGained
  dsimp only
  split_ifs with absent
  · refine (((h.settled.weaken _).writeTray rfl (h.zone_duty _).2 le_rfl fun _ => rfl).look).sound
      (h.follows_tray (j := j) (st := .identifying) (g := id) (fun i => ?_) (fun k => ?_) fun k here => ?_)
    · rw [boostLook_trayState, writeTray_state]
    · rw [boostLook_rotors]
      exact (ite_self _).symm
    · subst here
      have rotor := h.follows k
      rw [absent] at rotor
      exact ⟨rotor.1, iff_of_false (fun armed => absurd (rotor.2.1 armed) (by decide)) (by decide)⟩
  · exact h

theorem trayTry_sound (j : Fin 6) (tag : Nat) (o : LineOutcome) : (trayTry j tag o c).own.Sound := by
  have spins (r : TrayRec) (b : Bus) : (enterSpinup j r { c with bus := b }).own.Sound :=
    enterSpinup_sound (c := { c with bus := b }) h j r
  unfold trayTry
  dsimp only
  split
  · exact h
  · split
    · exact h
    · split
      · exact spins _ _
      · split
        · exact h.writeTray rfl rfl
        · exact spins _ _

theorem trayRetry_sound (j : Fin 6) : (trayRetry j c).own.Sound := by
  unfold trayRetry
  dsimp only
  split
  · exact h.writeTray rfl rfl
  · exact h

/-! ### Sensors (R84) -/

omit h in
/-- A read neither fits a sensor nor removes it. -/
theorem sensorStep_absent (o : LineOutcome) (r : SensorRec) : (sensorStep o r).state = .absent ↔ r.state = .absent := by
  unfold sensorStep
  cases st : r.state <;> cases goodReading o <;> simp [st]

theorem sensorAnswered_sound (n : Fin 8) (o : LineOutcome) : (sensorAnswered n o c).own.Sound := by
  unfold sensorAnswered
  dsimp only
  split_ifs
  · exact h.writeSensor Iff.rfl
  · exact h.writeSensor (sensorStep_absent o { c.own.sensors[n] with readOutstanding := false })

theorem requestRead_sound (n : Fin 8) : (requestRead c n).own.Sound := by
  unfold requestRead
  dsimp only
  split_ifs
  · exact h.writeSensor Iff.rfl
  · exact h

/-! ### Thermal alarms (R99 to R101) -/

theorem judgeHigh_sound (z : Fin 3) : (judgeHigh c z).own.Sound := by
  have marked (high : Bool) : (writeZone z { c.own.zones[z] with high := high } c).own.Sound :=
    h.writeZone rfl rfl (h.hold_timer z)
  unfold judgeHigh
  dsimp only
  split
  · exact h
  · split_ifs
    · exact marked true
    · exact marked false
    · exact h

theorem setThermal_sound (z : Fin 3) {st : ThermalState} {hold : Timer} (runs : hold ≠ .stopped ↔ st = .holding) :
    (setThermal z st hold c).own.Sound := h.writeZone rfl rfl runs

theorem judgeCritical_sound (z : Fin 3) : (judgeCritical c z).own.Sound := by
  have held : (setThermal z .holding (.running 10000) c).own.Sound := setThermal_sound h z (by simp)
  have critical : (setThermal z .critical .stopped c).own.Sound := setThermal_sound h z (by simp)
  have ended : (endCritical z c).own.Sound := setThermal_sound h z (by simp)
  unfold judgeCritical
  dsimp only
  split
  next => exact h
  next => exact h
  next => split_ifs; exacts [held, h]
  next => split_ifs; exacts [held, ended, h]
  next => split_ifs; exacts [h, ended, critical]
  next => split_ifs; exacts [h, ended, critical]

theorem holdExpired_sound (z : Fin 3) : (holdExpired z c).own.Sound := by
  unfold holdExpired
  dsimp only
  split
  · split_ifs
    · exact setThermal_sound (c := sendOrders z c) h z (by simp)
    · exact setThermal_sound h z (by simp)
  · exact h

end sound

end Sys2Proof.Machine

/-! PROOFS. The control cycle stage by stage (R86): what each stage makes of its records, and that the cycle leaves sound
cooling sound (R87, R88, R90). -/

namespace Sys2Proof.Machine

open Sys2Proof

/-! ### The stages (R86) -/

/-- Stage 1: every tach window closed and judged. -/
def windowsClosed (c : At Clc) : At Clc := (indices 12).foldl closeWindow c

/-- Stage 2: every Tz computed. -/
def temperaturesSet (c : At Clc) : At Clc := (indices 3).foldl setTz c

/-- Stage 3, the zones, given their duties before the tick. -/
def zoneDutiesSet (previous : Vector Nat 3) (c : At Clc) : At Clc := (indices 3).foldl (setZoneDuty previous) c

/-- Stage 3, the trays. -/
def trayDutiesSet (c : At Clc) : At Clc := (indices 6).foldl setTrayDuty c

/-- Stage 4: the windows that are judged opened. -/
def windowsOpened (c : At Clc) : At Clc := (indices 12).foldl openWindow c

/-- Stage 5: the six trays reported. -/
def traysReported (c : At Clc) : At Clc := (indices 6).foldl sendDuty c

/-- Stage 6, TEMP_HIGH. -/
def highsJudged (c : At Clc) : At Clc := (indices 3).foldl judgeHigh c

/-- Stage 6, TEMP_CRITICAL. -/
def criticalsJudged (c : At Clc) : At Clc := (indices 3).foldl judgeCritical c

/-- Stage 7: the sensors read. -/
def sensorsAsked (c : At Clc) : At Clc := (indices 8).foldl requestRead c

/-- The duties that the zones hold before a tick. -/
def Clc.zoneDuties (b : Clc) : Vector Nat 3 := b.zones.map (·.duty)

@[simp] theorem Clc.zoneDuties_get (b : Clc) (z : Fin 3) : b.zoneDuties[z] = b.zones[z].duty := by simp [zoneDuties]

/-- Stages 1 to 3: the windows judged and every duty set. -/
def dutiesSet (c : At Clc) : At Clc :=
  trayDutiesSet (zoneDutiesSet c.own.zoneDuties (temperaturesSet (windowsClosed c)))

theorem controlCycle_eq (c : At Clc) : controlCycle c =
    sensorsAsked (criticalsJudged (highsJudged (traysReported (windowsOpened (dutiesSet c))))) := rfl

/-! ### Stages 2 and 3 (R87, R88, R90) -/

theorem zoneTemperature_congr {b b' : Clc} (sensors : b'.sensors = b.sensors) (z : Fin 3) :
    zoneTemperature b' z = zoneTemperature b z := by
  unfold zoneTemperature
  rw [sensors]

theorem temperaturesSet_own (c : At Clc) :
    (temperaturesSet c).own = { c.own with zones := (temperaturesSet c).own.zones } := by
  refine foldl_keeps (I := fun d : At Clc => d.own = { c.own with zones := d.own.zones }) (fun d z hd => ?_) _ rfl
  simp only [setTz, writeZone_own]
  rw [hd]

theorem temperaturesSet_zone (c : At Clc) (z : Fin 3) :
    (temperaturesSet c).own.zones[z] = { c.own.zones[z] with tz := zoneTemperature c.own z } := by
  have set := foldl_entry (I := fun d : At Clc => d.own.sensors = c.own.sensors) (v := fun d : At Clc => d.own.zones)
    (f := setTz) (g := fun z r => { r with tz := zoneTemperature c.own z }) (fun _ _ h => h)
    (fun d z h => by simp only [setTz, writeZone_own, zoneTemperature_congr h]) (indices_nodup 3) (c := c) rfl z
  exact set.trans (if_pos (mem_indices z))

theorem zoneDutiesSet_own (previous : Vector Nat 3) (c : At Clc) :
    (zoneDutiesSet previous c).own = { c.own with zones := (zoneDutiesSet previous c).own.zones } := by
  refine foldl_keeps (I := fun d : At Clc => d.own = { c.own with zones := d.own.zones }) (fun d z hd => ?_) _ rfl
  simp only [setZoneDuty, writeZone_own]
  rw [hd]

/-- The target of a zone reads the zone's own record alone of the zones. -/
theorem targetDuty_congr {b b' : Clc} {z : Fin 3} (same : b' = { b with zones := b'.zones })
    (tz : b'.zones[z].tz = b.zones[z].tz) : targetDuty b' z = targetDuty b z := by
  unfold targetDuty
  rw [tz, same]

/-- Each zone duty is 100 with the boost, and follows its target by the rate limit without (R88). -/
theorem zoneDutiesSet_zone (previous : Vector Nat 3) (c : At Clc) (z : Fin 3) :
    (zoneDutiesSet previous c).own.zones[z] = { c.own.zones[z] with
      duty := if c.own.zones[z].boosted = true then 100 else limitDuty (targetDuty c.own z) previous[z] } := by
  have set := foldl_entry
    (I := fun d : At Clc => d.own = { c.own with zones := d.own.zones } ∧
      ∀ x : Fin 3, d.own.zones[x].tz = c.own.zones[x].tz)
    (v := fun d : At Clc => d.own.zones) (f := setZoneDuty previous)
    (g := fun z r => { r with duty := if r.boosted = true then 100 else limitDuty (targetDuty c.own z) previous[z] })
    (fun d z h => ⟨by simp only [setZoneDuty, writeZone_own]; rw [h.1], fun x => ?_⟩)
    (fun d z h => by simp only [setZoneDuty, writeZone_own, targetDuty_congr h.1 (h.2 z)]) (indices_nodup 3) (c := c)
    ⟨rfl, fun _ => rfl⟩ z
  · exact set.trans (if_pos (mem_indices z))
  · simp only [setZoneDuty, writeZone_own]
    by_cases here : z = x
    · subst here
      rw [setAt_get_self]
      exact h.2 z
    · rw [setAt_get_ne _ _ _ _ here]
      exact h.2 x

/-- The duty that a tick gives a tray (R90). -/
def TrayRec.tickDuty (r : TrayRec) (zone : ZoneRec) : Nat :=
  if r.state = .running ∧ zone.boosted = false then zone.duty else 100

theorem trayDutiesSet_own (c : At Clc) :
    (trayDutiesSet c).own = { c.own with trays := (trayDutiesSet c).own.trays } := by
  refine foldl_keeps (I := fun d : At Clc => d.own = { c.own with trays := d.own.trays }) (fun d j hd => ?_) _ rfl
  simp only [setTrayDuty, writeTray_own]
  rw [hd]

theorem trayDutiesSet_tray (c : At Clc) (j : Fin 6) : (trayDutiesSet c).own.trays[j] = { c.own.trays[j] with
    duty := c.own.trays[j].tickDuty c.own.zones[zoneOfTray j]
    pwmLatch := 10 * c.own.trays[j].tickDuty c.own.zones[zoneOfTray j] } := by
  have set := foldl_entry (I := fun d : At Clc => d.own.zones = c.own.zones) (v := fun d : At Clc => d.own.trays)
    (f := setTrayDuty)
    (g := fun j r => { r with
      duty := r.tickDuty c.own.zones[zoneOfTray j], pwmLatch := 10 * r.tickDuty c.own.zones[zoneOfTray j] })
    (fun _ _ h => h)
    (fun d j h => by simp only [setTrayDuty, writeTray_own, TrayRec.tickDuty, h, Bool.not_eq_true'])
    (indices_nodup 6) (c := c) rfl j
  exact set.trans (if_pos (mem_indices j))

/-! ### The target lies in the zone's range (R88) -/

theorem ceilDiv_mul_le {x d b : Nat} (h : x ≤ b) (hb : 0 < b) : ceilDiv (x * d) b ≤ d := by
  have bound : x * d ≤ b * d := Nat.mul_le_mul_right d h
  have : (x * d + b - 1) / b < d + 1 := Nat.div_lt_of_lt_mul (by rw [Nat.mul_add]; omega)
  unfold ceilDiv
  omega

theorem rampDuty_range {p : ZoneProfile} (duty : p.dmin ≤ p.dmax) (x : Int) :
    p.dmin ≤ rampDuty p x ∧ rampDuty p x ≤ p.dmax := by
  unfold rampDuty
  split_ifs with low high
  · exact ⟨le_rfl, duty⟩
  · exact ⟨duty, le_rfl⟩
  · have part := ceilDiv_mul_le (x := (x - p.tlow).toNat) (d := p.dmax - p.dmin) (b := (p.thigh - p.tlow).toNat)
      (by omega) (by omega)
    omega

theorem targetDuty_range {b : Clc} {z : Fin 3} (duty : b.profile[z].dmin ≤ b.profile[z].dmax) :
    b.profile[z].dmin ≤ targetDuty b z ∧ targetDuty b z ≤ b.profile[z].dmax := by
  unfold targetDuty
  dsimp only
  split
  · split_ifs
    · exact ⟨duty, le_rfl⟩
    · exact rampDuty_range duty _
  · exact ⟨duty, le_rfl⟩

theorem limitDuty_range {d previous lo hi : Nat} (low : lo ≤ d) (high : d ≤ hi) (before : previous ≤ hi) :
    lo ≤ limitDuty d previous ∧ limitDuty d previous ≤ hi := by
  unfold limitDuty
  split_ifs <;> omega

/-! ### Every stage keeps the cooling sound -/

section sound

variable {c : At Clc} (h : c.own.Sound)

include h

theorem temperaturesSet_sound : (temperaturesSet c).own.Sound :=
  foldl_keeps (f := setTz) (I := fun d : At Clc => d.own.Sound) (fun _ z hd => hd.writeZone rfl rfl (hd.hold_timer z)) _ h

/-- Stage 3 from a sound CLC whose zones had duties of their range before the tick. -/
theorem tickDuties_sound {previous : Vector Nat 3} (before : ∀ z : Fin 3, previous[z] ≤ 100) :
    (trayDutiesSet (zoneDutiesSet previous c)).own.Sound := by
  have zoneSet := zoneDutiesSet_zone previous c
  have zoneRest := zoneDutiesSet_own previous c
  generalize zoneDutiesSet previous c = d at zoneSet zoneRest ⊢
  have zones : (trayDutiesSet d).own.zones = d.own.zones := by rw [trayDutiesSet_own]
  have profile : (trayDutiesSet d).own.profile = c.own.profile := by rw [trayDutiesSet_own, zoneRest]
  have mask : (trayDutiesSet d).own.mask = c.own.mask := by rw [trayDutiesSet_own, zoneRest]
  have sensors : (trayDutiesSet d).own.sensors = c.own.sensors := by rw [trayDutiesSet_own, zoneRest]
  have rotors : (trayDutiesSet d).own.rotors = c.own.rotors := by rw [trayDutiesSet_own, zoneRest]
  have boosted (z : Fin 3) : d.own.zones[z].boosted = c.own.zones[z].boosted := by rw [zoneSet]
  have trays (j : Fin 6) := trayDutiesSet_tray d j
  have state (j : Fin 6) : (trayDutiesSet d).own.trays[j].state = c.own.trays[j].state := by rw [trays, zoneRest]
  have zoneDuty (z : Fin 3) : c.own.profile[z].dmin ≤ d.own.zones[z].duty ∧ d.own.zones[z].duty ≤ 100 := by
    obtain ⟨_, order, top⟩ := h.profile_duty z
    obtain ⟨low, high⟩ := targetDuty_range (b := c.own) order
    rw [zoneSet]
    dsimp only
    split_ifs
    · omega
    · exact limitDuty_range low (high.trans top) (before z)
  refine Clc.sound_iff.2 ⟨⟨?_, ?_, ?_, fun z => ?_, fun z => ?_, fun j => ?_, fun j moving => ?_, fun j => ?_,
    fun z => ?_⟩, fun z => ?_, fun k => ?_⟩
  · simpa only [profile] using h.profile_order
  · simpa only [profile] using h.profile_duty
  · simpa only [sensors, mask] using h.sensor_mask
  · rw [zones, zoneSet]
    exact fun boost => if_pos boost
  · rw [zones, profile]
    exact zoneDuty z
  · rw [zones, trays]
    have range := zoneDuty (zoneOfTray j)
    simp only [TrayRec.tickDuty]
    split_ifs <;> omega
  · rw [trays] at moving ⊢
    exact if_neg fun running => moving running.1
  · rw [trays]
  · rw [zones, zoneSet]
    exact h.hold_timer z
  · have condition : boostCondition (trayDutiesSet d).own z = boostCondition c.own z :=
      boostCondition_congr (fun j _ => state j) fun k _ => by rw [rotors]
    rw [Clc.BoostRight, condition, zones, boosted]
    exact h.boosts z
  · rw [state, rotors]
    exact h.follows k

theorem windowsClosed_sound : (windowsClosed c).own.Sound :=
  foldl_keeps (I := fun d : At Clc => d.own.Sound) (fun _ k hd => closeWindow_sound hd k) _ h

theorem dutiesSet_sound : (dutiesSet c).own.Sound :=
  tickDuties_sound (temperaturesSet_sound (windowsClosed_sound h)) fun z => by
    rw [Clc.zoneDuties_get]
    exact (h.zone_duty z).2

theorem controlCycle_sound : (controlCycle c).own.Sound := by
  have opened : (windowsOpened (dutiesSet c)).own.Sound :=
    foldl_keeps (I := fun d : At Clc => d.own.Sound) (fun _ k hd => openWindow_sound hd k) _ (dutiesSet_sound h)
  have reported : (traysReported (windowsOpened (dutiesSet c))).own.Sound :=
    (foldl_sendDuty_own _ _).symm ▸ opened
  have high : (highsJudged (traysReported (windowsOpened (dutiesSet c)))).own.Sound :=
    foldl_keeps (I := fun d : At Clc => d.own.Sound) (fun _ z hd => judgeHigh_sound hd z) _ reported
  have critical : (criticalsJudged (highsJudged (traysReported (windowsOpened (dutiesSet c))))).own.Sound :=
    foldl_keeps (I := fun d : At Clc => d.own.Sound) (fun _ z hd => judgeCritical_sound hd z) _ high
  exact foldl_keeps (I := fun d : At Clc => d.own.Sound) (fun _ n hd => requestRead_sound hd n) _ critical

end sound

end Sys2Proof.Machine

/-! PROOFS. THERMAL PROFILE (R83, R85): the figures clamped and ordered, the duties raised, the sensors marked again, and the
CLC left sound. -/

namespace Sys2Proof.Machine

open Sys2Proof

/-! ### The figures (R83, steps 1 and 2) -/

theorem clampNat_eq_max_min {x lo hi : Nat} (h : lo ≤ hi) : clampNat x lo hi = max lo (min x hi) := by
  unfold clampNat
  split_ifs <;> omega

theorem clampInt_eq_max_min {x lo hi : Int} (h : lo ≤ hi) : clampInt x lo hi = max lo (min x hi) := by
  unfold clampInt
  split_ifs <;> omega

theorem clampZone_duty (r : RawZoneProfile) :
    20 ≤ (clampZone r).1.dmin ∧ (clampZone r).1.dmin ≤ (clampZone r).1.dmax ∧ (clampZone r).1.dmax ≤ 100 := by
  have low := clampNat_range r.dmin (lo := 20) (hi := 100) (by decide)
  exact ⟨low.1, clampNat_range r.dmax low.2⟩

theorem orderRight_iff {p : ZoneProfile} : orderRight p = true ↔ p.tlow < p.thigh ∧ p.twarn < p.tcrit := by
  simp [orderRight]

/-! ### A run of trays raised (R83) -/

theorem flatMap_ite_singleton {α β : Type} (p : α → Bool) (g : α → β) (l : List α) :
    l.flatMap (fun x => if p x = true then [g x] else []) = (l.filter p).map g := by
  induction l with
  | nil => rfl
  | cons x l ih =>
    rw [List.flatMap_cons, ih]
    cases hx : p x <;> simp [hx]

/-- A RUNNING tray takes the duty of its zone. -/
def TrayRec.raised (d : Nat) (r : TrayRec) : TrayRec :=
  if r.state = .running then { r with duty := d, pwmLatch := 10 * d } else r

@[simp] theorem TrayRec.raised_state (d : Nat) (r : TrayRec) : (r.raised d).state = r.state := by
  unfold raised
  split_ifs <;> rfl

@[simp] theorem TrayRec.raised_fmax (d : Nat) (r : TrayRec) : (r.raised d).fmax = r.fmax := by
  unfold raised
  split_ifs <;> rfl

@[simp] theorem TrayRec.raised_duty (d : Nat) (r : TrayRec) :
    (r.raised d).duty = if r.state = .running then d else r.duty := by
  unfold raised
  split_ifs <;> rfl

theorem raiseTray_own (d : Nat) (c : At Clc) (j : Fin 6) :
    (raiseTray d c j).own = { c.own with trays := setAt c.own.trays j (c.own.trays[j].raised d) } := by
  unfold raiseTray TrayRec.raised
  split_ifs
  · rfl
  · rw [setAt_self]

/-- The report of a RUNNING tray that takes the duty of its zone. -/
def raisedReport (d : Nat) (j : Fin 6) (r : TrayRec) : List DutyReport :=
  if r.state == .running then [{ tray := j, present := true, fmax := r.fmax, duty := d }] else []

theorem raiseTray_sends (d : Nat) (c : At Clc) (j : Fin 6) :
    Bus.Sends [] (raisedReport d j c.own.trays[j]) c.bus (raiseTray d c j).bus := by
  unfold raiseTray raisedReport
  by_cases running : c.own.trays[j].state = .running
  · have report := (writeTray_sends c j { c.own.trays[j] with duty := d }).quiet (sendDuty_sends _ j)
    have reported : (writeTray j { c.own.trays[j] with duty := d } c).own.dutyReport j =
        { tray := j, present := true, fmax := c.own.trays[j].fmax, duty := d } := by
      simp only [Clc.dutyReport, writeTray_own, setAt_get_self, running]
      rfl
    rw [if_pos running, running]
    rwa [reported] at report
  · rw [if_neg running, if_neg (by simpa using running)]
    exact .refl _

theorem foldl_raiseTray_own (d : Nat) (l : List (Fin 6)) (c : At Clc) :
    (l.foldl (raiseTray d) c).own = { c.own with trays := (l.foldl (raiseTray d) c).own.trays } := by
  induction l generalizing c with
  | nil => rfl
  | cons j l ih => rw [List.foldl_cons, ih, raiseTray_own]

theorem foldl_raiseTray_tray (d : Nat) (z : Fin 3) (c : At Clc) (j : Fin 6) :
    ((traysOf z).foldl (raiseTray d) c).own.trays[j] =
      if zoneOfTray j = z then c.own.trays[j].raised d else c.own.trays[j] := by
  have raised := foldl_entry (I := fun _ => True) (v := fun c : At Clc => c.own.trays) (f := raiseTray d)
    (g := fun _ r => r.raised d) (fun _ _ _ => trivial) (fun c j _ => by rw [raiseTray_own]) (traysOf_nodup z) (c := c)
    trivial j
  exact raised.trans (if_congr mem_traysOf rfl rfl)

/-- Reports alone, and then alarm requests alone. -/
theorem Bus.Sends.reports_alarms {a : List AlarmRequest} {r : List DutyReport} {b b' b'' : Bus}
    (h : Sends [] r b b') (h' : Sends a [] b' b'') : Sends a r b b'' := by
  simpa only [List.nil_append, List.append_nil] using h.trans h'

/-- The bus goes on with marks and reports alone. -/
def Bus.Reports (b b' : Bus) : Prop := ∃ reports, Bus.Sends [] reports b b'

theorem foldl_reports {n : Nat} {f : At Clc → Fin n → At Clc} (hf : ∀ c i, Bus.Reports c.bus (f c i).bus)
    (l : List (Fin n)) (c : At Clc) : Bus.Reports c.bus (l.foldl f c).bus :=
  foldl_keeps (I := fun d : At Clc => Bus.Reports c.bus d.bus) (fun d i ⟨_, told⟩ => by
    obtain ⟨_, more⟩ := hf d i
    exact ⟨_, told.trans more⟩) l ⟨_, .refl _⟩

theorem foldl_raiseTray_clcPbu (d : Nat) (z : Fin 3) (c : At Clc) : ((traysOf z).foldl (raiseTray d) c).bus.clcPbu =
    c.bus.clcPbu ++ (traysOf z).flatMap (fun j => raisedReport d j c.own.trays[j]) :=
  foldl_sends (I := fun _ => True) (v := fun c : At Clc => c.own.trays) (f := raiseTray d) (g := fun _ r => r.raised d)
    (q := fun c => c.bus.clcPbu) (m := raisedReport d) (fun _ _ _ => trivial) (fun c j _ => by rw [raiseTray_own])
    (fun c j _ => (raiseTray_sends d c j).clcPbu) (traysOf_nodup z) (c := c) trivial

/-! ### The zones raised (R83) -/

/-- A zone is below its Dmin and not boosted. -/
def ZoneRec.lowFor (dmin : Nat) (r : ZoneRec) : Bool := decide (r.duty < dmin) && !r.boosted

/-- The zone's duty is below its Dmin, and its trays follow it up. -/
def Clc.isLow (b : Clc) (z : Fin 3) : Bool := b.zones[z].lowFor b.profile[z].dmin

/-- A zone below its Dmin takes it; without a boost its trays follow. -/
theorem raiseZone_eq (c : At Clc) (z : Fin 3) : raiseZone c z =
    let raised := writeZone z { c.own.zones[z] with duty := max c.own.zones[z].duty c.own.profile[z].dmin } c
    if c.own.isLow z = true then (traysOf z).foldl (raiseTray c.own.profile[z].dmin) raised
    else if c.own.zones[z].duty < c.own.profile[z].dmin then raised else c := by
  unfold raiseZone Clc.isLow ZoneRec.lowFor
  by_cases low : c.own.zones[z].duty < c.own.profile[z].dmin
  · cases boosted : c.own.zones[z].boosted <;>
      simp only [low, boosted, max_eq_right low.le, if_true, decide_true, Bool.not_true, Bool.not_false, Bool.and_true,
        Bool.and_false, Bool.false_eq_true, if_false]
  · simp only [low, if_false, decide_false, Bool.false_and, Bool.false_eq_true]

theorem raiseZone_own (c : At Clc) (z : Fin 3) : (raiseZone c z).own = { c.own with
    zones := setAt c.own.zones z { c.own.zones[z] with duty := max c.own.zones[z].duty c.own.profile[z].dmin }
    trays := (raiseZone c z).own.trays } := by
  rw [raiseZone_eq]
  dsimp only
  split_ifs with low above
  · rw [foldl_raiseTray_own]
    rfl
  · rfl
  · rw [max_eq_left (not_lt.1 above), setAt_self]

theorem raiseZone_tray (c : At Clc) (z : Fin 3) (j : Fin 6) : (raiseZone c z).own.trays[j] =
    if c.own.isLow z = true ∧ zoneOfTray j = z then c.own.trays[j].raised c.own.profile[z].dmin
    else c.own.trays[j] := by
  rw [raiseZone_eq]
  dsimp only
  by_cases low : c.own.isLow z = true
  · rw [if_pos low, foldl_raiseTray_tray]
    exact if_congr (by simp [low]) rfl rfl
  · have still : ¬ (c.own.isLow z = true ∧ zoneOfTray j = z) := fun e => low e.1
    rw [if_neg low, if_neg still]
    split_ifs <;> rfl

theorem raiseZone_clcPbu (c : At Clc) (z : Fin 3) : (raiseZone c z).bus.clcPbu = c.bus.clcPbu ++
    if c.own.isLow z = true then (traysOf z).flatMap (fun j => raisedReport c.own.profile[z].dmin j c.own.trays[j])
    else [] := by
  rw [raiseZone_eq]
  dsimp only
  split_ifs
  · rw [foldl_raiseTray_clcPbu, (writeZone_sends _ _ _).clcPbu, List.append_nil]
    rfl
  · exact (writeZone_sends _ _ _).clcPbu
  · exact (List.append_nil _).symm

theorem raiseZone_reports (c : At Clc) (z : Fin 3) : Bus.Reports c.bus (raiseZone c z).bus := by
  rw [raiseZone_eq]
  dsimp only
  split_ifs
  · obtain ⟨_, told⟩ := foldl_reports (fun d j => ⟨_, raiseTray_sends c.own.profile[z].dmin d j⟩) (traysOf z)
      (writeZone z { c.own.zones[z] with duty := max c.own.zones[z].duty c.own.profile[z].dmin } c)
    exact ⟨_, (writeZone_sends _ _ _).quiet told⟩
  · exact ⟨_, writeZone_sends _ _ _⟩
  · exact ⟨_, .refl _⟩

/-- R83: every zone below its new Dmin raised to it. -/
def zonesRaised (c : At Clc) : At Clc := (indices 3).foldl raiseZone c

theorem zonesRaised_own (c : At Clc) : (zonesRaised c).own = { c.own with
    zones := (zonesRaised c).own.zones, trays := (zonesRaised c).own.trays } := by
  refine foldl_keeps (I := fun d : At Clc => d.own = { c.own with zones := d.own.zones, trays := d.own.trays })
    (fun d z hd => ?_) _ rfl
  rw [raiseZone_own, hd]

theorem zonesRaised_zone (c : At Clc) (z : Fin 3) : (zonesRaised c).own.zones[z] =
    { c.own.zones[z] with duty := max c.own.zones[z].duty c.own.profile[z].dmin } := by
  have raised := foldl_entry (I := fun d : At Clc => d.own.profile = c.own.profile) (v := fun d : At Clc => d.own.zones)
    (f := raiseZone) (g := fun z r => { r with duty := max r.duty c.own.profile[z].dmin })
    (fun d z hd => by rw [raiseZone_own]; exact hd) (fun d z hd => by rw [raiseZone_own, hd]) (indices_nodup 3) (c := c)
    rfl z
  exact raised.trans (if_pos (mem_indices z))

/-- The RUNNING trays of a zone that was low take its new duty. -/
theorem zonesRaised_tray (c : At Clc) (j : Fin 6) : (zonesRaised c).own.trays[j] =
    if c.own.isLow (zoneOfTray j) = true then c.own.trays[j].raised c.own.profile[zoneOfTray j].dmin
    else c.own.trays[j] := by
  obtain ⟨d, ⟨tray, zone, profile⟩, tray', -⟩ := foldl_split (f := raiseZone) (k := zoneOfTray j)
    (R := fun a b => b.own.trays[j] = a.own.trays[j] ∧ b.own.zones[zoneOfTray j] = a.own.zones[zoneOfTray j] ∧
      b.own.profile = a.own.profile) (fun _ => ⟨rfl, rfl, rfl⟩)
    (fun h h' => ⟨h'.1.trans h.1, h'.2.1.trans h.2.1, h'.2.2.trans h.2.2⟩)
    (fun d z other => ⟨by rw [raiseZone_tray, if_neg fun e => other e.2.symm],
      by rw [raiseZone_own, setAt_get_ne _ _ _ _ other], by rw [raiseZone_own]⟩)
    (indices_nodup 3) (mem_indices _) c
  have low : d.own.isLow (zoneOfTray j) = c.own.isLow (zoneOfTray j) := by
    unfold Clc.isLow
    rw [zone, profile]
  refine tray'.trans ?_
  rw [raiseZone_tray, low, profile, tray]
  simp

/-- The reports of a zone whose RUNNING trays are raised. -/
def Clc.raisedReports (b : Clc) (z : Fin 3) : List DutyReport :=
  (traysOf z).flatMap fun j => raisedReport b.profile[z].dmin j b.trays[j]

/-- The reports of the zones that were low, in ascending order of the trays. -/
theorem zonesRaised_clcPbu (c : At Clc) : (zonesRaised c).bus.clcPbu = c.bus.clcPbu ++
    ((indices 6).filter (fun j => c.own.trays[j].state == .running && c.own.isLow (zoneOfTray j))).map (fun j =>
      { tray := j, present := true, fmax := c.own.trays[j].fmax, duty := c.own.profile[zoneOfTray j].dmin }) := by
  have told := foldl_sends
    (I := fun d : At Clc => d.own.profile = c.own.profile ∧
      ∀ j : Fin 6, d.own.trays[j].state = c.own.trays[j].state ∧ d.own.trays[j].fmax = c.own.trays[j].fmax)
    (v := fun d : At Clc => d.own.zones) (f := raiseZone)
    (g := fun z r => { r with duty := max r.duty c.own.profile[z].dmin }) (q := fun d => d.bus.clcPbu)
    (m := fun z r => if r.lowFor c.own.profile[z].dmin = true then c.own.raisedReports z else [])
    (fun d z ⟨profile, trays⟩ => ⟨by rw [raiseZone_own]; exact profile, fun j => by
      rw [raiseZone_tray]
      split_ifs
      · simpa using trays j
      · exact trays j⟩)
    (fun d z hd => by rw [raiseZone_own, hd.1])
    (fun d z hd => by
      rw [raiseZone_clcPbu]
      simp only [Clc.isLow, Clc.raisedReports, raisedReport, hd.1, (hd.2 _).1, (hd.2 _).2])
    (indices_nodup 3) (c := c) ⟨rfl, fun _ => ⟨rfl, rfl⟩⟩
  have byTray (z : Fin 3) : (if c.own.isLow z = true then c.own.raisedReports z else []) =
      (traysOf z).flatMap (fun j => if (c.own.trays[j].state == .running && c.own.isLow (zoneOfTray j)) = true then
        [{ tray := j, present := true, fmax := c.own.trays[j].fmax, duty := c.own.profile[zoneOfTray j].dmin }]
        else []) := by
    cases hz : c.own.isLow z
    · refine (List.flatMap_eq_nil_iff.2 fun j hj => ?_).symm
      obtain rfl := mem_traysOf.1 hj
      simp [hz]
    · refine List.flatMap_congr fun j hj => ?_
      obtain rfl := mem_traysOf.1 hj
      simp [raisedReport, hz]
  refine told.trans (congrArg (c.bus.clcPbu ++ ·) ?_)
  rw [← flatMap_ite_singleton]
  refine (List.flatMap_congr fun z _ => byTray z).trans ?_
  rw [← List.flatMap_assoc]
  rfl

theorem zonesRaised_reports (c : At Clc) : Bus.Reports c.bus (zonesRaised c).bus :=
  foldl_reports raiseZone_reports _ c

/-! ### The sensors marked again (R85) -/

/-- R85 for one sensor: its record after its mark in the old and in the new mask. -/
def SensorRec.remarked (old new : Bool) (r : SensorRec) : SensorRec :=
  if old = true ∧ new = false then
    { r with
      state := .absent, readOutstanding := false
      staleReads := r.staleReads + (if r.readOutstanding = true then 1 else 0) }
  else if old = false ∧ new = true then { r with state := .ok, value := 25 }
  else r

/-- A sensor is ABSENT exactly while it is masked out, after the change of its mark too. -/
theorem SensorRec.remarked_absent {old new : Bool} {r : SensorRec} (h : r.state = .absent ↔ old = false) :
    (r.remarked old new).state = .absent ↔ new = false := by
  unfold remarked
  cases old <;> cases new <;> simp [h]

theorem remark_own (old new : Byte) (c : At Clc) (n : Fin 8) : (remark old new c n).own = { c.own with
    sensors := setAt c.own.sensors n (c.own.sensors[n].remarked (old.getLsbD n.val) (new.getLsbD n.val)) } := by
  unfold remark SensorRec.remarked
  cases old.getLsbD n.val <;> cases new.getLsbD n.val
  case false.true => rfl
  case true.false =>
    simp only [Bool.not_false, Bool.and_self, if_true, and_self, writeSensor_own]
    split_ifs <;> rfl
  all_goals
    simp only [Bool.false_eq_true, Bool.true_eq_false, and_false, false_and, Bool.not_true, Bool.not_false, Bool.and_false,
      Bool.false_and, if_false]
    rw [setAt_self]

/-- What a passage of a sensor into or out of FAILED asks of the ATU (R84, R85). -/
def sensorAsks (n : Fin 8) (old new : SensorState) : List AlarmRequest :=
  if old ≠ .failed ∧ new = .failed then [{ raised := true, kind := .sensorFailed, object := n.val }]
  else if old = .failed ∧ new ≠ .failed then [{ raised := false, kind := .sensorFailed, object := n.val }]
  else []

theorem sensorAlarm_sends (n : Fin 8) (old new : SensorState) (b : Bus) :
    Bus.Sends (sensorAsks n old new) [] b (sensorAlarm n old new b) := by
  unfold sensorAlarm sensorAsks
  split_ifs
  · exact .raise _ _ _
  · exact .clearAlarm _ _ _
  · exact .refl _

/-- A sensor that is masked out is no longer FAILED. -/
theorem sensorAsks_absent (n : Fin 8) (old : SensorState) : sensorAsks n old .absent =
    if (old == .failed) = true then [{ raised := false, kind := .sensorFailed, object := n.val }] else [] := by
  cases old <;> rfl

theorem remark_sends (old new : Byte) (c : At Clc) (n : Fin 8) : Bus.Sends
    (if (old.getLsbD n.val && !new.getLsbD n.val && c.own.sensors[n].state == .failed) = true then
      [{ raised := false, kind := .sensorFailed, object := n.val }] else []) [] c.bus (remark old new c n).bus := by
  unfold remark
  cases old.getLsbD n.val <;> cases new.getLsbD n.val
  case true.false =>
    have told := (writeSensor_sends c n { c.own.sensors[n] with
      state := .absent, readOutstanding := false
      staleReads := if c.own.sensors[n].readOutstanding then c.own.sensors[n].staleReads + 1
        else c.own.sensors[n].staleReads }).quiet (sensorAlarm_sends n c.own.sensors[n].state .absent _)
    rw [sensorAsks_absent] at told
    exact told
  case false.true => exact writeSensor_sends _ _ _
  all_goals exact .refl _

/-- R85: the new mask applied to every sensor. -/
def sensorsRemarked (old new : Byte) (c : At Clc) : At Clc := (indices 8).foldl (remark old new) c

theorem sensorsRemarked_own (old new : Byte) (c : At Clc) :
    (sensorsRemarked old new c).own = { c.own with sensors := (sensorsRemarked old new c).own.sensors } := by
  refine foldl_keeps (I := fun d : At Clc => d.own = { c.own with sensors := d.own.sensors }) (fun d n hd => ?_) _ rfl
  rw [remark_own, hd]

theorem sensorsRemarked_sensor (old new : Byte) (c : At Clc) (n : Fin 8) : (sensorsRemarked old new c).own.sensors[n] =
    c.own.sensors[n].remarked (old.getLsbD n.val) (new.getLsbD n.val) := by
  have marked := foldl_entry (I := fun _ => True) (v := fun d : At Clc => d.own.sensors) (f := remark old new)
    (g := fun n r => r.remarked (old.getLsbD n.val) (new.getLsbD n.val)) (fun _ _ _ => trivial)
    (fun d n _ => by rw [remark_own]) (indices_nodup 8) (c := c) trivial n
  exact marked.trans (if_pos (mem_indices n))

/-- SENSOR_FAILED is cleared for each FAILED sensor that is masked out, in ascending order, and nothing else is sent. -/
theorem sensorsRemarked_sends (old new : Byte) (c : At Clc) : Bus.Sends
    (((indices 8).filter (fun n => old.getLsbD n.val && !new.getLsbD n.val &&
      c.own.sensors[n].state == .failed)).map (fun n => { raised := false, kind := .sensorFailed, object := n.val }))
    [] c.bus (sensorsRemarked old new c).bus := by
  have told : ∃ a, Bus.Sends a [] c.bus (sensorsRemarked old new c).bus :=
    foldl_keeps (f := remark old new) (I := fun d : At Clc => ∃ a, Bus.Sends a [] c.bus d.bus)
      (fun d n ⟨_, hd⟩ => ⟨_, hd.trans (remark_sends old new d n)⟩) _ ⟨_, .refl _⟩
  have alarms := foldl_sends (I := fun _ => True) (v := fun d : At Clc => d.own.sensors) (f := remark old new)
    (g := fun n r => r.remarked (old.getLsbD n.val) (new.getLsbD n.val)) (q := fun d => d.bus.toAtu)
    (m := fun n r => if (old.getLsbD n.val && !new.getLsbD n.val && r.state == .failed) = true then
      [{ raised := false, kind := .sensorFailed, object := n.val }] else []) (fun _ _ _ => trivial)
    (fun d n _ => by rw [remark_own]) (fun d n _ => (remark_sends old new d n).toAtu) (indices_nodup 8) (c := c) trivial
  obtain ⟨a, told⟩ := told
  obtain rfl := List.append_cancel_left (told.toAtu.symm.trans alarms)
  rw [← flatMap_ite_singleton]
  exact told

/-! ### The profile taken or refused (R83) -/

/-- The profile and the mask replaced. -/
def profileWritten (profile : Vector ZoneProfile 3) (mask : Byte) (c : At Clc) : At Clc :=
  { c with own := { c.own with profile := profile, mask := mask } }

/-- The new profile and mask in force: duties raised and sensors marked again. -/
def profileInForce (profile : Vector ZoneProfile 3) (mask : Byte) (c : At Clc) : At Clc :=
  sensorsRemarked c.own.mask mask (zonesRaised (profileWritten profile mask c))

/-- The clamped figures of the 48 bytes. -/
def clampedProfile (bytes : List Byte) : Vector ZoneProfile 3 := Vector.ofFn fun z => (clampZone (rawZoneProfileOf bytes z)).1

/-- How many figures of the 48 bytes the clamping changes. -/
def clampedCount (bytes : List Byte) : Nat :=
  (clampZone (rawZoneProfileOf bytes 0)).2 + (clampZone (rawZoneProfileOf bytes 1)).2 +
    (clampZone (rawZoneProfileOf bytes 2)).2

@[simp] theorem clampedProfile_get (bytes : List Byte) (z : Fin 3) :
    (clampedProfile bytes)[z] = (clampZone (rawZoneProfileOf bytes z)).1 := by simp [clampedProfile]

theorem takeProfile_eq (bytes : List Byte) (c : At Clc) : takeProfile bytes c =
    match (indices 3).find? (fun z => !orderRight (clampedProfile bytes)[z]) with
    | some z => clcEnd (.refused .badProfile) (clampedCount bytes) z.val c
    | none => clcEnd .normal (clampedCount bytes) 3 (profileInForce (clampedProfile bytes) (sensorMaskOf bytes) c) := by
  have profile : (Vector.ofFn (fun z => clampZone (rawZoneProfileOf bytes z))).map (·.1) = clampedProfile bytes :=
    table_ext fun z => by simp [clampedProfile]
  unfold takeProfile
  dsimp only
  rw [profile]
  simp only [Fin.getElem_fin, Vector.getElem_ofFn, clampedProfile]
  rfl

/-- The first zone out of order refuses the profile. -/
theorem takeProfile_of_bad {bytes : List Byte} {z : Fin 3} (bad : orderRight (clampedProfile bytes)[z] = false)
    (lower : ∀ y : Fin 3, y < z → orderRight (clampedProfile bytes)[y] = true) (c : At Clc) :
    takeProfile bytes c = clcEnd (.refused .badProfile) (clampedCount bytes) z.val c := by
  rw [takeProfile_eq, find_indices_eq_some.2 ⟨by simpa using bad, fun y hy => by simpa using lower y hy⟩]

/-- A profile in order is taken. -/
theorem takeProfile_of_right {bytes : List Byte} (right : ∀ z : Fin 3, orderRight (clampedProfile bytes)[z] = true) (c : At Clc) :
    takeProfile bytes c =
      clcEnd .normal (clampedCount bytes) 3 (profileInForce (clampedProfile bytes) (sensorMaskOf bytes) c) := by
  rw [takeProfile_eq, find_indices_eq_none.2 fun z => by simpa using right z]

/-! ### What a profile in force leaves -/

section inForce

variable (profile : Vector ZoneProfile 3) (mask : Byte) (c : At Clc)

theorem profileInForce_own : (profileInForce profile mask c).own = { c.own with
    profile := profile, mask := mask, sensors := (profileInForce profile mask c).own.sensors
    zones := (profileInForce profile mask c).own.zones, trays := (profileInForce profile mask c).own.trays } := by
  unfold profileInForce
  rw [sensorsRemarked_own, zonesRaised_own]
  rfl

theorem profileInForce_zone (z : Fin 3) : (profileInForce profile mask c).own.zones[z] =
    { c.own.zones[z] with duty := max c.own.zones[z].duty profile[z].dmin } := by
  unfold profileInForce
  rw [sensorsRemarked_own]
  exact zonesRaised_zone _ z

theorem profileInForce_sensor (n : Fin 8) : (profileInForce profile mask c).own.sensors[n] =
    c.own.sensors[n].remarked (c.own.mask.getLsbD n.val) (mask.getLsbD n.val) := by
  unfold profileInForce
  rw [sensorsRemarked_sensor, zonesRaised_own]
  rfl

variable {c} (h : c.own.Sound)

include h

/-- In a sound CLC no boosted zone is below a Dmin: its duty is 100. -/
theorem isLow_of_sound {z : Fin 3} (top : profile[z].dmin ≤ 100) :
    (profileWritten profile mask c).own.isLow z = decide (c.own.zones[z].duty < profile[z].dmin) := by
  change (decide (c.own.zones[z].duty < profile[z].dmin) && !c.own.zones[z].boosted) = _
  cases boosted : c.own.zones[z].boosted
  · simp
  · have duty := h.boosted_duty z boosted
    rw [decide_eq_false (by omega : ¬ c.own.zones[z].duty < profile[z].dmin)]
    rfl

theorem profileInForce_tray (top : ∀ z : Fin 3, profile[z].dmin ≤ 100) (j : Fin 6) :
    (profileInForce profile mask c).own.trays[j] =
      if c.own.zones[zoneOfTray j].duty < profile[zoneOfTray j].dmin then c.own.trays[j].raised profile[zoneOfTray j].dmin
      else c.own.trays[j] := by
  unfold profileInForce
  rw [sensorsRemarked_own]
  refine (zonesRaised_tray _ j).trans ?_
  rw [isLow_of_sound profile mask h (top _)]
  simp only [decide_eq_true_eq]
  rfl

theorem profileInForce_trayDuty (top : ∀ z : Fin 3, profile[z].dmin ≤ 100) (j : Fin 6) :
    (profileInForce profile mask c).own.trays[j].duty =
      if c.own.trays[j].state = .running ∧ c.own.zones[zoneOfTray j].duty < profile[zoneOfTray j].dmin then
        profile[zoneOfTray j].dmin else c.own.trays[j].duty := by
  rw [profileInForce_tray profile mask h top, apply_ite TrayRec.duty, TrayRec.raised_duty, ← ite_and]
  exact if_congr and_comm rfl rfl

theorem profileInForce_clcPbu (top : ∀ z : Fin 3, profile[z].dmin ≤ 100) :
    (profileInForce profile mask c).bus.clcPbu = c.bus.clcPbu ++ ((indices 6).filter (fun k =>
      decide (c.own.trays[k].state = .running ∧ c.own.zones[zoneOfTray k].duty < profile[zoneOfTray k].dmin))).map
        (fun k => { tray := k, present := true, fmax := c.own.trays[k].fmax, duty := profile[zoneOfTray k].dmin }) := by
  have raised := zonesRaised_clcPbu (profileWritten profile mask c)
  simp only [isLow_of_sound profile mask h (top _)] at raised
  unfold profileInForce
  rw [(sensorsRemarked_sends _ _ _).clcPbu, List.append_nil, raised]
  simp only [Bool.decide_and]
  rfl

omit h in
theorem profileInForce_sends : ∃ reports, Bus.Sends (((indices 8).filter (fun n => c.own.mask.getLsbD n.val &&
    !mask.getLsbD n.val && c.own.sensors[n].state == .failed)).map
      (fun n => { raised := false, kind := .sensorFailed, object := n.val })) reports c.bus
    (profileInForce profile mask c).bus := by
  obtain ⟨reports, raised⟩ := zonesRaised_reports (profileWritten profile mask c)
  have marked := sensorsRemarked_sends c.own.mask mask (zonesRaised (profileWritten profile mask c))
  have sensors : (zonesRaised (profileWritten profile mask c)).own.sensors = c.own.sensors := by
    rw [zonesRaised_own]
    rfl
  rw [sensors] at marked
  exact ⟨reports, raised.reports_alarms marked⟩

theorem profileInForce_sound (order : ∀ z : Fin 3, orderRight profile[z] = true)
    (duty : ∀ z : Fin 3, 20 ≤ profile[z].dmin ∧ profile[z].dmin ≤ profile[z].dmax ∧ profile[z].dmax ≤ 100) :
    (profileInForce profile mask c).own.Sound := by
  have top (z : Fin 3) : profile[z].dmin ≤ 100 := (duty z).2.1.trans (duty z).2.2
  have frame := profileInForce_own profile mask c
  have zones := profileInForce_zone profile mask c
  have sensors := profileInForce_sensor profile mask c
  have trays := profileInForce_tray profile mask h top
  generalize (profileInForce profile mask c).own = b at frame zones sensors trays ⊢
  have newProfile : b.profile = profile := by rw [frame]
  have newMask : b.mask = mask := by rw [frame]
  have rotors : b.rotors = c.own.rotors := by rw [frame]
  have state (j : Fin 6) : b.trays[j].state = c.own.trays[j].state := by
    rw [trays]
    split_ifs
    · exact TrayRec.raised_state _ _
    · rfl
  have trayWith (j : Fin 6) (P : TrayRec → Prop)
      (raised : c.own.trays[j].state = .running → c.own.zones[zoneOfTray j].duty < profile[zoneOfTray j].dmin →
        P { c.own.trays[j] with duty := profile[zoneOfTray j].dmin, pwmLatch := 10 * profile[zoneOfTray j].dmin })
      (stands : c.own.trays[j].state ≠ .running ∨ profile[zoneOfTray j].dmin ≤ c.own.zones[zoneOfTray j].duty →
        P c.own.trays[j]) : P b.trays[j] := by
    rw [trays]
    unfold TrayRec.raised
    split_ifs with low running
    · exact raised running low
    · exact stands (.inl running)
    · exact stands (.inr (not_lt.1 low))
  refine Clc.sound_iff.2 ⟨⟨fun z => ?_, fun z => ?_, fun n => ?_, fun z boosted => ?_, fun z => ?_, fun j => ?_,
    fun j moving => ?_, fun j => ?_, fun z => ?_⟩, fun z => ?_, fun k => ?_⟩
  · rw [newProfile]
    exact orderRight_iff.1 (order z)
  · rw [newProfile]
    exact duty z
  · rw [sensors, newMask]
    exact SensorRec.remarked_absent (h.sensor_mask n)
  · rw [zones] at boosted ⊢
    have full := h.boosted_duty z boosted
    have := top z
    dsimp only
    omega
  · rw [zones, newProfile]
    have := h.zone_duty z
    have := top z
    dsimp only
    omega
  · rw [zones]
    have range := h.tray_duty j
    have := top (zoneOfTray j)
    refine trayWith j (fun r => max c.own.zones[zoneOfTray j].duty profile[zoneOfTray j].dmin ≤ r.duty ∧ r.duty ≤ 100)
      (fun _ _ => ?_) fun stands => ?_
    · dsimp only
      omega
    · rcases stands with still | enough
      · have := h.tray_full j still
        omega
      · omega
  · rw [state] at moving
    exact trayWith j (fun r => r.duty = 100) (fun running _ => absurd running moving) fun _ => h.tray_full j moving
  · exact trayWith j (fun r => r.pwmLatch = 10 * r.duty) (fun _ _ => rfl) fun _ => h.latch_right j
  · rw [zones]
    exact h.hold_timer z
  · have condition : boostCondition b z = boostCondition c.own z :=
      boostCondition_congr (fun j _ => state j) fun k _ => by rw [rotors]
    rw [Clc.BoostRight, condition, zones]
    exact h.boosts z
  · rw [state, rotors]
    exact h.follows k

end inForce

/-- THERMAL PROFILE keeps the cooling sound: it is refused and nothing changes, or it is taken with its figures in order. -/
theorem takeProfile_sound {c : At Clc} (h : c.own.Sound) (bytes : List Byte) : (takeProfile bytes c).own.Sound := by
  rw [takeProfile_eq]
  split
  · exact h
  next right =>
    refine profileInForce_sound _ _ h (fun z => ?_) fun z => ?_
    · simpa using find_indices_eq_none.1 right z
    · rw [clampedProfile_get]
      exact clampZone_duty _

end Sys2Proof.Machine

/-! PROOFS. Every step keeps the cooling sound (R81 to R83, R85, R88 to R92, R94, R97, R100). -/

namespace Sys2Proof.Machine

open Sys2Proof

theorem PlantStands.clc {s t : State} (h : PlantStands s t) : t.clc = s.clc := by rw [h]

/-- A command that answers a next state keeps the cooling sound. -/
def OutcomeKeepsCooling (s : State) (o : Host.Outcome State Fault Refusal) : Prop :=
  ∀ t, o = .next t → s.clc.Sound → t.clc.Sound

namespace OutcomeKeepsCooling

variable {s t : State}

theorem next (h : s.clc.Sound → t.clc.Sound) : OutcomeKeepsCooling s (.next t) := by rintro u ⟨⟩; exact h

/-- Where the CLC is not at work its cooling stands. -/
theorem kept (h : t.clc = s.clc) : OutcomeKeepsCooling s (.next t) := next fun sound => h ▸ sound

/-- The CLC alone is at work. -/
theorem onClc {f : At Clc → At Clc} (hf : ∀ c : At Clc, c.own.Sound → (f c).own.Sound) (s : State) (b : Bus) :
    OutcomeKeepsCooling s (.next ((s.withBus b).onClc f)) := next (hf { own := s.clc, bus := b })

end OutcomeKeepsCooling

/-- The commands by which the CLC does something. -/
def isOfCooling : Instr → Bool
  | .cycleTick | .sensorAnswer | .thermalProfile | .tachEdge _ | .stallTimerExpiry _ | .spinupTimerExpiry _
  | .holdTimerExpiry _ | .trayPresenceLost | .trayPresenceGained | .trayInventoryAnswer | .trayRetryTimer _
  | .powerOnReset => true
  | _ => false

/-- By every other command the cooling stands. -/
theorem exec_clc_elsewhere {c : Instr} (hc : isOfCooling c = false) (s : State) : OutcomeKeepsCooling s (exec c s) := by
  cases c with
  -- one block at work, always
  | areaBaseLowWrite _ | interruptMaskWrite _ | readOnlyRegisterWrite _ _ | start _ | resume _ | accept _ | pageSeen _
  | moduleRetryTimer _ | moduleLineChange _ _ _ | slotRetryTimer _ | railGoodRise _ _ | railTimerExpiry _
  | settleTimerExpiry _ | railGoodFall _ _ | idleTimerExpiry _ | zoneStageRecord | acknowledgement _ | ackTimerExpiry
  | probeTimerExpiry | batchTimerExpiry | transactionBegin | requestSent | answerFrame _ | answerTimerExpiry
  | lineActivity | recoveryIdle _ | storeWriteDone _ | powerLoss => exact .kept rfl
  -- one block at work when its message, access, condition or timer is there
  | anchorReadDone _ _ | wordFetchDone _ _ | taskOutcome _ | recordWriteDone _ | bayPresenceGained | bayPresenceLost
  | moduleInventoryAnswer | telemetryAnswer | portClaim | tierClaim | wakeClaimJudged | slotClaim | portRelease
  | tierReturn | standbyStepDown | slotRelease | dutyReport | priorityUpdate | graceTimerExpiry | intervalTimerExpiry
  | shedAnswer | slotPresenceGained | slotPresenceLost | slotInventoryAnswer | sweepDone | slotClaimAnswer
  | useNoticeTaken | idleTimeUpdate | wakeRequest | shedOrder | thermalOffOrder | hotFlagReport | switchSent | committed
  | failed | abandoned | stagedCopy | recomputeAddition | buildRequest | activeSetReplaced | raise _ _ | clear _ _
  | dirtyMark _ | batchBegin | mlcRequest _ | presenceLineChange _ _ | pendingTimerExpiry _ | startUpReport _
  | areaBaseHighWrite _ | slotOnlineReport | identificationSweep | grantReport | withdrawal | zoneCount =>
    simp only [exec, execAnchorReadDone, execWordFetchDone, execTaskOutcome, execRecordWriteDone,
      execBayPresenceGained, execBayPresenceLost, execModuleInventoryAnswer, execTelemetryAnswer, execPortClaim,
      execTierClaim, execWakeClaimJudged, execSlotClaim, execPortRelease, execTierReturn, execStandbyStepDown,
      execSlotRelease, execDutyReport, execPriorityUpdate, execGraceTimerExpiry, execIntervalTimerExpiry,
      execShedAnswer, execSlotPresenceGained, execSlotPresenceLost, execSlotInventoryAnswer, execSweepDone,
      execSlotClaimAnswer, execUseNoticeTaken, execIdleTimeUpdate, execWakeRequest, execShedOrder, execThermalOffOrder,
      execHotFlagReport, execSwitchSent, execCommitted, execFailed, execAbandoned, execStagedCopy,
      execRecomputeAddition, execBuildRequest, execActiveSetReplaced, execRaise, execClear, execDirtyMark,
      execBatchBegin, execMlcRequest, execPresenceLineChange, execPendingTimerExpiry, execStartUpReport,
      execAreaBaseHighWrite, execSlotOnlineReport, execIdentificationSweep, execGrantReport, execWithdrawal,
      execZoneCount]
    split <;> exact .kept rfl
  | licenceCellReadDone | hourTick | withdrawalAnswer | slotLeftOnlineReport =>
    simp only [exec, execLicenceCellReadDone, execHourTick, execWithdrawalAnswer, execSlotLeftOnlineReport]
    repeat' split
    all_goals exact .kept (by simp)
  -- a task word taken
  | alarmAcknowledge | zoneDrop | zoneCommitVerify | zoneCommitApply | slotPowerOn | slotPowerOff | slotConfig
  | zoneStage | zoneFindLoad | zoneRead | zoneFind | licenceInstall | licenceRemove | licenceFreeze | licenceReport =>
    simp only [exec, execAlarmAcknowledge, execZoneDrop, execZoneCommitVerify, execZoneCommitApply, execSlotPowerOn,
      execSlotPowerOff, execSlotConfig, execZoneStage, execZoneFindLoad, execZoneRead, execZoneFind,
      execLicenceInstall, execLicenceRemove, execLicenceFreeze, execLicenceReport]
    repeat' split
    all_goals exact .kept (by simp)
  | powerPolicy | startupHoldRelease =>
    have taken (t : State) : (takePolicyWord t).clc = t.clc := by
      unfold takePolicyWord
      split <;> simp
    simp only [exec, execPowerPolicy, execStartupHoldRelease]
    repeat' split
    all_goals exact .kept (by simp [taken])
  | portEnable => exact .kept (PlantStands.ptuTask _ s).clc
  | portDisable => exact .kept (PlantStands.ptuTask _ s).clc
  | claimAnswer =>
    simp only [exec, execClaimAnswer]
    split
    · exact .kept rfl
    · exact .kept (PlantStands.ptuDrain _ _).clc
  -- data that moves, and the pages
  | pieceFetchDone a _ | dataWriteDone a =>
    simp only [exec, execPieceFetchDone, execDataWriteDone]
    split
    · exact .kept rfl
    · exact .kept (PlantStands.withMove a _ _).clc
  | dataReadDone a _ =>
    simp only [exec, execDataReadDone]
    split
    · exact .kept rfl
    · split
      · exact .kept (PlantStands.withMove a _ _).clc
      · exact .kept rfl
  | hostAccessFailed r => exact .kept (PlantStands.hostAccessFault r s).clc
  | hostAccessTimeout r => exact .kept (PlantStands.hostAccessFault r s).clc
  | pageWriteDone | pageWriteFailed =>
    simp only [exec, execPageWriteDone, execPageWriteFailed]
    repeat' split
    all_goals exact .kept (by simp [(PlantStands.pageWritten _).clc, (PlantStands.pageWriteFault _).clc])
  -- HALT and the resets of the host side
  | halt w =>
    simp only [exec, execHalt]
    have halted := PlantStands.ptuUnqueued s (s.onHost (runAction .halt w (aeHalt s.tb.seconds)))
    split
    · split_ifs
      · exact .kept (halted.trans (.haltBlock _ _)).clc
      · exact .kept halted.clc
    · exact .kept halted.clc
  | managementReset =>
    have cleared : PlantStands s { resetHostSide s with lcu := lcuManagementReset (resetHostSide s).lcu } :=
      (PlantStands.resetHostSide s).trans rfl
    exact .kept (cleared.trans (.znuManagementReset _)).clc
  | linkReset => exact .kept (PlantStands.resetHostSide s).clc
  | _ => cases hc

/-! ### The commands of the CLC -/

/-- Every command keeps the cooling sound. -/
theorem exec_keepsCooling (c : Instr) (s : State) : OutcomeKeepsCooling s (exec c s) := by
  by_cases hc : isOfCooling c = false
  · exact exec_clc_elsewhere hc s
  cases c with
  | cycleTick =>
    refine .next (t := ((s.onTb tbTick).onClc controlCycle).onPbu pollModules) fun h => ?_
    rw [onPbu_clc]
    refine controlCycle_sound ?_
    rwa [onTb_clc]
  -- sensors and the profile
  | sensorAnswer =>
    simp only [exec, execSensorAnswer]
    split
    · exact .onClc (fun _ h => sensorAnswered_sound h _ _) s _
    · exact .kept rfl
  | thermalProfile =>
    simp only [exec, execThermalProfile]
    split
    · split
      · exact .onClc (fun _ h => takeProfile_sound h _) s s.bus
      · exact .kept rfl
    · split
      · exact .kept rfl
      · exact .kept (by simp)
  -- rotors and the hold
  | tachEdge k => exact .onClc (fun _ h => tachEdge_sound h k) s s.bus
  | stallTimerExpiry k => exact .onClc (fun _ h => stallExpired_sound h k) s s.bus
  | spinupTimerExpiry j => exact .onClc (fun _ h => spinupExpired_sound h j) s s.bus
  | holdTimerExpiry z => exact .onClc (fun _ h => holdExpired_sound h z) s s.bus
  -- trays
  | trayPresenceLost =>
    simp only [exec, execTrayPresenceLost]
    split
    · exact .onClc (fun _ h => trayLost_sound h _) s _
    · exact .kept rfl
  | trayPresenceGained =>
    simp only [exec, execTrayPresenceGained]
    split
    · exact .onClc (fun _ h => trayGained_sound h _) s _
    · exact .kept rfl
  | trayInventoryAnswer =>
    simp only [exec, execTrayInventoryAnswer]
    split
    · exact .onClc (fun _ h => trayTry_sound h _ _ _) s _
    · exact .kept rfl
  | trayRetryTimer j => exact .onClc (fun _ h => trayRetry_sound h j) s s.bus
  | powerOnReset => exact .next fun _ => clcPowerOn_sound
  | _ => exact absurd rfl hc

/-- Settles O7: each operation of the CLC keeps its cooling sound, and every other command leaves the CLC as it is. -/
theorem everyStepKeepsTheCoolingSound : Obligations.EveryStepKeepsTheCoolingSound := by
  unfold Obligations.EveryStepKeepsTheCoolingSound
  intro s t sound run
  unfold step at run
  split at run
  · cases run; exact sound
  next c rest _ => exact exec_keepsCooling c { s with pending := rest } t run sound

end Sys2Proof.Machine

/-! PROOFS. Sensor answers (R84) and the commands of THERMAL PROFILE (R83, R85). -/

namespace Sys2Proof.Machine

open Sys2Proof

theorem onClc_eq {s : State} {b : Bus} {f : At Clc → At Clc} {d : At Clc} (h : f { own := s.clc, bus := b } = d) :
    (s.withBus b).onClc f = { s with clc := d.own, bus := d.bus } := by
  subst h
  rfl

/-- Alarm requests alone: no other channel but the marks goes on. -/
theorem Bus.Sends.alarms {a : List AlarmRequest} {b b' : Bus} (h : Sends a [] b b') :
    b' = { b with toSpw := b'.toSpw, toAtu := b.toAtu ++ a } := by
  unfold Sends at h
  rwa [List.append_nil] at h

/-! ### The answer to a read (R84) -/

/-- The outcome is a good read of x. -/
def GoodRead (o : LineOutcome) (x : Int) : Prop :=
  ∃ data, o = .ok data ∧ signed16 (field data 0 2) = x ∧ -40 ≤ x ∧ x ≤ 150

theorem goodReading_eq_some {o : LineOutcome} {x : Int} : goodReading o = some x ↔ GoodRead o x := by
  unfold goodReading GoodRead
  cases o with
  | ok data =>
    simp only [Option.ite_none_right_eq_some, Option.some.injEq, LineOutcome.ok.injEq, exists_eq_left']
    exact ⟨fun ⟨range, e⟩ => ⟨e, e ▸ range⟩, fun ⟨e, range⟩ => ⟨e.symm ▸ range, e⟩⟩
  | _ => simp

/-- The state of a sensor after a failed read. -/
def SensorState.afterFailure : SensorState → SensorState
  | .ok => .held1
  | .held1 => .held2
  | _ => .failed

theorem sensorStep_good {o : LineOutcome} {x : Int} {r : SensorRec} (present : r.state ≠ .absent)
    (good : goodReading o = some x) : sensorStep o r = { r with state := .ok, value := x } := by
  unfold sensorStep
  rw [good]
  split
  next absent => exact absurd absent present
  next e _ => cases e; rfl
  all_goals contradiction

theorem sensorStep_failed {o : LineOutcome} {r : SensorRec} (present : r.state ≠ .absent)
    (bad : goodReading o = none) : sensorStep o r = { r with state := r.state.afterFailure } := by
  unfold sensorStep
  rw [bad]
  cases st : r.state
  case absent => exact absurd st present
  all_goals simp only [SensorState.afterFailure]

/-- A good read leaves FAILED, or asks nothing. -/
theorem sensorAsks_good (n : Fin 8) (old : SensorState) : sensorAsks n old .ok =
    if old = .failed then [{ raised := false, kind := .sensorFailed, object := n.val }] else [] := by
  cases old <;> rfl

/-- A failed read enters FAILED from the second hold alone. -/
theorem sensorAsks_failed (n : Fin 8) {old : SensorState} (present : old ≠ .absent) :
    sensorAsks n old old.afterFailure =
      if old = .held2 then [{ raised := true, kind := .sensorFailed, object := n.val }] else [] := by
  cases old
  case absent => exact absurd rfl present
  all_goals rfl

theorem sensorAnswered_of_stale {n : Fin 8} {c : At Clc} (stale : 0 < c.own.sensors[n].staleReads) (o : LineOutcome) :
    sensorAnswered n o c = writeSensor n
      { c.own.sensors[n] with staleReads := c.own.sensors[n].staleReads - 1 } c := if_pos stale

/-- An answer that is not owed moves the sensor by the table. -/
theorem sensorAnswered_of_fresh {n : Fin 8} {c : At Clc} (fresh : c.own.sensors[n].staleReads = 0) (o : LineOutcome)
    {r : SensorRec} (moves : sensorStep o { c.own.sensors[n] with readOutstanding := false } = r) :
    (sensorAnswered n o c).own = { c.own with sensors := setAt c.own.sensors n r } ∧
      Bus.Sends (sensorAsks n c.own.sensors[n].state r.state) [] c.bus (sensorAnswered n o c).bus := by
  subst moves
  unfold sensorAnswered
  dsimp only
  rw [if_neg (by omega)]
  exact ⟨rfl, (writeSensor_sends _ _ _).quiet (sensorAlarm_sends _ _ _ _)⟩

/-- Settles O43: an owed answer is discarded, and any other moves the sensor by its table. -/
theorem sensorFollowsItsReads : Obligations.SensorFollowsItsReads := by
  unfold Obligations.SensorFollowsItsReads
  intro s n o cmd who tag rest hq r good becomes
  let c : At Clc := { own := s.clc, bus := { s.bus with mlcClc := rest } }
  have taken : exec .sensorAnswer s = .next ((s.withBus c.bus).onClc (sensorAnswered n o)) := by
    change execSensorAnswer s = _
    simp only [execSensorAnswer, hq, c]
  have leaves {r' : SensorRec} {alarms : List AlarmRequest}
      (own : (sensorAnswered n o c).own = { s.clc with sensors := setAt s.clc.sensors n r' })
      (told : Bus.Sends alarms [] c.bus (sensorAnswered n o c).bus) : becomes r' alarms := by
    refine ⟨_, taken.trans (congrArg Host.Outcome.next (onClc_eq rfl)), ?_⟩
    simp only [State.mk.injEq, true_and, and_true]
    exact ⟨own, told.alarms⟩
  refine ⟨fun stale => ?_, fun x fresh present isGood => ?_, fun fresh present bad => ?_⟩
  · have discarded := sensorAnswered_of_stale (c := c) stale o
    exact leaves (by rw [discarded]; rfl) (by rw [discarded]; exact writeSensor_sends _ _ _)
  · obtain ⟨own, told⟩ := sensorAnswered_of_fresh (c := c) fresh o
      (sensorStep_good (r := { r with readOutstanding := false }) present (goodReading_eq_some.2 isGood))
    exact leaves own (sensorAsks_good n r.state ▸ told)
  · have none : goodReading o = none := Option.eq_none_iff_forall_ne_some.2 fun x e => bad x (goodReading_eq_some.1 e)
    obtain ⟨own, told⟩ := sensorAnswered_of_fresh (c := c) fresh o
      (sensorStep_failed (r := { r with readOutstanding := false }) present none)
    refine Eq.mp (congrArg (fun st => becomes { r with readOutstanding := false, state := st } _) ?_)
      (leaves own (sensorAsks_failed n present ▸ told))
    cases r.state <;> rfl

/-! ### The figures of a profile in the book's terms (R83) -/

section figures

variable (b : List Byte) (z : Fin 3)

/-- A temperature of the 48 bytes, clamped. -/
def clampedTemp (o : Nat) : Int := max (-40) (min (signed16 (field b (12 * z.val + o) 2)) 150)

def clampedDmin : Nat := max 20 (min (field b (12 * z.val + 8) 1) 100)

def clampedDmax : Nat := max (clampedDmin b z) (min (field b (12 * z.val + 9) 1) 100)

theorem clampedDmin_le : clampedDmin b z ≤ 100 := by
  unfold clampedDmin
  omega

theorem clampZone_eq : (clampZone (rawZoneProfileOf b z)).1 =
    { tlow := clampedTemp b z 0, thigh := clampedTemp b z 2, twarn := clampedTemp b z 4, tcrit := clampedTemp b z 6
      dmin := clampedDmin b z, dmax := clampedDmax b z } := by
  have temp (o : Nat) : clampInt (signed16 (field b (12 * z.val + o) 2)) (-40) 150 = clampedTemp b z o :=
    clampInt_eq_max_min (by decide)
  have dmin : clampNat (field b (12 * z.val + 8) 1) 20 100 = clampedDmin b z := clampNat_eq_max_min (by decide)
  have dmax : clampNat (field b (12 * z.val + 9) 1) (clampedDmin b z) 100 = clampedDmax b z :=
    clampNat_eq_max_min (clampedDmin_le b z)
  simp only [clampZone, rawZoneProfileOf, dmin, dmax, temp]
  rw [← temp 0]
  rfl

theorem clampZone_count : (clampZone (rawZoneProfileOf b z)).2 =
    [0, 2, 4, 6].countP (fun o => clampedTemp b z o != signed16 (field b (12 * z.val + o) 2)) +
      (if clampedDmin b z = field b (12 * z.val + 8) 1 then 0 else 1) +
      (if clampedDmax b z = field b (12 * z.val + 9) 1 then 0 else 1) := by
  have figures := clampZone_eq b z
  have changed : (clampZone (rawZoneProfileOf b z)).2 =
      let p := (clampZone (rawZoneProfileOf b z)).1
      let r := rawZoneProfileOf b z
      [p.tlow != r.tlow, p.thigh != r.thigh, p.twarn != r.twarn, p.tcrit != r.tcrit, p.dmin != r.dmin,
        p.dmax != r.dmax].countP id := rfl
  rw [changed, figures]
  simp only [rawZoneProfileOf, List.countP_cons, List.countP_nil, id, bne_iff_ne, ne_eq, ite_not, Nat.add_zero]
  omega

end figures

/-! ### The commands of THERMAL PROFILE (R83) -/

/-- The judgement once all bytes have arrived. -/
theorem exec_thermalProfile_complete {s : State} {sv : Service} (service : s.bus.service .clc = some sv)
    (all : sv.complete = true) {d : At Clc} (hd : takeProfile sv.input { own := s.clc, bus := s.bus } = d) :
    exec .thermalProfile s = .next { s with clc := d.own, bus := d.bus } := by
  change execThermalProfile s = _
  simp only [execThermalProfile, service, all, if_true]
  exact congrArg Host.Outcome.next (onClc_eq (b := s.bus) hd)

/-- A THERMAL PROFILE word taken: its first byte is read, or its first piece fetched. -/
theorem exec_thermalProfile_taken {s : State} {a : Fin 16} {w : TaskWord} {rest : List (Fin 16 × TaskWord)}
    (hq : s.bus.station .clc = { queue := (a, w) :: rest, service := none }) (hn : w.count.toNat ≠ 0) :
    exec .thermalProfile s = .next { s with
      host := s.host.moving a true w
      bus := { (s.takeWord .clc).bus with accesses := s.bus.accesses ++ [firstRead a w] } } := by
  have free : s.bus.service .clc = none := by rw [Bus.service, hq]
  change execThermalProfile s = _
  simp only [execThermalProfile, free, oldestWord_of_front hq, State.onHost, beginInput_taken hq hn]
  rw [takeWord_frame]

/-- Settles O45: the figures are clamped and judged in order, and a profile in order is in force at once. -/
theorem thermalProfileIsClampedAndJudged : Obligations.ThermalProfileIsClampedAndJudged := by
  unfold Obligations.ThermalProfileIsClampedAndJudged
  refine ⟨fun s a w rest hq _ hn => exec_thermalProfile_taken hq hn, fun s sv h service all => ?_⟩
  intro b temp dmin dmax clamped changed right mask words
  have zone (z : Fin 3) := (clampedProfile_get b z).trans (clampZone_eq b z)
  have count : clampedCount b = changed := by
    simp only [clampedCount, clampZone_count]
    rfl
  have inOrder (z : Fin 3) : orderRight (clampedProfile b)[z] = true ↔ right z := by
    rw [zone]
    exact orderRight_iff
  have dminOf (z : Fin 3) : (clampedProfile b)[z].dmin = dmin z := by
    rw [zone]
    rfl
  have top (z : Fin 3) : (clampedProfile b)[z].dmin ≤ 100 := by
    rw [zone]
    exact clampedDmin_le b z
  refine ⟨fun z bad lower => ?_, fun good => ?_⟩
  · have refused := takeProfile_of_bad (Bool.eq_false_iff.2 (mt (inOrder z).1 bad))
      (fun y hy => (inOrder y).2 (lower y hy)) { own := s.clc, bus := s.bus }
    rw [count] at refused
    exact exec_thermalProfile_complete service all refused
  let c : At Clc := { own := s.clc, bus := s.bus }
  let d := profileInForce (clampedProfile b) (sensorMaskOf b) c
  have taken : takeProfile b c = clcEnd .normal changed 3 d :=
    count ▸ takeProfile_of_right (fun z => (inOrder z).2 (good z)) c
  obtain ⟨reports, told⟩ := profileInForce_sends (clampedProfile b) (sensorMaskOf b) (c := c)
  have serving : d.bus.service .clc = some sv := (told.service .clc).trans service
  have frame : d.own = { s.clc with
      profile := clampedProfile b, mask := sensorMaskOf b, sensors := d.own.sensors, zones := d.own.zones
      trays := d.own.trays } := profileInForce_own _ _ c
  have newMask : d.own.mask = mask := by rw [frame]; rfl
  refine ⟨_, exec_thermalProfile_complete service all taken, rfl, newMask, ?_, fun z => ?_, fun z => ?_, fun k => ?_,
    fun n => ?_, ?_, ?_, ?_, ?_⟩
  · change d.own.rotors = s.clc.rotors
    rw [frame]
  · change d.own.profile[z] = _
    rw [frame]
    exact zone z
  · change d.own.zones[z] = _
    rw [← dminOf]
    exact profileInForce_zone _ _ c z
  · change d.own.trays[k].duty = _
    rw [← dminOf]
    exact profileInForce_trayDuty _ (sensorMaskOf b) (c := c) h top k
  · exact profileInForce_sensor _ _ c n
  · change (d.bus.endTask .clc _ _).clcPbu = _
    rw [endTask_of_service _ _ serving]
    have reported := profileInForce_clcPbu (clampedProfile b) (sensorMaskOf b) (c := c) h top
    simp only [dminOf] at reported
    exact reported
  · change (d.bus.endTask .clc _ _).toAtu = _
    rw [endTask_of_service _ _ serving]
    exact told.toAtu
  · exact endTask_service _ _ _ _
  · change (d.bus.endTask .clc _ (profileDetails changed 3 d.own.mask)).outcomes = _
    rw [endTask_outcomes _ _ serving, told.outcomes, newMask]
    rfl

end Sys2Proof.Machine

/-! PROOFS. Rotors and thermal states over a tick (R86, R95, R96, R99, R100), seen from one rotor and from one zone; and the
hold timer (R101). -/

namespace Sys2Proof.Machine

open Sys2Proof

/-! ### What goes on while something stands -/

/-- The requests to the ATU and the messages to the SLS go on. -/
structure Bus.Grows (b b' : Bus) : Prop where
  alarms : b.toAtu ⊆ b'.toAtu
  orders : b.clcSls ⊆ b'.clcSls

theorem Bus.Grows.refl (b : Bus) : Bus.Grows b b := ⟨List.Subset.refl _, List.Subset.refl _⟩

theorem Bus.Grows.trans {a b c : Bus} (h : Bus.Grows a b) (h' : Bus.Grows b c) : Bus.Grows a c :=
  ⟨List.Subset.trans h.alarms h'.alarms, List.Subset.trans h.orders h'.orders⟩

theorem Bus.Sends.grows {a : List AlarmRequest} {r : List DutyReport} {b b' : Bus} (h : Bus.Sends a r b b') :
    Bus.Grows b b' :=
  ⟨by rw [h.toAtu]; exact List.subset_append_left _ _, by rw [h.clcSls]; exact List.Subset.refl _⟩

/-- What p reads of the CLC stands, and the requests to the ATU and the messages to the SLS go on. -/
structure Passes {X : Type} (p : Clc → X) (c d : At Clc) : Prop where
  same : p d.own = p c.own
  grows : Bus.Grows c.bus d.bus

namespace Passes

variable {X : Type} {p : Clc → X} {a b c : At Clc}

theorem refl (c : At Clc) : Passes p c c := ⟨rfl, .refl _⟩

theorem trans (h : Passes p a b) (h' : Passes p b c) : Passes p a c := ⟨h'.same.trans h.same, h.grows.trans h'.grows⟩

theorem foldl {n : Nat} {f : At Clc → Fin n → At Clc} (hf : ∀ c i, Passes p c (f c i)) (l : List (Fin n)) (c : At Clc) :
    Passes p c (l.foldl f c) :=
  foldl_keeps (I := fun d => Passes p c d) (fun d i h => h.trans (hf d i)) l (refl c)

/-- A run of steps over all items, of which one alone changes what p reads. -/
theorem split {n : Nat} {f : At Clc → Fin n → At Clc} {k : Fin n} (others : ∀ c i, i ≠ k → Passes p c (f c i))
    (c : At Clc) : ∃ d, Passes p c d ∧ Passes p (f d k) ((indices n).foldl f c) :=
  foldl_split refl trans others (indices_nodup n) (mem_indices k) c

/-- What reads less stands too. -/
theorem map {Y : Type} (g : X → Y) (h : Passes p a b) : Passes (fun x => g (p x)) a b := ⟨congrArg g h.same, h.grows⟩

end Passes

/-! ### Stage 1: one window closed (R95, R96) -/

/-- A rotor judged is written or moved, after a request to the ATU or none. -/
theorem judgeRotor_writes (k : Fin 12) (good : Bool) (r : RotorRec) (c : At Clc) : ∃ a b r', Bus.Sends a [] c.bus b ∧
    (judgeRotor k good r c = writeRotor k r' { c with bus := b } ∨
      judgeRotor k good r c = moveRotor k r' { c with bus := b }) := by
  have written (r' : RotorRec) : ∃ a b r'', Bus.Sends a [] c.bus b ∧ (writeRotor k r' c = writeRotor k r'' { c with bus := b } ∨
      writeRotor k r' c = moveRotor k r'' { c with bus := b }) := ⟨_, c.bus, r', .refl _, .inl rfl⟩
  unfold judgeRotor
  split
  next =>
    split_ifs
    · exact ⟨_, _, _, .raise _ _ _, .inr rfl⟩
    · exact written _
  next => exact written _
  next => exact written _
  next => exact written _
  next =>
    split_ifs
    · exact ⟨_, _, _, .clearAlarm _ _ _, .inr rfl⟩
    · exact written _
  next =>
    split_ifs
    · exact ⟨_, _, _, .clearAlarm _ _ _, .inr rfl⟩
    · exact written _
  next => exact written _
  next => exact written _

theorem closeWindow_writes (c : At Clc) (k : Fin 12) : ∃ a b r', Bus.Sends a [] c.bus b ∧
    (closeWindow c k = writeRotor k r' { c with bus := b } ∨ closeWindow c k = moveRotor k r' { c with bus := b }) := by
  unfold closeWindow
  dsimp only
  split
  · exact ⟨_, c.bus, _, .refl _, .inl rfl⟩
  · exact judgeRotor_writes _ _ _ _

/-- What neither the write of the rotor nor the look at its zone changes stands while its window is closed. -/
theorem closeWindow_passes {X : Type} {p : Clc → X} {k : Fin 12}
    (written : ∀ r b, p { b with rotors := setAt b.rotors k r } = p b)
    (looked : ∀ z c, p (boostLook z c).own = p c.own) (c : At Clc) : Passes p c (closeWindow c k) := by
  obtain ⟨_, b, r, told, e | e⟩ := closeWindow_writes c k
  · rw [e]
    exact ⟨written r c.own, (told.quiet_after (writeRotor_sends { c with bus := b } k r)).grows⟩
  · rw [e]
    exact ⟨(looked _ (writeRotor k r { c with bus := b })).trans (written r c.own),
      (told.quiet_after (writeRotor_sends { c with bus := b } k r)).grows.trans (boostLook_sends _ _).grows⟩

/-! ### The other stages -/

theorem setTz_grows (c : At Clc) (z : Fin 3) : Bus.Grows c.bus (setTz c z).bus := (writeZone_sends _ _ _).grows

theorem setZoneDuty_grows (previous : Vector Nat 3) (c : At Clc) (z : Fin 3) :
    Bus.Grows c.bus (setZoneDuty previous c z).bus := (writeZone_sends _ _ _).grows

theorem setTrayDuty_grows (c : At Clc) (j : Fin 6) : Bus.Grows c.bus (setTrayDuty c j).bus :=
  (writeTray_sends _ _ _).grows

theorem foldl_grows {n : Nat} {f : At Clc → Fin n → At Clc} (hf : ∀ c i, Bus.Grows c.bus (f c i).bus) (l : List (Fin n))
    (c : At Clc) : Bus.Grows c.bus (l.foldl f c).bus :=
  foldl_keeps (I := fun d : At Clc => Bus.Grows c.bus d.bus) (fun d i h => h.trans (hf d i)) l (.refl _)

/-- Stages 2 and 3. -/
theorem stages_grow (previous : Vector Nat 3) (c : At Clc) :
    Bus.Grows c.bus (trayDutiesSet (zoneDutiesSet previous (temperaturesSet c))).bus :=
  (foldl_grows setTz_grows _ c).trans ((foldl_grows (setZoneDuty_grows previous) _ _).trans
    (foldl_grows setTrayDuty_grows _ _))

theorem openWindow_passes {X : Type} {p : Clc → X} (written : ∀ v b, p { b with rotors := v } = p b) (c : At Clc)
    (k : Fin 12) : Passes p c (openWindow c k) := ⟨written _ c.own, (writeRotor_sends _ _ _).grows⟩

theorem sendDuty_passes {X : Type} {p : Clc → X} (c : At Clc) (j : Fin 6) : Passes p c (sendDuty c j) :=
  ⟨rfl, (sendDuty_sends c j).grows⟩

theorem requestRead_passes {X : Type} {p : Clc → X} (written : ∀ v b, p { b with sensors := v } = p b) (c : At Clc)
    (n : Fin 8) : Passes p c (requestRead c n) := by
  unfold requestRead
  dsimp only
  split_ifs
  · exact ⟨written _ c.own, (writeSensor_sends c n _).grows.trans ⟨List.Subset.refl _, List.Subset.refl _⟩⟩
  · exact .refl _

/-! ### TEMP_HIGH (R99) -/

/-- The high mark of a zone after its judgement. -/
def ZoneRec.highAfter (warn : Int) (r : ZoneRec) : Bool :=
  match r.tz with
  | none => r.high
  | some x => if r.high = true then decide (warn - 3 < x) else decide (warn ≤ x)

/-- What the judgement of TEMP_HIGH asks of the ATU. -/
def highAsks (z : Fin 3) (warn : Int) (r : ZoneRec) : List AlarmRequest :=
  match r.tz with
  | none => []
  | some x =>
    if r.high = false ∧ warn ≤ x then [{ raised := true, kind := .tempHigh, object := z.val }]
    else if r.high = true ∧ x ≤ warn - 3 then [{ raised := false, kind := .tempHigh, object := z.val }]
    else []

section high

variable {c : At Clc} {z : Fin 3}

theorem judgeHigh_none (tz : c.own.zones[z].tz = none) : judgeHigh c z = c := by simp only [judgeHigh, tz]

theorem judgeHigh_some {x : Int} (tz : c.own.zones[z].tz = some x) : judgeHigh c z =
    if c.own.zones[z].high = false ∧ c.own.profile[z].twarn ≤ x then
      let d := writeZone z { c.own.zones[z] with high := true } c
      { d with bus := d.bus.raise .tempHigh z.val }
    else if c.own.zones[z].high = true ∧ x ≤ c.own.profile[z].twarn - 3 then
      let d := writeZone z { c.own.zones[z] with high := false } c
      { d with bus := d.bus.clearAlarm .tempHigh z.val }
    else c := by
  simp only [judgeHigh, tz, Bool.not_eq_true']

theorem ZoneRec.highAfter_some {r : ZoneRec} {warn x : Int} (tz : r.tz = some x) :
    r.highAfter warn = if r.high = true then decide (warn - 3 < x) else decide (warn ≤ x) := by
  simp only [highAfter, tz]

theorem judgeHigh_own (c : At Clc) (z : Fin 3) : (judgeHigh c z).own = { c.own with
    zones := setAt c.own.zones z { c.own.zones[z] with high := c.own.zones[z].highAfter c.own.profile[z].twarn } } := by
  cases tz : c.own.zones[z].tz with
  | none =>
    have stays : c.own.zones[z].highAfter c.own.profile[z].twarn = c.own.zones[z].high := by
      simp only [ZoneRec.highAfter, tz]
    rw [judgeHigh_none tz, stays, setAt_self]
  | some x =>
    rw [judgeHigh_some tz, ZoneRec.highAfter_some tz]
    cases high : c.own.zones[z].high with
    | false =>
      simp only [true_and, false_and, Bool.false_eq_true, if_false]
      split_ifs with warm
      · rw [decide_eq_true warm]
        rfl
      · rw [decide_eq_false warm, ← high, setAt_self]
    | true =>
      simp only [true_and, false_and, Bool.true_eq_false, if_false, if_true]
      split_ifs with cool
      · rw [decide_eq_false (not_lt.2 cool)]
        rfl
      · rw [decide_eq_true (not_le.1 cool), ← high, setAt_self]

theorem judgeHigh_sends (c : At Clc) (z : Fin 3) :
    Bus.Sends (highAsks z c.own.profile[z].twarn c.own.zones[z]) [] c.bus (judgeHigh c z).bus := by
  cases tz : c.own.zones[z].tz with
  | none =>
    rw [judgeHigh_none tz]
    simp only [highAsks, tz]
    exact .refl _
  | some x =>
    rw [judgeHigh_some tz]
    simp only [highAsks, tz]
    split_ifs
    · exact (writeZone_sends _ _ _).quiet (.raise _ _ _)
    · exact (writeZone_sends _ _ _).quiet (.clearAlarm _ _ _)
    · exact .refl _

end high

end Sys2Proof.Machine

/-! PROOFS. The thermal state of a zone (R99 to R101): the table of R100 at a tick, and the hold timer. -/

namespace Sys2Proof.Machine

open Sys2Proof

/-! ### Orders and hot flags (R79, R100) -/

theorem mem_slotsOfZone {z : Fin 3} {i : Slot} : i ∈ slotsOfZone z ↔ (zoneOfSlot i).val = z.val := by
  simp [slotsOfZone]

theorem foldl_orders (l : List Slot) (b : Bus) : l.foldl (fun b i => b.sendClcSls (.thermalOff i)) b =
    { b with clcSls := b.clcSls ++ l.map ClcToSls.thermalOff } := by
  induction l generalizing b with
  | nil => simp
  | cons i l ih =>
    rw [List.foldl_cons, ih]
    simp [Bus.sendClcSls]

/-- The orders of a zone go out in ascending order of its slots (R101). -/
theorem sendOrders_eq (z : Fin 3) (c : At Clc) : sendOrders z c =
    { c with bus := { c.bus with clcSls := c.bus.clcSls ++ (slotsOfZone z).map ClcToSls.thermalOff } } := by
  simp only [sendOrders, foldl_orders]

/-- Each slot of the zone has its order. -/
theorem thermalOff_mem_sendOrders {z : Fin 3} {i : Slot} (c : At Clc) (here : (zoneOfSlot i).val = z.val) :
    ClcToSls.thermalOff i ∈ (sendOrders z c).bus.clcSls := by
  rw [sendOrders_eq]
  exact List.mem_append_right _ (List.mem_map_of_mem (mem_slotsOfZone.2 here))

theorem sendOrders_grows (z : Fin 3) (c : At Clc) : Bus.Grows c.bus (sendOrders z c).bus := by
  rw [sendOrders_eq]
  exact ⟨List.Subset.refl _, List.subset_append_left _ _⟩

theorem sendHot_toAtu (z : Fin 3) (hot : Bool) (b : Bus) : (sendHot z hot b).toAtu = b.toAtu := by
  unfold sendHot
  split_ifs <;> rfl

theorem sendHot_grows (z : Fin 3) (hot : Bool) (b : Bus) : Bus.Grows b (sendHot z hot b) := by
  refine ⟨by rw [sendHot_toAtu]; exact List.Subset.refl _, ?_⟩
  unfold sendHot
  split_ifs
  · exact List.subset_append_left _ _
  · exact List.Subset.refl _

/-! ### The table of R100 -/

section table

variable {c : At Clc} {z : Fin 3} {x : Int}

/-- TEMP_CRITICAL raised, the hot flag set and the hold timer started. -/
def beginCritical (z : Fin 3) (c : At Clc) : At Clc :=
  let d := setThermal z .holding (.running 10000) c
  { d with bus := sendHot z true (d.bus.raise .tempCritical z.val) }

theorem setThermal_zone (z : Fin 3) (st : ThermalState) (hold : Timer) (c : At Clc) :
    (setThermal z st hold c).own.zones[z] = { c.own.zones[z] with thermal := st, holdTimer := hold } :=
  setAt_get_self _ _ _

theorem endCritical_zone (z : Fin 3) (c : At Clc) :
    (endCritical z c).own.zones[z] = { c.own.zones[z] with thermal := .clear, holdTimer := .stopped } :=
  setThermal_zone z .clear .stopped c

theorem setThermal_grows (z : Fin 3) (st : ThermalState) (hold : Timer) (c : At Clc) :
    Bus.Grows c.bus (setThermal z st hold c).bus := (writeZone_sends _ _ _).grows

theorem endCritical_grows (z : Fin 3) (c : At Clc) : Bus.Grows c.bus (endCritical z c).bus :=
  (setThermal_grows z .clear .stopped c).trans ((Bus.Sends.clearAlarm _ _ _).grows.trans (sendHot_grows _ _ _))

theorem beginCritical_grows (z : Fin 3) (c : At Clc) : Bus.Grows c.bus (beginCritical z c).bus :=
  (setThermal_grows z .holding (.running 10000) c).trans ((Bus.Sends.raise _ _ _).grows.trans (sendHot_grows _ _ _))

theorem clear_mem_endCritical (z : Fin 3) (c : At Clc) :
    { raised := false, kind := .tempCritical, object := z.val } ∈ (endCritical z c).bus.toAtu := by
  simp only [endCritical, sendHot_toAtu, Bus.clearAlarm]
  exact List.mem_append_right _ (List.mem_singleton_self _)

theorem raise_mem_beginCritical (z : Fin 3) (c : At Clc) :
    { raised := true, kind := .tempCritical, object := z.val } ∈ (beginCritical z c).bus.toAtu := by
  simp only [beginCritical, sendHot_toAtu, Bus.raise]
  exact List.mem_append_right _ (List.mem_singleton_self _)

/-- With Tz UNKNOWN a TRIPPED zone sends its orders, and nothing else happens. -/
theorem judgeCritical_unknown (tz : c.own.zones[z].tz = none) : judgeCritical c z =
    if c.own.zones[z].thermal = .tripped then sendOrders z c else c := by
  cases st : c.own.zones[z].thermal
  all_goals
    simp only [judgeCritical, tz, st]
    rfl

/-- At or above Tcrit. -/
theorem judgeCritical_hot (tz : c.own.zones[z].tz = some x) (hot : c.own.profile[z].tcrit ≤ x) : judgeCritical c z =
    match c.own.zones[z].thermal with
    | .clear => beginCritical z c
    | .critical => setThermal z .holding (.running 10000) c
    | .holding => c
    | .tripped => sendOrders z c := by
  cases st : c.own.zones[z].thermal
  all_goals simp only [judgeCritical, tz, st, hot, if_true]
  case clear => rfl

/-- Below Tcrit by less than 5. -/
theorem judgeCritical_warm (tz : c.own.zones[z].tz = some x) (low : c.own.profile[z].tcrit - 5 < x)
    (high : x < c.own.profile[z].tcrit) : judgeCritical c z =
    match c.own.zones[z].thermal with
    | .clear | .critical => c
    | .holding | .tripped => setThermal z .critical .stopped c := by
  cases st : c.own.zones[z].thermal <;>
    simp only [judgeCritical, tz, st, not_le.2 high, not_le.2 low, if_false]

/-- Below Tcrit by 5 or more. -/
theorem judgeCritical_cool (tz : c.own.zones[z].tz = some x) (cool : x ≤ c.own.profile[z].tcrit - 5) :
    judgeCritical c z = if c.own.zones[z].thermal = .clear then c else endCritical z c := by
  have below : ¬ c.own.profile[z].tcrit ≤ x := by omega
  cases st : c.own.zones[z].thermal <;> simp only [judgeCritical, tz, st, below, cool, if_false, if_true] <;> rfl

theorem beginCritical_zone (z : Fin 3) (c : At Clc) :
    (beginCritical z c).own.zones[z] = { c.own.zones[z] with thermal := .holding, holdTimer := .running 10000 } :=
  setThermal_zone z .holding (.running 10000) c

theorem judgeCritical_hot_thermal (tz : c.own.zones[z].tz = some x) (hot : c.own.profile[z].tcrit ≤ x) :
    (judgeCritical c z).own.zones[z].thermal =
      if c.own.zones[z].thermal = .tripped then .tripped else .holding := by
  rw [judgeCritical_hot tz hot]
  cases st : c.own.zones[z].thermal
  case clear => exact congrArg ZoneRec.thermal (beginCritical_zone z c)
  case critical => exact congrArg ZoneRec.thermal (setThermal_zone z .holding (.running 10000) c)
  case holding => exact st
  case tripped => exact st

theorem judgeCritical_warm_zone (tz : c.own.zones[z].tz = some x) (low : c.own.profile[z].tcrit - 5 < x)
    (high : x < c.own.profile[z].tcrit) : (judgeCritical c z).own.zones[z] =
      if c.own.zones[z].thermal = .clear ∨ c.own.zones[z].thermal = .critical then c.own.zones[z]
      else { c.own.zones[z] with thermal := .critical, holdTimer := .stopped } := by
  rw [judgeCritical_warm tz low high]
  cases c.own.zones[z].thermal
  case clear => rfl
  case critical => rfl
  case holding => exact setThermal_zone z .critical .stopped c
  case tripped => exact setThermal_zone z .critical .stopped c

theorem judgeCritical_warm_thermal (tz : c.own.zones[z].tz = some x) (low : c.own.profile[z].tcrit - 5 < x)
    (high : x < c.own.profile[z].tcrit) : (judgeCritical c z).own.zones[z].thermal =
      if c.own.zones[z].thermal = .clear then .clear else .critical := by
  rw [judgeCritical_warm_zone tz low high]
  cases st : c.own.zones[z].thermal
  case clear => exact st
  case critical => exact st
  case holding => rfl
  case tripped => rfl

theorem judgeCritical_cool_zone (tz : c.own.zones[z].tz = some x) (cool : x ≤ c.own.profile[z].tcrit - 5) :
    (judgeCritical c z).own.zones[z] = if c.own.zones[z].thermal = .clear then c.own.zones[z]
      else { c.own.zones[z] with thermal := .clear, holdTimer := .stopped } := by
  rw [judgeCritical_cool tz cool]
  split_ifs
  · rfl
  · exact endCritical_zone z c

/-- What reads no zone but others stands, whatever the table says. -/
theorem judgeCritical_passes {X : Type} {p : Clc → X} {z : Fin 3}
    (written : ∀ r b, p { b with zones := setAt b.zones z r } = p b) (c : At Clc) : Passes p c (judgeCritical c z) := by
  have set (st : ThermalState) (hold : Timer) : Passes p c (setThermal z st hold c) :=
    ⟨written _ c.own, setThermal_grows _ _ _ _⟩
  have ended : Passes p c (endCritical z c) := ⟨written _ c.own, endCritical_grows z c⟩
  have ordered : Passes p c (sendOrders z c) := ⟨by rw [sendOrders_eq], sendOrders_grows z c⟩
  unfold judgeCritical
  dsimp only
  split
  next => exact ordered
  next => exact .refl c
  next =>
    split_ifs
    · exact ⟨written _ c.own, beginCritical_grows z c⟩
    · exact .refl c
  next => split_ifs; exacts [set _ _, ended, .refl c]
  next => split_ifs; exacts [.refl c, ended, set _ _]
  next => split_ifs; exacts [ordered, ended, set _ _]

end table

theorem judgeHigh_passes {X : Type} {p : Clc → X} {z : Fin 3}
    (written : ∀ r b, p { b with zones := setAt b.zones z r } = p b) (c : At Clc) : Passes p c (judgeHigh c z) :=
  ⟨by rw [judgeHigh_own]; exact written _ c.own, (judgeHigh_sends c z).grows⟩

/-! ### A tick seen from one zone -/

/-- What the thermal judgement of a zone reads and writes, but for Tz. -/
def Clc.watched (z : Fin 3) (b : Clc) : Vector ZoneProfile 3 × Bool × ThermalState × Timer :=
  (b.profile, b.zones[z].high, b.zones[z].thermal, b.zones[z].holdTimer)

/-- The profile and the record of a zone. -/
def Clc.zoneAt (z : Fin 3) (b : Clc) : Vector ZoneProfile 3 × ZoneRec := (b.profile, b.zones[z])

theorem watched_boostLook (z x : Fin 3) (c : At Clc) : (boostLook x c).own.watched z = c.own.watched z := by
  simp only [Clc.watched, boostLook_profile, boostLook_zones]
  rw [setAt_get]
  split_ifs with here
  · subst here
    rfl
  · rfl

theorem dutiesSet_profile (c : At Clc) : (dutiesSet c).own.profile = (windowsClosed c).own.profile := by
  unfold dutiesSet
  rw [trayDutiesSet_own, zoneDutiesSet_own, temperaturesSet_own]

/-- Stages 2 and 3 set Tz and the duty of a zone, and leave the rest of its record. -/
theorem dutiesSet_zone (c : At Clc) (z : Fin 3) : (dutiesSet c).own.zones[z] = { (windowsClosed c).own.zones[z] with
    tz := (dutiesSet c).own.zones[z].tz, duty := (dutiesSet c).own.zones[z].duty } := by
  have zones : (dutiesSet c).own.zones =
      (zoneDutiesSet c.own.zoneDuties (temperaturesSet (windowsClosed c))).own.zones := by
    unfold dutiesSet
    rw [trayDutiesSet_own]
  rw [zones, zoneDutiesSet_zone, temperaturesSet_zone]

theorem dutiesSet_grows (c : At Clc) : Bus.Grows (windowsClosed c).bus (dutiesSet c).bus :=
  stages_grow c.own.zoneDuties (windowsClosed c)

theorem dutiesSet_watched (z : Fin 3) (c : At Clc) : Passes (Clc.watched z) c (dutiesSet c) := by
  have closed : Passes (Clc.watched z) c (windowsClosed c) :=
    Passes.foldl (fun d _ => closeWindow_passes (fun _ _ => rfl) (fun x e => watched_boostLook z x e) d) _ c
  refine closed.trans ⟨?_, dutiesSet_grows c⟩
  simp only [Clc.watched, dutiesSet_profile]
  rw [dutiesSet_zone]

/-- A zone's thermal judgement in a tick: nothing of it changes before, TEMP_HIGH and the table of R100 are judged on its
record, and its record stands after. -/
theorem controlCycle_zone (z : Fin 3) (c : At Clc) : ∃ d e : At Clc, Passes (Clc.watched z) c d ∧
    Passes (Clc.zoneAt z) (judgeHigh d z) e ∧ Passes (Clc.zoneAt z) (judgeCritical e z) (controlCycle c) := by
  have others {x : Fin 3} (other : x ≠ z) (r : ZoneRec) (b : Clc) :
      Clc.zoneAt z { b with zones := setAt b.zones x r } = b.zoneAt z := by
    simp only [Clc.zoneAt]
    rw [setAt_get_ne _ _ _ _ other]
  have reported : Passes (Clc.watched z) c (traysReported (windowsOpened (dutiesSet c))) :=
    (dutiesSet_watched z c).trans ((Passes.foldl (openWindow_passes fun _ _ => rfl) _ _).trans
      (Passes.foldl sendDuty_passes _ _))
  obtain ⟨d, before, high⟩ := Passes.split (p := Clc.zoneAt z) (k := z) (fun c x other => judgeHigh_passes (others other) c)
    (traysReported (windowsOpened (dutiesSet c)))
  obtain ⟨e, between, critical⟩ := Passes.split (p := Clc.zoneAt z) (k := z)
    (fun c x other => judgeCritical_passes (others other) c) (highsJudged (traysReported (windowsOpened (dutiesSet c))))
  exact ⟨d, e, reported.trans (before.map fun x => (x.1, x.2.high, x.2.thermal, x.2.holdTimer)), high.trans between,
    critical.trans (Passes.foldl (requestRead_passes fun _ _ => rfl) _ _)⟩

/-! ### The tick of the whole part -/

/-- The polls of the PBU ask the ATU nothing and tell the SLS nothing for the CLC. -/
theorem pollModules_quiet (c : At Pbu) :
    (pollModules c).bus.toAtu = c.bus.toAtu ∧ (pollModules c).bus.clcSls = c.bus.clcSls := by
  unfold pollModules
  refine foldl_keeps (I := fun d : At Pbu => d.bus.toAtu = c.bus.toAtu ∧ d.bus.clcSls = c.bus.clcSls) (c := c)
    (fun d b hd => ?_) (indices 4) ⟨rfl, rfl⟩
  split_ifs
  · simpa only [requestPoll, writeModule, markIf_eq, Bus.request] using hd
  · exact hd

/-- The CLC and the bus that its tick finds. -/
def tickAt (s : State) : At Clc := { own := s.clc, bus := (tbTick { own := s.tb, bus := s.bus }).bus }

/-- A tick, seen from the CLC: its cycle, and its requests and messages as the cycle leaves them. -/
theorem exec_cycleTick (s : State) : ∃ t, exec .cycleTick s = .next t ∧ t.clc = (controlCycle (tickAt s)).own ∧
    t.bus.toAtu = (controlCycle (tickAt s)).bus.toAtu ∧ t.bus.clcSls = (controlCycle (tickAt s)).bus.clcSls := by
  have found : ({ own := (s.onTb tbTick).clc, bus := (s.onTb tbTick).bus } : At Clc) = tickAt s := rfl
  refine ⟨((s.onTb tbTick).onClc controlCycle).onPbu pollModules, rfl, ?_, ?_, ?_⟩
  · rw [onPbu_clc, onClc_clc, found]
  · rw [onPbu_bus, (pollModules_quiet _).1, onClc_bus, found]
  · rw [onPbu_bus, (pollModules_quiet _).2, onClc_bus, found]

/-- A tick from s to t seen from one zone: e is the CLC whose record of the zone, with Tz set and TEMP_HIGH judged, is
judged by the table of R100. -/
structure ZoneTick (s t : State) (z : Fin 3) (e : At Clc) : Prop where
  profile : e.own.profile = s.clc.profile
  thermal : e.own.zones[z].thermal = s.clc.zones[z].thermal
  high : e.own.zones[z].high =
    { e.own.zones[z] with high := s.clc.zones[z].high }.highAfter s.clc.profile[z].twarn
  highAsked : highAsks z s.clc.profile[z].twarn { e.own.zones[z] with high := s.clc.zones[z].high } ⊆ t.bus.toAtu
  record : t.clc.zones[z] = (judgeCritical e z).own.zones[z]
  alarms : (judgeCritical e z).bus.toAtu ⊆ t.bus.toAtu
  orders : (judgeCritical e z).bus.clcSls ⊆ t.bus.clcSls

theorem cycleTick_zone (s : State) (z : Fin 3) : ∃ t, exec .cycleTick s = .next t ∧ ∃ e, ZoneTick s t z e := by
  obtain ⟨t, run, cooling, alarms, orders⟩ := exec_cycleTick s
  obtain ⟨d, e, before, between, after⟩ := controlCycle_zone z (tickAt s)
  have stood := before.same
  have judged := between.same
  have ended := after.same
  simp only [Clc.watched, Clc.zoneAt, Prod.mk.injEq] at stood judged ended
  obtain ⟨profile, high, thermal, -⟩ := stood
  rw [judgeHigh_own, setAt_get_self] at judged
  obtain ⟨profile', record⟩ := judged
  have profileOf : d.own.profile = s.clc.profile := profile
  have before_high : { e.own.zones[z] with high := s.clc.zones[z].high } = d.own.zones[z] := by
    rw [record]
    exact congrArg (fun x => { d.own.zones[z] with high := x }) high.symm
  have grown := between.grows.trans ((judgeCritical_passes (p := fun _ => ()) (fun _ _ => rfl) e).grows.trans
    after.grows)
  refine ⟨t, run, e, profile'.trans profile, ?_, ?_, ?_, ?_, ?_, ?_⟩
  · rw [record]
    exact thermal
  · rw [before_high, record, profileOf]
  · rw [before_high, ← profileOf, alarms]
    refine List.Subset.trans ?_ grown.alarms
    rw [(judgeHigh_sends d z).toAtu]
    exact List.subset_append_right _ _
  · rw [cooling]
    exact ended.2
  · exact alarms ▸ after.grows.alarms
  · exact orders ▸ after.grows.orders

/-- The table of R100 changes the thermal state and the hold timer of a zone alone. -/
theorem judgeCritical_zone (c : At Clc) (z : Fin 3) : ∃ st hold, (judgeCritical c z).own.zones[z] =
    { c.own.zones[z] with thermal := st, holdTimer := hold } := by
  have set (st : ThermalState) (hold : Timer) : ∃ st' hold', (setThermal z st hold c).own.zones[z] =
      { c.own.zones[z] with thermal := st', holdTimer := hold' } := ⟨_, _, setThermal_zone z st hold c⟩
  have ended : ∃ st hold, (endCritical z c).own.zones[z] =
      { c.own.zones[z] with thermal := st, holdTimer := hold } := ⟨_, _, endCritical_zone z c⟩
  have stands : ∃ st hold, c.own.zones[z] = { c.own.zones[z] with thermal := st, holdTimer := hold } := ⟨_, _, rfl⟩
  unfold judgeCritical
  dsimp only
  split
  next => exact stands
  next => exact stands
  next => split_ifs; exacts [set _ _, stands]
  next => split_ifs; exacts [set _ _, ended, stands]
  next => split_ifs; exacts [stands, ended, set _ _]
  next => split_ifs; exacts [stands, ended, set _ _]

/-! ### The hold timer (R101) -/

/-- The expiry of a running hold: TRIPPED with its orders, or CRITICAL. -/
theorem holdExpired_running {c : At Clc} {z : Fin 3} {ms : Nat} (holding : c.own.zones[z].thermal = .holding)
    (runs : c.own.zones[z].holdTimer = .running ms) : holdExpired z c =
    if c.own.zones[z].tz.all (fun x => decide (c.own.profile[z].tcrit ≤ x)) = true then
      setThermal z .tripped .stopped (sendOrders z c)
    else setThermal z .critical .stopped c := by
  simp only [holdExpired, holding, runs]
  cases c.own.zones[z].tz <;> rfl

theorem holdExpired_idle {c : At Clc} {z : Fin 3}
    (idle : c.own.zones[z].thermal ≠ .holding ∨ c.own.zones[z].holdTimer = .stopped) : holdExpired z c = c := by
  unfold holdExpired
  dsimp only
  split
  next holding runs =>
    rcases idle with other | stopped
    · exact absurd holding other
    · rw [stopped] at runs
      cases runs
  next => rfl

/-- A zone that leaves HOLDING marks its record and changes nothing else. -/
theorem setThermal_of_changed {c : At Clc} {z : Fin 3} {st : ThermalState} (hold : Timer)
    (changed : c.own.zones[z].thermal ≠ st) : setThermal z st hold c =
    { own := { c.own with zones := setAt c.own.zones z { c.own.zones[z] with thermal := st, holdTimer := hold } }
      bus := { c.bus with toSpw := c.bus.toSpw ++ [.zone z] } } := by
  have differs : ({ c.own.zones[z] with thermal := st, holdTimer := hold } != c.own.zones[z]) = true := by
    rw [bne_iff_ne]
    exact fun e => changed (congrArg ZoneRec.thermal e).symm
  simp only [setThermal, writeZone, markIf_eq, differs, if_true]

/-- Settles O42: the judgement of one zone at a tick, and the expiry of its hold timer. -/
theorem thermalStateFollowsTheTable : Obligations.ThermalStateFollowsTheTable := by
  unfold Obligations.ThermalStateFollowsTheTable
  refine ⟨fun s z => ?_, fun s z ms holding runs => ?_, fun s z idle => ?_⟩
  · obtain ⟨t, run, e, tick⟩ := cycleTick_zone s z
    obtain ⟨st, hold, kept⟩ := judgeCritical_zone e z
    have tz : t.clc.zones[z].tz = e.own.zones[z].tz := by rw [tick.record, kept]
    have mark : t.clc.zones[z].high = e.own.zones[z].high := by rw [tick.record, kept]
    have thermal := tick.thermal
    refine ⟨t, run, ?_⟩
    intro crit old new high warn
    have critical : e.own.profile[z].tcrit = crit := by rw [tick.profile]
    refine ⟨fun unknown => ?_, fun x known => ?_⟩
    · rw [tz] at unknown
      have table := judgeCritical_unknown unknown
      refine ⟨?_, ?_, fun tripped i here => tick.orders ?_⟩
      · change t.clc.zones[z].thermal = old
        rw [tick.record, table]
        split_ifs
        · exact thermal
        · exact thermal
      · rw [mark, tick.high]
        simp only [ZoneRec.highAfter, unknown, high]
      · rw [table, if_pos (thermal.trans tripped)]
        exact thermalOff_mem_sendOrders e here
    rw [tz] at known
    have hot (h : crit ≤ x) := judgeCritical_hot known (critical.trans_le h)
    refine ⟨?_, fun off warm => tick.highAsked ?_, fun on cool => tick.highAsked ?_, fun h => ?_, fun low below => ?_,
      fun h => ?_, fun h clear => ?_, fun h raised => tick.alarms ?_, fun h tripped i here => tick.orders ?_,
      fun below raised rising => ?_⟩
    · rw [mark, tick.high]
      exact ZoneRec.highAfter_some (r := { e.own.zones[z] with high := s.clc.zones[z].high }) known
    · simp only [highAsks, known]
      rw [if_pos ⟨off, warm⟩]
      exact List.mem_singleton_self _
    · have on' : s.clc.zones[z].high = true := on
      simp only [highAsks, known, on', Bool.true_eq_false, false_and, if_false, true_and]
      rw [if_pos cool]
      exact List.mem_singleton_self _
    · change t.clc.zones[z].thermal = _
      rw [tick.record, judgeCritical_hot_thermal known (critical.trans_le h), thermal]
    · change t.clc.zones[z].thermal = _
      rw [tick.record, judgeCritical_warm_thermal known (by omega) (by omega), thermal]
    · change t.clc.zones[z].thermal = _
      rw [tick.record, judgeCritical_cool_zone known (by omega)]
      split_ifs with clear
      · exact clear
      · rfl
    · have begins := hot h
      rw [thermal.trans clear] at begins
      rw [tick.record, begins]
      refine ⟨tick.alarms ?_, congrArg ZoneRec.holdTimer (beginCritical_zone z e)⟩
      rw [begins]
      exact raise_mem_beginCritical z e
    · rw [judgeCritical_cool known (by omega), if_neg fun clear => raised (thermal.symm.trans clear)]
      exact clear_mem_endCritical z e
    · rw [hot h, thermal.trans tripped]
      exact thermalOff_mem_sendOrders e here
    · rw [tick.record]
      by_cases cool : x ≤ crit - 5
      · rw [judgeCritical_cool_zone known (by omega), if_neg fun clear => raised (thermal.symm.trans clear)]
      · rw [judgeCritical_warm_zone known (by omega) (by omega), if_neg]
        rintro (clear | critical)
        · exact raised (thermal.symm.trans clear)
        · exact rising (thermal.symm.trans critical)
  · intro trips slots
    change Host.Outcome.next ((s.withBus s.bus).onClc (holdExpired z)) = _
    have expires := holdExpired_running (c := { own := s.clc, bus := s.bus }) holding runs
    have leaves {st : ThermalState} (other : st ≠ .holding) : s.clc.zones[z].thermal ≠ st := holding ▸ other.symm
    by_cases hot : trips = true
    · have trip := expires.trans (if_pos hot)
      rw [sendOrders_eq, setThermal_of_changed _ (leaves (by decide))] at trip
      rw [onClc_eq trip, if_pos hot, if_pos hot]
      rfl
    · have calm := expires.trans (if_neg hot)
      rw [setThermal_of_changed _ (leaves (by decide))] at calm
      rw [onClc_eq calm, if_neg hot, if_neg hot, List.append_nil]
  · change Host.Outcome.next ((s.withBus s.bus).onClc (holdExpired z)) = _
    rw [onClc_eq (holdExpired_idle (c := { own := s.clc, bus := s.bus }) idle)]

end Sys2Proof.Machine

/-! PROOFS. Rotors (R89, R94 to R97): the windows of a tick judged, tach edges, stall timers and the end of a spin-up. -/

namespace Sys2Proof.Machine

open Sys2Proof

/-! ### A tick seen from one rotor -/

/-- A rotor and the Rmax of its tray. -/
def Clc.rotorAt (k : Fin 12) (b : Clc) : RotorRec × Nat := (b.rotors[k], b.trays[trayOfRotor k].rmax)

theorem Clc.rotorAt_eq_iff {k : Fin 12} {b b' : Clc} : b.rotorAt k = b'.rotorAt k ↔
    b.rotors[k] = b'.rotors[k] ∧ b.trays[trayOfRotor k].rmax = b'.trays[trayOfRotor k].rmax := Prod.mk.injEq _ _ _ _ ▸ Iff.rfl

/-- Stage 4 for one rotor: the window that opens is credited with the tray's duty if the rotor is supervised (R95). -/
def RotorRec.opened (duty : Nat) (r : RotorRec) : RotorRec :=
  { r with windowDuty := if r.state = .ok ∨ r.state = .slow ∨ r.state = .stalled then some duty else none }

theorem windowsOpened_own (c : At Clc) :
    (windowsOpened c).own = { c.own with rotors := (windowsOpened c).own.rotors } := by
  refine foldl_keeps (I := fun d : At Clc => d.own = { c.own with rotors := d.own.rotors }) (fun d k hd => ?_) _ rfl
  simp only [openWindow, writeRotor_own]
  rw [hd]

theorem windowsOpened_rotor (c : At Clc) (k : Fin 12) :
    (windowsOpened c).own.rotors[k] = c.own.rotors[k].opened c.own.trays[trayOfRotor k].duty := by
  have opened := foldl_entry (I := fun d : At Clc => d.own.trays = c.own.trays) (v := fun d : At Clc => d.own.rotors)
    (f := openWindow) (g := fun k r => r.opened c.own.trays[trayOfRotor k].duty) (fun _ _ h => h)
    (fun d k h => by
      simp only [openWindow, writeRotor_own, RotorRec.opened, h, Bool.or_eq_true, beq_iff_eq, or_assoc])
    (indices_nodup 12) (c := c) rfl k
  exact opened.trans (if_pos (mem_indices k))

theorem dutiesSet_rotors (c : At Clc) : (dutiesSet c).own.rotors = (windowsClosed c).own.rotors := by
  unfold dutiesSet
  rw [trayDutiesSet_own, zoneDutiesSet_own, temperaturesSet_own]

theorem windowsOpened_grows (c : At Clc) : Bus.Grows c.bus (windowsOpened c).bus :=
  foldl_grows (fun d k => (writeRotor_sends d k _).grows) _ c

/-- The stages after the windows are opened leave the rotors and the trays alone. -/
theorem afterOpened_passes (c : At Clc) : Passes (fun b => (b.rotors, b.trays)) c
    (sensorsAsked (criticalsJudged (highsJudged (traysReported c)))) := by
  have reported : Passes (fun b => (b.rotors, b.trays)) c (traysReported c) := .foldl sendDuty_passes _ _
  have high : Passes (fun b => (b.rotors, b.trays)) (traysReported c) (highsJudged (traysReported c)) :=
    .foldl (fun d _ => judgeHigh_passes (fun _ _ => rfl) d) _ _
  have critical (d : At Clc) : Passes (fun b => (b.rotors, b.trays)) d (criticalsJudged d) :=
    .foldl (fun d _ => judgeCritical_passes (fun _ _ => rfl) d) _ _
  have asked (d : At Clc) : Passes (fun b => (b.rotors, b.trays)) d (sensorsAsked d) :=
    .foldl (requestRead_passes fun _ _ => rfl) _ _
  exact ((reported.trans high).trans (critical _)).trans (asked _)

/-- The window of another rotor. -/
theorem closeWindow_other {k i : Fin 12} (other : i ≠ k) (c : At Clc) : Passes (Clc.rotorAt k) c (closeWindow c i) :=
  closeWindow_passes (fun r b => congrArg (·, b.trays[trayOfRotor k].rmax) (setAt_get_ne b.rotors i k r other))
    (fun z e => Prod.ext (by simp only [Clc.rotorAt, boostLook_rotors]) (boostLook_trayRmax z e (trayOfRotor k))) c

/-- The windows before that of a rotor leave it alone, and so do those after it. -/
theorem windowsClosed_rotor (k : Fin 12) (c : At Clc) : ∃ d : At Clc, Passes (Clc.rotorAt k) c d ∧
    Passes (Clc.rotorAt k) (closeWindow d k) (windowsClosed c) :=
  Passes.split (fun d _ other => closeWindow_other other d) c

/-- A rotor in a tick: its window is closed on its record before the tick, and the next one is opened with the duty that its
tray has after the tick. -/
theorem controlCycle_rotor (k : Fin 12) (c : At Clc) : ∃ d : At Clc, d.own.rotorAt k = c.own.rotorAt k ∧
    (controlCycle c).own.rotors[k] =
      (closeWindow d k).own.rotors[k].opened (controlCycle c).own.trays[trayOfRotor k].duty ∧
    (closeWindow d k).bus.toAtu ⊆ (controlCycle c).bus.toAtu := by
  obtain ⟨d, before, after⟩ := windowsClosed_rotor k c
  have closed : (windowsClosed c).own.rotors[k] = (closeWindow d k).own.rotors[k] :=
    (Clc.rotorAt_eq_iff.1 after.same).1
  have later := afterOpened_passes (windowsOpened (dutiesSet c))
  rw [← controlCycle_eq] at later
  have rotors : (controlCycle c).own.rotors = (windowsOpened (dutiesSet c)).own.rotors := congrArg Prod.fst later.same
  have trays : (controlCycle c).own.trays = (windowsOpened (dutiesSet c)).own.trays := congrArg Prod.snd later.same
  refine ⟨d, before.same, ?_, ?_⟩
  · rw [rotors, trays, windowsOpened_rotor, windowsOpened_own, dutiesSet_rotors, closed]
  · exact (after.grows.trans ((dutiesSet_grows c).trans ((windowsOpened_grows _).trans later.grows))).alarms

/-! ### The table of R96 -/

section table

variable {k : Fin 12} {r : RotorRec} {c : At Clc}

theorem judgeRotor_ok_low (st : r.state = .ok) (few : r.slowRun ≠ 2) : judgeRotor k false r c =
    writeRotor k { r with slowRun := r.slowRun + 1, goodRun := 0 } c := by
  simp only [judgeRotor, st]
  rw [if_neg (by omega)]

theorem judgeRotor_ok_slows (st : r.state = .ok) (third : r.slowRun = 2) : judgeRotor k false r c =
    moveRotor k { r with state := .slow, slowRun := 3, goodRun := 0 } { c with bus := c.bus.raise .fanSlow k.val } := by
  simp only [judgeRotor, st, third, if_true]

theorem judgeRotor_ok_good (st : r.state = .ok) : judgeRotor k true r c = writeRotor k { r with slowRun := 0 } c := by
  simp only [judgeRotor, st]

theorem judgeRotor_low (st : r.state = .slow ∨ r.state = .stalled) :
    judgeRotor k false r c = writeRotor k { r with goodRun := 0 } c := by
  rcases st with st | st <;> simp only [judgeRotor, st]

theorem judgeRotor_good (st : r.state = .slow ∨ r.state = .stalled) (few : r.goodRun ≠ 2) : judgeRotor k true r c =
    writeRotor k { r with goodRun := r.goodRun + 1, slowRun := 0 } c := by
  rcases st with st | st
  all_goals
    simp only [judgeRotor, st]
    rw [if_neg (by omega)]

theorem judgeRotor_recovers (st : r.state = .slow ∨ r.state = .stalled) (third : r.goodRun = 2) : judgeRotor k true r c =
    moveRotor k { r with state := .ok, goodRun := 0, slowRun := 0 }
      { c with bus := c.bus.clearAlarm (if r.state = .slow then .fanSlow else .fanStalled) k.val } := by
  rcases st with st | st
  all_goals
    simp only [judgeRotor, st, third]
    rfl

end table

theorem writeRotor_rotor (k : Fin 12) (r : RotorRec) (c : At Clc) : (writeRotor k r c).own.rotors[k] = r :=
  setAt_get_self _ _ _

theorem moveRotor_rotor (k : Fin 12) (r : RotorRec) (c : At Clc) : (moveRotor k r c).own.rotors[k] = r := by
  rw [moveRotor_rotors, setAt_get_self]

/-- The requests to the ATU made before a rotor is moved are all it makes. -/
theorem moveRotor_toAtu (k : Fin 12) (r : RotorRec) (c : At Clc) : (moveRotor k r c).bus.toAtu = c.bus.toAtu := by
  have told := (writeRotor_sends c k r).quiet (boostLook_sends (zoneOfTray (trayOfRotor k)) (writeRotor k r c))
  exact told.toAtu.trans (List.append_nil _)

/-- The record whose window has been closed: the pulses are read and cleared (R95). -/
def RotorRec.read (r : RotorRec) : RotorRec := { r with pulses := 0, lastPulses := r.pulses, lastRpm := r.pulses * 30 }

theorem closeWindow_unjudged {c : At Clc} {k : Fin 12} (window : c.own.rotors[k].windowDuty = none) :
    closeWindow c k = writeRotor k c.own.rotors[k].read c := by
  unfold closeWindow
  dsimp only
  split
  next => rfl
  next judged => exact absurd (window.symm.trans judged) (by simp)

theorem closeWindow_judged {c : At Clc} {k : Fin 12} {d : Nat} (window : c.own.rotors[k].windowDuty = some d) {good : Bool}
    (judged : good = true ↔ ¬ 30 * c.own.rotors[k].pulses < c.own.trays[trayOfRotor k].rmax * d * 7 / 1000) :
    closeWindow c k = judgeRotor k good c.own.rotors[k].read c := by
  unfold closeWindow
  dsimp only
  split
  next unjudged => exact absurd (window.symm.trans unjudged) (by simp)
  next d' window' =>
    obtain rfl : d = d' := Option.some.inj (window.symm.trans window')
    have same : decide (expectedRpm c.own.trays[trayOfRotor k].rmax d ≤ c.own.rotors[k].pulses * 30) = good := by
      rw [Bool.eq_iff_iff, decide_eq_true_iff, judged]
      unfold expectedRpm
      omega
    rw [same]
    rfl

/-- A rotor at a tick, by its window (R95, R96): the record it is left in, and what is asked of the ATU. -/
theorem closeWindow_table {c : At Clc} {k : Fin 12} {d : Nat} (window : c.own.rotors[k].windowDuty = some d) :
    let r := c.own.rotors[k]
    let low := 30 * r.pulses < c.own.trays[trayOfRotor k].rmax * d * 7 / 1000
    let ends := fun (st : RotorState) (slow good : Nat) =>
      (closeWindow c k).own.rotors[k].state = st ∧ (closeWindow c k).own.rotors[k].slowRun = slow ∧
        (closeWindow c k).own.rotors[k].goodRun = good
    (r.state = .ok → low → r.slowRun ≠ 2 → ends .ok (r.slowRun + 1) 0) ∧
    (r.state = .ok → low → r.slowRun = 2 → ends .slow 3 0 ∧
      { raised := true, kind := .fanSlow, object := k.val } ∈ (closeWindow c k).bus.toAtu) ∧
    (r.state = .ok → ¬ low → ends .ok 0 r.goodRun) ∧
    (r.state = .slow ∨ r.state = .stalled → low → ends r.state r.slowRun 0) ∧
    (r.state = .slow ∨ r.state = .stalled → ¬ low → r.goodRun ≠ 2 → ends r.state 0 (r.goodRun + 1)) ∧
    (r.state = .slow ∨ r.state = .stalled → ¬ low → r.goodRun = 2 → ends .ok 0 0 ∧
      { raised := false, kind := if r.state = .slow then .fanSlow else .fanStalled, object := k.val } ∈
        (closeWindow c k).bus.toAtu) := by
  intro r low ends
  have bad (h : low) : closeWindow c k = judgeRotor k false r.read c := closeWindow_judged window (iff_of_false (by decide) (not_not.2 h))
  have good (h : ¬ low) : closeWindow c k = judgeRotor k true r.read c := closeWindow_judged window (iff_of_true rfl h)
  have written {r' : RotorRec} (e : closeWindow c k = writeRotor k r' c) : ends r'.state r'.slowRun r'.goodRun := by
    simp only [ends, e, writeRotor_rotor, and_self]
  have moved {r' : RotorRec} {b : Bus} (e : closeWindow c k = moveRotor k r' { c with bus := b }) :
      ends r'.state r'.slowRun r'.goodRun ∧ b.toAtu ⊆ (closeWindow c k).bus.toAtu := by
    refine ⟨?_, ?_⟩
    · simp only [ends, e, moveRotor_rotor, and_self]
    · rw [e, moveRotor_toAtu]
      exact List.Subset.refl _
  refine ⟨fun st h few => ?_, fun st h third => ?_, fun st h => ?_, fun st h => ?_, fun st h few => ?_,
    fun st h third => ?_⟩
  · exact st ▸ written ((bad h).trans (judgeRotor_ok_low (r := r.read) st few))
  · obtain ⟨ended, asked⟩ := moved ((bad h).trans (judgeRotor_ok_slows (r := r.read) st third))
    exact ⟨ended, asked (List.mem_append_right _ (List.mem_singleton_self _))⟩
  · exact st ▸ written ((good h).trans (judgeRotor_ok_good (r := r.read) st))
  · exact written ((bad h).trans (judgeRotor_low (r := r.read) st))
  · exact written ((good h).trans (judgeRotor_good (r := r.read) st few))
  · obtain ⟨ended, asked⟩ := moved ((good h).trans (judgeRotor_recovers (r := r.read) st third))
    exact ⟨ended, asked (List.mem_append_right _ (List.mem_singleton_self _))⟩

/-- A tick of the part, seen from one rotor. -/
theorem cycleTick_rotor (s : State) (k : Fin 12) : ∃ t, exec .cycleTick s = .next t ∧ ∃ d : At Clc,
    d.own.rotors[k] = s.clc.rotors[k] ∧ d.own.trays[trayOfRotor k].rmax = s.clc.trays[trayOfRotor k].rmax ∧
    t.clc.rotors[k] = (closeWindow d k).own.rotors[k].opened t.clc.trays[trayOfRotor k].duty ∧
    (closeWindow d k).bus.toAtu ⊆ t.bus.toAtu := by
  obtain ⟨t, run, cooling, alarms, -⟩ := exec_cycleTick s
  obtain ⟨d, same, rotor, asked⟩ := controlCycle_rotor k (tickAt s)
  obtain ⟨record, rmax⟩ := Clc.rotorAt_eq_iff.1 same
  exact ⟨t, run, d, record, rmax, by rw [cooling]; exact rotor, alarms ▸ asked⟩

/-! ### An edge (R95, R97) -/

theorem min_succ_eq (n m : Nat) : min (n + 1) m = if n < m then n + 1 else m := by
  split_ifs <;> omega

theorem tachEdge_own (k : Fin 12) (c : At Clc) : (tachEdge k c).own = { c.own with
    rotors := setAt c.own.rotors k
      { c.own.rotors[k] with
        pulses := if c.own.rotors[k].pulses < 65535 then c.own.rotors[k].pulses + 1 else 65535
        stallTimer := if c.own.rotors[k].stallTimer = .stopped then .stopped else .running 500 } } := by
  rw [← min_succ_eq]
  rfl

theorem tachEdge_sends (k : Fin 12) (c : At Clc) : Bus.Sends [] [] c.bus (tachEdge k c).bus := writeRotor_sends _ _ _

/-! ### The stall timer of a rotor (R97) -/

/-- A rotor written as STALLED makes the boost of its zone due. -/
theorem boostCondition_of_stalled {c : At Clc} {k : Fin 12} {r : RotorRec} (stalled : r.state = .stalled) :
    boostCondition (writeRotor k r c).own (zoneOfTray (trayOfRotor k)) = true :=
  boostCondition_iff.2 ⟨trayOfRotor k, rfl, .inr (.inr ⟨k, rfl, .inr (by rw [writeRotor_rotor, stalled])⟩)⟩

/-- A rotor whose stall timer has run out. -/
def RotorRec.stalls (r : RotorRec) : RotorRec := { r with state := .stalled, goodRun := 0, stallTimer := .runOut }

/-- What the stall of a rotor asks of the ATU. -/
def stallAsks (k : Fin 12) (r : RotorRec) : List AlarmRequest :=
  { raised := true, kind := .fanStalled, object := k.val } ::
    (if r.state = .slow then [{ raised := false, kind := .fanSlow, object := k.val }] else [])

theorem stallExpired_supervised {c : At Clc} {k : Fin 12} {ms : Nat} (runs : c.own.rotors[k].stallTimer = .running ms)
    (armed : c.own.rotors[k].armed = true) (turns : c.own.rotors[k].state = .ok ∨ c.own.rotors[k].state = .slow) :
    ∃ b, Bus.Sends (stallAsks k c.own.rotors[k]) [] c.bus b ∧
      stallExpired k c = moveRotor k c.own.rotors[k].stalls { c with bus := b } := by
  unfold stallExpired
  dsimp only
  split
  next =>
    rw [if_neg (by rw [armed]; decide)]
    split
    next st =>
      refine ⟨_, ?_, rfl⟩
      rw [stallAsks, st, if_neg (by decide)]
      exact .raise _ _ _
    next st =>
      refine ⟨_, ?_, rfl⟩
      rw [stallAsks, st, if_pos rfl]
      exact (Bus.Sends.raise _ _ _).trans (.clearAlarm _ _ _)
    all_goals next st =>
      rw [st] at turns
      exact absurd turns (by decide)
  next idle => exact absurd runs (idle ms)

/-- A rotor that stalls boosts its zone at once. -/
theorem moveRotor_stalled {c : At Clc} (h : c.own.Regulated) {k : Fin 12} {r : RotorRec} (stalled : r.state = .stalled) :
    let d := moveRotor k r c
    let z := zoneOfTray (trayOfRotor k)
    d.own = { c.own with
      rotors := setAt c.own.rotors k r
      zones := setAt c.own.zones z { c.own.zones[z] with boosted := true, duty := 100 }
      trays := d.own.trays } ∧
    (∀ j : Fin 6, d.own.trays[j] = if zoneOfTray j = z then c.own.trays[j].driven else c.own.trays[j]) ∧
    Bus.Sends [] (if c.own.zones[z].boosted = true then [] else (traysOf z).map fun j =>
      { tray := j, present := c.own.trays[j].state != .absent, fmax := c.own.trays[j].fmax
        duty := d.own.trays[j].duty }) c.bus d.bus := by
  have written := h.writeRotor k r
  have must := boostCondition_of_stalled (c := c) (k := k) stalled
  refine ⟨?_, boostLook_tray_of_must written must, ?_⟩
  · have zones := boostLook_zones_of_must written must
    unfold moveRotor
    rw [boostLook_own, ← boostLook_zones, zones]
    rfl
  · have told := boostLook_sends_of_must must
    rw [List.map_congr_left fun j _ => boostLook_dutyReport _ _ j] at told
    exact (writeRotor_sends c k r).quiet told

/-! ### The end of a spin-up (R94) -/

/-- What the end of a spin-up asks of the ATU for a rotor. -/
def spinAsks (k : Fin 12) (r : RotorRec) : List AlarmRequest :=
  if r.spinEnded.state = .stalled then [{ raised := true, kind := .fanStalled, object := k.val }] else []

theorem endSpin_toAtu (c : At Clc) (k : Fin 12) : (endSpin c k).bus.toAtu = c.bus.toAtu ++ spinAsks k c.own.rotors[k] := by
  rw [endSpin_eq, moveRotor_toAtu]
  unfold spinAsks
  split_ifs
  · rfl
  · exact (List.append_nil _).symm

theorem foldl_endSpin_toAtu (j : Fin 6) (c : At Clc) : ((rotorsOf j).foldl endSpin c).bus.toAtu =
    c.bus.toAtu ++ (rotorsOf j).flatMap fun k => spinAsks k c.own.rotors[k] :=
  foldl_sends (I := fun _ => True) (v := fun c : At Clc => c.own.rotors) (f := endSpin) (g := fun _ => RotorRec.spinEnded)
    (q := fun c => c.bus.toAtu) (m := spinAsks) (fun _ _ _ => trivial)
    (fun c k _ => by rw [endSpin_eq, moveRotor_rotors]) (fun c k _ => endSpin_toAtu c k) (rotorsOf_nodup j) trivial

/-- The tray and the bus when its spin-up ends, before its rotors are judged. -/
def spinupOver (j : Fin 6) (c : At Clc) : At Clc :=
  boostLook (zoneOfTray j) (writeTray j { c.own.trays[j] with state := .running, spinTimer := .stopped } c)

section spinup

variable {c : At Clc} {j : Fin 6}

theorem spinupExpired_running {ms : Nat} (spins : c.own.trays[j].state = .spinup)
    (runs : c.own.trays[j].spinTimer = .running ms) : spinupExpired j c = (rotorsOf j).foldl endSpin (spinupOver j c) := by
  simp only [spinupExpired, spins, runs]
  rfl

/-- A tray in SPINUP is at full duty and stays there. -/
theorem spinupOver_tray (h : c.own.Sound) (spins : c.own.trays[j].state = .spinup) : (spinupOver j c).own.trays[j] =
    { c.own.trays[j] with state := .running, spinTimer := .stopped } := by
  have duty : c.own.trays[j].duty = 100 := h.tray_full j (by rw [spins]; decide)
  have written : (writeTray j { c.own.trays[j] with state := .running, spinTimer := .stopped } c).own.trays[j] =
      { c.own.trays[j] with state := .running, spinTimer := .stopped } := by
    rw [writeTray_own, setAt_get_self, ← h.latch_right j]
  refine (boostLook_tray_of_full _ ?_ ?_).trans written
  · rw [written]
    exact duty
  · rw [written]
    exact (h.latch_right j).trans (by rw [duty])

theorem spinupExpired_tray (h : c.own.Sound) (spins : c.own.trays[j].state = .spinup) {ms : Nat}
    (runs : c.own.trays[j].spinTimer = .running ms) :
    (spinupExpired j c).own.trays[j] = { c.own.trays[j] with state := .running, spinTimer := .stopped } := by
  have duty : c.own.trays[j].duty = 100 := h.tray_full j (by rw [spins]; decide)
  rw [spinupExpired_running spins runs]
  refine endSpin_moves.keeps
    (I := fun b => b.trays[j] = { c.own.trays[j] with state := .running, spinTimer := .stopped }) (fun d k r hd => ?_) _
    (spinupOver_tray h spins)
  have same : (moveRotor k r d).own.trays[j] = d.own.trays[j] := by
    refine boostLook_tray_of_full (c := writeRotor k r d) _ ?_ ?_
    · exact (congrArg TrayRec.duty hd).trans duty
    · exact (congrArg TrayRec.pwmLatch hd).trans ((h.latch_right j).trans (by rw [duty]))
  exact same.trans hd

theorem spinupOver_rotors (j : Fin 6) (c : At Clc) : (spinupOver j c).own.rotors = c.own.rotors := boostLook_rotors _ _

theorem spinupOver_toAtu (j : Fin 6) (c : At Clc) : (spinupOver j c).bus.toAtu = c.bus.toAtu :=
  ((writeTray_sends c j _).quiet (boostLook_sends _ _)).toAtu.trans (List.append_nil _)

end spinup

section spinup

variable {c : At Clc} {j : Fin 6} {ms : Nat} (spins : c.own.trays[j].state = .spinup)
  (runs : c.own.trays[j].spinTimer = .running ms)

include spins runs

theorem spinupExpired_controls : (spinupExpired j c).own.profile = c.own.profile ∧
    (spinupExpired j c).own.sensors = c.own.sensors ∧ (spinupExpired j c).own.mask = c.own.mask := by
  obtain ⟨profile, sensors, mask⟩ := endSpin_moves.controls (rotorsOf j) (spinupOver j c)
  rw [spinupExpired_running spins runs]
  exact ⟨profile.trans (boostLook_profile _ _), sensors.trans (boostLook_sensors _ _), mask.trans (boostLook_mask _ _)⟩

theorem spinupExpired_rotor (k : Fin 12) : (spinupExpired j c).own.rotors[k] =
    if trayOfRotor k = j then c.own.rotors[k].spinEnded else c.own.rotors[k] := by
  rw [spinupExpired_running spins runs, endSpin_moves.rotor, spinupOver_rotors]

/-- Each rotor found STALLED is raised, in ascending order. -/
theorem spinupExpired_toAtu : (spinupExpired j c).bus.toAtu = c.bus.toAtu ++
    ((indices 12).filter fun k => trayOfRotor k = j ∧ (spinupExpired j c).own.rotors[k].state = .stalled).map fun k =>
      { raised := true, kind := .fanStalled, object := k.val } := by
  have found : ((indices 12).filter fun k => trayOfRotor k = j ∧ (spinupExpired j c).own.rotors[k].state = .stalled) =
      (rotorsOf j).filter fun k => c.own.rotors[k].spinEnded.state = .stalled := by
    rw [rotorsOf, List.filter_filter]
    refine List.filter_congr fun k _ => ?_
    rw [spinupExpired_rotor spins runs, ← Bool.decide_and, decide_eq_decide]
    split_ifs with here <;> simp [here]
  rw [found, ← flatMap_ite_singleton, spinupExpired_running spins runs, foldl_endSpin_toAtu, spinupOver_rotors,
    spinupOver_toAtu]
  simp only [spinAsks, decide_eq_true_eq]

end spinup

/-- Settles O41: a rotor at a tick and at an edge, the expiry of its stall timer, and the end of a spin-up. -/
theorem rotorsAreJudgedAndSupervised : Obligations.RotorsAreJudgedAndSupervised := by
  unfold Obligations.RotorsAreJudgedAndSupervised
  refine ⟨fun s k => ?_, fun s k => ?_, fun s k ms h => ?_, fun s j ms h spins runs => ?_⟩
  · intro r moved
    obtain ⟨t, run, d, record, rmax, rotor, asked⟩ := cycleTick_rotor s k
    have follows {st : RotorState} {slow good : Nat} (e : (closeWindow d k).own.rotors[k].state = st ∧
        (closeWindow d k).own.rotors[k].slowRun = slow ∧ (closeWindow d k).own.rotors[k].goodRun = good) :
        moved t st slow good := by
      simp only [moved, rotor, RotorRec.opened]
      exact e
    refine ⟨t, run, fun window => ?_, fun duty window => ?_, ?_⟩
    · refine follows ?_
      rw [closeWindow_unjudged (by rw [record]; exact window), writeRotor_rotor, record]
      exact ⟨rfl, rfl, rfl⟩
    · have table := closeWindow_table (c := d) (k := k) (d := duty) (by rw [record]; exact window)
      rw [record, rmax] at table
      obtain ⟨okLow, slows, okGood, low, good, recovers⟩ := table
      exact ⟨fun st h few => follows (okLow st h few), fun st h third => (slows st h third).imp follows (asked ·),
        fun st h => follows (okGood st h), fun st h => follows (low st h), fun st h few => follows (good st h few),
        fun st h third => (recovers st h third).imp follows (asked ·)⟩
    · rw [rotor]
      rfl
  · refine ⟨_, rfl, ?_⟩
    have own := tachEdge_own k { own := s.clc, bus := s.bus }
    have told := (tachEdge_sends k { own := s.clc, bus := s.bus }).alarms
    rw [List.append_nil] at told
    change s.onClc (tachEdge k) = _
    simp only [State.onClc, own]
    rw [told]
  · intro r z stands armed turns
    let c : At Clc := { own := s.clc, bus := s.bus }
    obtain ⟨b, asks, stalled⟩ := stallExpired_supervised (c := c) stands armed turns
    obtain ⟨own, trays, reports⟩ := moveRotor_stalled (c := { c with bus := b }) (k := k) (r := r.stalls) h.regulated rfl
    have ends := (stalled : stallExpired k c = moveRotor k r.stalls { c with bus := b })
    rw [← ends] at own trays reports
    refine ⟨_, rfl, rfl, own, fun j => (trays j).trans ?_, ?_⟩
    · rw [ite_and, ite_not]
      rfl
    · have told := asks.trans reports
      rw [List.append_nil, List.nil_append] at told
      rw [List.append_assoc]
      exact told
  · let c : At Clc := { own := s.clc, bus := s.bus }
    obtain ⟨profile, sensors, mask⟩ := spinupExpired_controls (c := c) spins runs
    refine ⟨_, rfl, rfl, spinupExpired_tray (c := c) h spins runs, profile, sensors, mask, fun k => ?_, ?_⟩
    · refine (spinupExpired_rotor (c := c) spins runs k).trans ?_
      rw [ite_not]
      refine if_congr Iff.rfl ?_ rfl
      unfold RotorRec.spinEnded
      split_ifs <;> rfl
    · exact spinupExpired_toAtu (c := c) spins runs

end Sys2Proof.Machine

/-! PROOFS. Fan trays lost, gained and identified (R92 to R94). -/

namespace Sys2Proof.Machine

open Sys2Proof

/-! ### A tray lost (R92) -/

/-- What the loss of a rotor asks of the ATU. -/
def lossAsks (k : Fin 12) (r : RotorRec) : List AlarmRequest :=
  match r.state with
  | .slow => [{ raised := false, kind := .fanSlow, object := k.val }]
  | .stalled => [{ raised := false, kind := .fanStalled, object := k.val }]
  | _ => []

theorem loseRotor_sends (c : At Clc) (k : Fin 12) :
    Bus.Sends (lossAsks k c.own.rotors[k]) [] c.bus (loseRotor c k).bus := by
  unfold loseRotor lossAsks
  dsimp only
  refine Bus.Sends.quiet_after ?_ (writeRotor_sends _ k _)
  generalize c.own.rotors[k].state = st
  cases st
  case slow => exact .clearAlarm _ _ _
  case stalled => exact .clearAlarm _ _ _
  all_goals exact .refl _

theorem foldl_loseRotor_sends (j : Fin 6) (c : At Clc) :
    Bus.Sends ((rotorsOf j).flatMap fun k => lossAsks k c.own.rotors[k]) [] c.bus ((rotorsOf j).foldl loseRotor c).bus := by
  have asked := foldl_sends (I := fun _ => True) (v := fun c : At Clc => c.own.rotors) (f := loseRotor)
    (g := fun _ => RotorRec.lost) (q := fun c => c.bus.toAtu) (m := lossAsks) (fun _ _ _ => trivial) (fun _ _ _ => rfl)
    (fun c k _ => (loseRotor_sends c k).toAtu) (rotorsOf_nodup j) (c := c) trivial
  obtain ⟨a, told⟩ := foldl_keeps (I := fun d : At Clc => ∃ a, Bus.Sends a [] c.bus d.bus)
    (fun d k ⟨_, hd⟩ => ⟨_, hd.trans (loseRotor_sends d k)⟩) (rotorsOf j) ⟨_, .refl c.bus⟩
  obtain rfl := List.append_cancel_left (told.toAtu.symm.trans asked)
  exact told

section lost

variable (j : Fin 6) (c : At Clc)

theorem trayRemoved_own : (trayRemoved j c).own = { c.own with
    rotors := (trayRemoved j c).own.rotors
    trays := setAt c.own.trays j { c.own.trays[j] with
      state := .absent, source := .none, duty := 100, pwmLatch := 1000, spinTimer := .stopped, tryNo := none
      retryTimer := .stopped, epoch := c.own.trays[j].epoch + 1 } } := by
  unfold trayRemoved
  rw [foldl_loseRotor_own]
  rfl

theorem trayRemoved_sends : Bus.Sends ((rotorsOf j).flatMap fun k => lossAsks k c.own.rotors[k]) [] c.bus
    (trayRemoved j c).bus :=
  (writeTray_sends c j _).quiet (foldl_loseRotor_sends j _)

theorem trayRemoved_fmax (i : Fin 6) : (trayRemoved j c).own.trays[i].fmax = c.own.trays[i].fmax := by
  rw [trayRemoved_own, setAt_get]
  split_ifs with here
  · rw [here]
  · rfl

theorem trayRemoved_must : boostCondition (trayRemoved j c).own (zoneOfTray j) = true := by
  refine boostCondition_iff.2 ⟨j, rfl, .inl ?_⟩
  rw [trayRemoved_own, setAt_get_self]

end lost

/-- A zone whose tray is lost: boosted, with each tray at full duty (R89, R92). -/
theorem trayLost_own {c : At Clc} (h : c.own.Sound) (j : Fin 6) :
    (trayLost j c).own.zones =
      setAt c.own.zones (zoneOfTray j) { c.own.zones[zoneOfTray j] with boosted := true, duty := 100 } ∧
    (∀ i : Fin 6, (trayLost j c).own.trays[i] = if zoneOfTray i = zoneOfTray j then
      (trayRemoved j c).own.trays[i].driven else (trayRemoved j c).own.trays[i]) ∧
    ∀ k : Fin 12, (trayLost j c).own.rotors[k] =
      if trayOfRotor k = j then c.own.rotors[k].lost else c.own.rotors[k] := by
  have regulated := (trayRemoved_settled h j).regulated
  have must := trayRemoved_must j c
  let raised : At Clc := { own := (trayRemoved j c).own, bus := (trayRemoved j c).bus.raise .fanTrayAbsent j.val }
  rw [trayLost_eq, foldl_sendDuty_own]
  refine ⟨?_, ?_, fun k => ?_⟩
  · refine (boostLook_zones_of_must (c := raised) regulated must).trans ?_
    simp only [raised]
    rw [trayRemoved_own]
  · exact boostLook_tray_of_must (c := raised) regulated must
  · rw [boostLook_rotors]
    exact foldl_loseRotor_rotor j _ k

/-- A tray of the zone as it is reported then. -/
theorem trayLost_report {c : At Clc} (h : c.own.Sound) {i j : Fin 6} (here : zoneOfTray i = zoneOfTray j) :
    (trayLost j c).own.dutyReport i =
      { tray := i, present := (trayLost j c).own.trays[i].state != .absent, fmax := c.own.trays[i].fmax, duty := 100 } := by
  have tray := (trayLost_own h j).2.1 i
  rw [if_pos here] at tray
  have fmax : (trayLost j c).own.trays[i].fmax = c.own.trays[i].fmax := by
    rw [tray, TrayRec.driven_fmax, trayRemoved_fmax]
  have duty : (trayLost j c).own.trays[i].duty = 100 := by rw [tray, (trayRemoved_settled h j).regulated.driven_duty]
  rw [Clc.dutyReport, fmax, duty]

/-- The lost tray itself. -/
theorem trayLost_tray {c : At Clc} (h : c.own.Sound) (j : Fin 6) : (trayLost j c).own.trays[j] = { c.own.trays[j] with
    state := .absent, source := .none, duty := 100, pwmLatch := 1000, spinTimer := .stopped, tryNo := none
    retryTimer := .stopped, epoch := c.own.trays[j].epoch + 1 } := by
  rw [(trayLost_own h j).2.1 j, if_pos rfl, trayRemoved_own, setAt_get_self]
  exact TrayRec.driven_of_full rfl rfl

/-- The alarms of the rotors are cleared, that of the tray is raised, and the zone's trays are reported once more after the
reports of a boost that begins. -/
theorem trayLost_sends (j : Fin 6) (c : At Clc) : ∃ boosts, Bus.Sends
    (((rotorsOf j).flatMap fun k => lossAsks k c.own.rotors[k]) ++
      [{ raised := true, kind := .fanTrayAbsent, object := j.val }])
    (boosts ++ (traysOf (zoneOfTray j)).map (trayLost j c).own.dutyReport) c.bus (trayLost j c).bus := by
  have looked := boostLook_sends (zoneOfTray j)
    { own := (trayRemoved j c).own, bus := (trayRemoved j c).bus.raise .fanTrayAbsent j.val }
  have told := (((trayRemoved_sends j c).trans (.raise _ _ _)).trans looked).trans
    (foldl_sendDuty_sends (traysOf (zoneOfTray j)) _)
  rw [List.append_nil, List.append_nil, List.nil_append] at told
  rw [trayLost_eq, foldl_sendDuty_own]
  exact ⟨_, told⟩

/-! ### A tray gained (R93) -/

/-- A zone that is boosted and must be stays as it is. -/
theorem boostLook_of_boosted {z : Fin 3} {c : At Clc} (must : boostCondition c.own z = true)
    (boosted : c.own.zones[z].boosted = true) : boostLook z c = c := by
  unfold boostLook
  rw [if_pos must, if_pos boosted]

/-- The record of a tray that has been fitted. -/
def TrayRec.gained (r : TrayRec) : TrayRec :=
  { r with state := .identifying, tryNo := some 1, duty := 100, fmax := 200, rmax := 30000, retryTimer := .stopped }

/-- The zone of an ABSENT tray is boosted already. -/
theorem trayGained_absent {c : At Clc} (h : c.own.Sound) {j : Fin 6} (absent : c.own.trays[j].state = .absent) :
    trayGained j c = sendDuty (requestTrayInventory j (writeTray j c.own.trays[j].gained c)) j := by
  have boosted : c.own.zones[zoneOfTray j].boosted = true := (h.boosted_right _).2 ⟨j, rfl, .inl absent⟩
  have must : boostCondition (writeTray j c.own.trays[j].gained c).own (zoneOfTray j) = true := by
    refine boostCondition_iff.2 ⟨j, rfl, .inr (.inl ?_)⟩
    rw [writeTray_own, setAt_get_self]
    rfl
  have stands := boostLook_of_boosted must boosted
  unfold trayGained
  dsimp only
  rw [if_pos absent]
  exact congrArg (fun d => sendDuty (requestTrayInventory j d) j) stands

section gained

variable {c : At Clc} (h : c.own.Sound) {j : Fin 6} (absent : c.own.trays[j].state = .absent)

include h absent

theorem trayGained_own : (trayGained j c).own = { c.own with
    trays := setAt c.own.trays j { c.own.trays[j].gained with pwmLatch := 1000 } } := by
  rw [trayGained_absent h absent]
  rfl

theorem trayGained_bus : (trayGained j c).bus = { c.bus with
    toSpw := (trayGained j c).bus.toSpw
    toMlc := c.bus.toMlc ++ [{ who := .clc, dev := .tray j, cmd := .inventory, tag := c.own.trays[j].epoch }]
    clcPbu := c.bus.clcPbu ++ [{ tray := j, present := true, fmax := 200, duty := 100 }] } := by
  have told := writeTray_sends c j c.own.trays[j].gained
  have record : (writeTray j c.own.trays[j].gained c).own.trays[j] =
      { c.own.trays[j].gained with pwmLatch := 1000 } := setAt_get_self _ _ _
  rw [trayGained_absent h absent]
  simp only [sendDuty, requestTrayInventory, Bus.request, Bus.sendClcPbu, record, told.toMlc, told.clcPbu]
  rw [told]
  simp only [List.append_nil]
  rfl

end gained

/-! ### The end of a wait (R93) -/

/-- A tray written with its width latch right already. -/
theorem writeTray_of_latch {j : Fin 6} {r : TrayRec} (latch : r.pwmLatch = 10 * r.duty) (c : At Clc) :
    writeTray j r c =
      { own := { c.own with trays := setAt c.own.trays j r }
        bus := c.bus.markIf (r.listed != c.own.trays[j].listed) (.tray j) } := by
  unfold writeTray
  rw [← latch]

/-- A tray's wait for its next try is no field of R81: its end marks nothing. -/
theorem trayRetry_running {c : At Clc} (h : c.own.Sound) {j : Fin 6} {ms : Nat}
    (runs : c.own.trays[j].retryTimer = .running ms) : trayRetry j c =
    { own := { c.own with trays := setAt c.own.trays j { c.own.trays[j] with retryTimer := .stopped } }
      bus := c.bus.request .clc (.tray j) .inventory c.own.trays[j].epoch } := by
  have written : writeTray j { c.own.trays[j] with retryTimer := .stopped } c =
      { c with own := { c.own with trays := setAt c.own.trays j { c.own.trays[j] with retryTimer := .stopped } } } := by
    rw [writeTray_of_latch (by exact h.latch_right j), TrayRec.listed_retryTimer, bne_self_eq_false]
    rfl
  unfold trayRetry
  dsimp only
  split
  next =>
    rw [written, requestTrayInventory, setAt_get_self]
  next idle => exact absurd runs (idle ms)

/-! ### No boost begins -/

/-- No boost is due in any zone. -/
def Clc.Calm (b : Clc) : Prop := ∀ z, boostBegins b z = false

theorem Clc.Sound.calm {b : Clc} (h : b.Sound) : b.Calm := fun z => by
  rw [boostBegins, h.boosts z]
  exact Bool.and_not_self _

/-- The condition only falls where no tray becomes ABSENT or IDENTIFYING and no rotor SLOW or STALLED. -/
theorem Clc.mustBoost_of_falls {b b' : Clc} {z : Fin 3}
    (trays : ∀ j : Fin 6, b'.trays[j].state = b.trays[j].state ∨ b'.trays[j].state = .spinup)
    (rotors : ∀ k : Fin 12, b'.rotors[k].state = b.rotors[k].state ∨ b'.rotors[k].state = .spinup)
    (must : b'.mustBoost z) : b.mustBoost z := by
  obtain ⟨j, hj, absent | identifying | ⟨k, hk, slow⟩⟩ := must
  · rcases trays j with same | spins
    · exact ⟨j, hj, .inl (same ▸ absent)⟩
    · rw [spins] at absent
      cases absent
  · rcases trays j with same | spins
    · exact ⟨j, hj, .inr (.inl (same ▸ identifying))⟩
    · rw [spins] at identifying
      cases identifying
  · rcases rotors k with same | spins
    · exact ⟨j, hj, .inr (.inr ⟨k, hk, same ▸ slow⟩)⟩
    · rw [spins] at slow
      exact absurd slow (by decide)

theorem Clc.Calm.of_falls {b b' : Clc} (h : b.Calm) (zones : b'.zones = b.zones)
    (trays : ∀ j : Fin 6, b'.trays[j].state = b.trays[j].state ∨ b'.trays[j].state = .spinup)
    (rotors : ∀ k : Fin 12, b'.rotors[k].state = b.rotors[k].state ∨ b'.rotors[k].state = .spinup) : b'.Calm := by
  intro z
  have before := h z
  rw [boostBegins, Bool.and_eq_false_imp] at before ⊢
  rw [zones]
  exact fun must => before (boostCondition_iff.2 (Clc.mustBoost_of_falls trays rotors (boostCondition_iff.1 must)))

theorem Clc.Calm.boostLook {c : At Clc} (h : c.own.Calm) (z : Fin 3) : (boostLook z c).own.Calm := by
  intro x
  rw [boostBegins, boostCondition_boostLook, boostLook_zones, setAt_get]
  split_ifs with here
  · subst here
    exact Bool.and_not_self _
  · exact h x

/-- From c to d no boost has begun and none is due: the trays stand, and there are marks alone. -/
structure Unboosted (c d : At Clc) : Prop where
  trays : d.own.trays = c.own.trays
  calm : d.own.Calm
  quiet : Bus.Sends [] [] c.bus d.bus

namespace Unboosted

variable {c d : At Clc}

theorem look (h : Unboosted c d) (z : Fin 3) : Unboosted c (boostLook z d) :=
  ⟨(boostLook_trays_of_not_begins (h.calm z)).trans h.trays, h.calm.boostLook z,
    h.quiet.quiet (boostLook_sends_of_not_begins (h.calm z))⟩

theorem spinRotor (h : Unboosted c d) (k : Fin 12) : Unboosted c (spinRotor d k) := by
  refine look (d := writeRotor k d.own.rotors[k].spun d) ⟨h.trays, ?_, h.quiet.quiet (writeRotor_sends d k d.own.rotors[k].spun)⟩ _
  refine h.calm.of_falls rfl (fun _ => .inl rfl) fun i => ?_
  rw [writeRotor_own, setAt_get]
  split_ifs
  · exact .inr rfl
  · exact .inl rfl

end Unboosted

/-! ### A tray that enters SPINUP (R94) -/

/-- The record of a tray that has been identified, or given up. -/
def TrayRec.spinning (r : TrayRec) : TrayRec :=
  { r with state := .spinup, tryNo := none, retryTimer := .stopped, duty := 100, spinTimer := .running 5000 }

theorem enterSpinup_eq (j : Fin 6) (r : TrayRec) (c : At Clc) : enterSpinup j r c =
    sendDuty (boostLook (zoneOfTray j) ((rotorsOf j).foldl spinRotor (writeTray j r.spinning c))) j := rfl

theorem spunUp_unboosted {c : At Clc} (h : c.own.Sound) (j : Fin 6) (r : TrayRec) :
    Unboosted (writeTray j r.spinning c)
      (boostLook (zoneOfTray j) ((rotorsOf j).foldl spinRotor (writeTray j r.spinning c))) := by
  refine Unboosted.look (foldl_keeps (I := Unboosted (writeTray j r.spinning c)) (fun d k hd => hd.spinRotor k) _
    ⟨rfl, h.calm.of_falls rfl (fun i => ?_) fun _ => .inl rfl, .refl _⟩) _
  rw [writeTray_own, setAt_get]
  split_ifs
  · exact .inr rfl
  · exact .inl rfl

section spinup

variable {c : At Clc} (h : c.own.Sound) (j : Fin 6) (r : TrayRec)

include h

theorem enterSpinup_trays : (enterSpinup j r c).own.trays = setAt c.own.trays j { r.spinning with pwmLatch := 1000 } := by
  rw [enterSpinup_eq, sendDuty_own, (spunUp_unboosted h j r).trays]
  rfl

theorem enterSpinup_sends :
    Bus.Sends [] [{ tray := j, present := true, fmax := r.fmax, duty := 100 }] c.bus (enterSpinup j r c).bus := by
  have quiet := (writeTray_sends c j r.spinning).quiet (spunUp_unboosted h j r).quiet
  have told := quiet.quiet (sendDuty_sends _ j)
  rw [Clc.dutyReport, (spunUp_unboosted h j r).trays, writeTray_own, setAt_get_self] at told
  exact told

omit h in
theorem enterSpinup_rotor (k : Fin 12) : (enterSpinup j r c).own.rotors[k] =
    if trayOfRotor k = j then c.own.rotors[k].spun else c.own.rotors[k] := by
  rw [enterSpinup_eq, sendDuty_own, boostLook_rotors, spinRotor_moves.rotor]
  rfl

end spinup

/-! ### The tries (R93) -/

/-- The outcome of a try is a good inventory. -/
def GoodTray (o : LineOutcome) (f m : Nat) : Prop :=
  ∃ data, o = .ok data ∧ field data 0 2 = f ∧ field data 2 2 = m ∧ 10 ≤ f ∧ f ≤ 200 ∧ 1000 ≤ m ∧ m ≤ 30000

theorem goodTray_eq_some {o : LineOutcome} {f m : Nat} : goodTray o = some (f, m) ↔ GoodTray o f m := by
  unfold goodTray GoodTray
  cases o with
  | ok data =>
    simp only [Option.ite_none_right_eq_some, Option.some.injEq, Prod.mk.injEq, LineOutcome.ok.injEq, exists_eq_left']
    constructor
    · rintro ⟨range, rfl, rfl⟩
      exact ⟨rfl, rfl, range⟩
    · rintro ⟨rfl, rfl, range⟩
      exact ⟨range, rfl, rfl⟩
  | _ => simp

theorem goodTray_eq_none {o : LineOutcome} (bad : ∀ f m, ¬ GoodTray o f m) : goodTray o = none :=
  Option.eq_none_iff_forall_ne_some.2 fun x e => bad x.1 x.2 (goodTray_eq_some.1 e)

/-- A try that failed changes a field of R81 and is marked. -/
theorem writeTray_nextTry {c : At Clc} (h : c.own.Sound) {j : Fin 6} {n : Nat} (tries : c.own.trays[j].tryNo = some n) :
    writeTray j { c.own.trays[j] with tryNo := some (n + 1), retryTimer := .running 100 } c =
    { own := { c.own with
        trays := setAt c.own.trays j { c.own.trays[j] with tryNo := some (n + 1), retryTimer := .running 100 } }
      bus := { c.bus with toSpw := c.bus.toSpw ++ [.tray j] } } := by
  rw [writeTray_of_latch (by exact h.latch_right j), markIf_eq, if_pos]
  rw [bne_iff_ne]
  intro same
  have numbers : some (n + 1) = some n := (congrArg TrayRec.tryNo same).trans tries
  simp at numbers

section tries

variable {c : At Clc} {j : Fin 6} {n : Nat} {o : LineOutcome} (state : c.own.trays[j].state = .identifying)
  (tries : c.own.trays[j].tryNo = some n) (waits : c.own.trays[j].retryTimer = .stopped)

include state tries waits

theorem trayTry_eq : trayTry j c.own.trays[j].epoch o c =
    (goodTray o).elim
      (if n < 3 then writeTray j { c.own.trays[j] with tryNo := some (n + 1), retryTimer := .running 100 } c
        else enterSpinup j { c.own.trays[j] with source := .default }
          { c with bus := c.bus.raise .fanTrayAbsent j.val })
      (fun x => enterSpinup j { c.own.trays[j] with fmax := x.1, rmax := x.2, source := .identified }
        { c with bus := c.bus.clearAlarm .fanTrayAbsent j.val }) := by
  unfold trayTry
  dsimp only
  split
  next untried => exact absurd (tries.symm.trans untried) (by simp)
  next n' tries' =>
    obtain rfl : n = n' := Option.some.inj (tries.symm.trans tries')
    rw [if_neg (by simp only [state, waits, ne_eq, not_true_eq_false, or_self, not_false_eq_true])]
    cases goodTray o <;> rfl

end tries

theorem exec_trayInventoryAnswer {s : State} {j : Fin 6} {o : LineOutcome} {cmd : LineCommand} {who : MlcUser} {tag : Nat}
    {rest : List MlcAnswer}
    (hq : s.bus.mlcClc = { req := { who := who, dev := .tray j, cmd := cmd, tag := tag }, outcome := o } :: rest)
    {d : At Clc} (hd : trayTry j tag o { own := s.clc, bus := { s.bus with mlcClc := rest } } = d) :
    exec .trayInventoryAnswer s = .next { s with clc := d.own, bus := d.bus } := by
  change execTrayInventoryAnswer s = _
  simp only [execTrayInventoryAnswer, hq]
  exact congrArg Host.Outcome.next (onClc_eq hd)

/-- Settles O44: a tray lost, a tray gained, the end of a wait, and the outcome of a try. -/
theorem traysAreLostGainedAndIdentified : Obligations.TraysAreLostGainedAndIdentified := by
  unfold Obligations.TraysAreLostGainedAndIdentified
  refine ⟨fun s j rest h hq => ?_, fun s j rest h hq => ?_, fun s j ms h runs => ?_, fun s j o n rest h => ?_⟩
  · intro r z
    let c : At Clc := { own := s.clc, bus := { s.bus with tbClc := rest } }
    have taken : exec .trayPresenceLost s = .next ((s.withBus c.bus).onClc (trayLost j)) := by
      change execTrayPresenceLost s = _
      simp only [execTrayPresenceLost, hq, c]
    obtain ⟨zones, -, rotors⟩ := trayLost_own (c := c) h j
    obtain ⟨boosts, told⟩ := trayLost_sends j c
    refine ⟨_, taken, rfl, trayLost_tray (c := c) h j, zones, rotors, ?_, boosts, ?_⟩
    · exact told.toAtu.trans (List.append_assoc _ _ _).symm
    · refine told.clcPbu.trans ((List.append_assoc _ _ _).symm.trans (congrArg (s.bus.clcPbu ++ boosts ++ ·) ?_))
      exact List.map_congr_left fun i here => trayLost_report (c := c) h (mem_traysOf.1 here)
  · intro r absent
    let c : At Clc := { own := s.clc, bus := { s.bus with tbClc := rest } }
    have taken : exec .trayPresenceGained s = .next ((s.withBus c.bus).onClc (trayGained j)) := by
      change execTrayPresenceGained s = _
      simp only [execTrayPresenceGained, hq, c]
    refine ⟨_, taken.trans (congrArg Host.Outcome.next (onClc_eq rfl)), ?_⟩
    simp only [State.mk.injEq, true_and, and_true]
    exact ⟨trayGained_own (c := c) h absent, trayGained_bus (c := c) h absent⟩
  · change Host.Outcome.next ((s.withBus s.bus).onClc (trayRetry j)) = _
    rw [onClc_eq (trayRetry_running (c := { own := s.clc, bus := s.bus }) h runs)]
    rfl
  · intro r hq state tries waits good spins
    let c : At Clc := { own := s.clc, bus := { s.bus with mlcClc := rest } }
    have tried := trayTry_eq (c := c) (o := o) state tries waits
    have spun {source : InventorySource} {f m : Nat} {raised : Bool} {b : Bus}
        (asked : Bus.Sends [{ raised := raised, kind := .fanTrayAbsent, object := j.val }] [] c.bus b)
        (e : trayTry j r.epoch o c = enterSpinup j { r with source := source, fmax := f, rmax := m } { c with bus := b }) :
        spins source f m raised := by
      have told := asked.trans (enterSpinup_sends (c := { c with bus := b }) h j { r with source := source, fmax := f, rmax := m })
      refine ⟨_, exec_trayInventoryAnswer hq e, rfl, ?_, fun k => enterSpinup_rotor (c := { c with bus := b }) j _ k,
        told.toAtu, told.clcPbu, told.toMlc⟩
      refine (enterSpinup_trays (c := { c with bus := b }) h j _).trans ?_
      unfold TrayRec.spinning
      rw [← waits]
    refine ⟨fun f m isGood => ?_, fun bad last => ?_, fun bad more => ?_⟩
    · rw [goodTray_eq_some.2 isGood] at tried
      exact spun (.clearAlarm _ _ _) tried
    · rw [goodTray_eq_none bad, Option.elim_none, if_neg (not_lt.2 last)] at tried
      exact spun (.raise _ _ _) tried
    · rw [goodTray_eq_none bad, Option.elim_none, if_pos more] at tried
      rw [exec_trayInventoryAnswer hq (tried.trans (writeTray_nextTry (c := c) h tries))]

end Sys2Proof.Machine
